-- ==== Sys2Proof/Word.lean ====
section
/-! DEFINITION. The word types of the Fororn sequencer and of octet strings.
The Ledger's values are plain `Nat`s (the raw little-endian number of R4, R36), so only what the manual treats as
bits is a bit vector: the sequencer's 32-bit registers and its 14-bit program words, and octets. -/

namespace Sys2Proof

/-- One octet of a frame, a memory or an OCT(n) value. -/
abbrev Byte := BitVec 8

/-- One 32-bit word of the Fororn sequencer (R294). -/
abbrev Word := BitVec 32

/-- One 14-bit program word of the Fororn sequencer (R293). -/
abbrev PWord := BitVec 14

end Sys2Proof
end

