-- ==== Sys2Proof/Syntax.lean ====
section
/-! DEFINITION. The commands the module takes: one constructor per row of the table of operations and events, with what
each brings from outside (a frame, a written value, a sample, a level). Instances are numbered from 0 (R7); counts
that the manual fixes are bounds of the operand's type. -/

namespace Sys2Proof

/-- The path on which a BLL frame arrives (Table 03-1, Table 03-9). -/
inductive Via
  | uplink | t1s | can | service
  deriving DecidableEq, Repr

/-- The address of the module that a datagram was sent to (R102). -/
inductive HostIp
  | v4 | v6 | linkLocal
  deriving DecidableEq, Repr

/-- Where a BLL frame comes from: its path, the address there (IP address and port, or CAN channel), the switch port it
arrived on, the traffic class it arrived in (R76), and on an Ethernet path which address of the module it was sent to. -/
structure Origin where
  via : Via
  addr : Nat
  port : Nat := 0
  tc : Nat
  ip : HostIp := .linkLocal
  deriving DecidableEq, Repr

/-- A BLL frame by its fields (Table 03-2, R91). `len` is the header's L and `payload` the octets between header and tag
as they arrived; `cut` says the frame is shorter than its minimum. The message type is the command's. -/
structure Frame where
  version : Nat
  dest : Nat
  source : Nat
  session : Nat
  flags : Nat
  fc : Nat
  len : Nat
  payload : List Byte
  tag : Nat
  cut : Bool := false
  deriving DecidableEq, Repr

/-- Who writes: a session, or a context through its mailbox (R19, R41). -/
inductive Writer
  | session (k : Fin 128)
  | context (c : Fin 128)
  deriving DecidableEq, Repr

/-- One write of a posting: the entry, the type code and the value's octets (Table 03-2's item). -/
structure Write where
  index : Nat
  sub : Nat
  code : Nat
  value : List Byte
  deriving DecidableEq, Repr

/-- One cell's part of a sample set (R117): current in counts of 6.25 mA and pin voltage in counts of 10 mV, before the
converters' ranges apply. -/
structure CellSample where
  chan : Fin 512
  current : Int
  pin : Int
  limiter : Bool := false
  deriving DecidableEq, Repr

/-- A source of OPEN frames on one transport (R84). -/
structure OpenSource where
  via : Via
  id : Nat
  deriving DecidableEq, Repr

/-- One poll of a handle input: which input, and the capacitance read (R434). -/
structure HandleReading where
  input : Fin 8
  value : Nat
  deriving DecidableEq, Repr

/-- The entries whose committed write closes the network sessions (R98). -/
inductive AddressEntry
  | node | ipv4 | ipv6
  deriving DecidableEq, Repr

/-- Why a supervisor pair stops (R482, Table 17-10). -/
inductive StopCause
  | mismatch | memory
  deriving DecidableEq, Repr

/-- What the switch sees of a frame at its forwarding decision (R357): addresses, VLAN tag, EtherType, R-TAG number, its
length from destination address to check sequence and the octets after the EtherType. -/
structure EthHead where
  dst : Nat
  src : Nat
  tagged : Bool := false
  vid : Nat := 0
  pcp : Nat := 0
  etype : Nat
  rtag : Option Nat := none
  len : Nat
  data : List Byte := []
  deriving DecidableEq, Repr

/-- What MACsec found in a received frame (R380): not protected, valid under an association number, or failed. -/
inductive MacsecResult
  | unprotected | valid (an : Fin 2) | failed
  deriving DecidableEq, Repr

/-- What the ECC of an item's coins found (R365): nothing, a corrected error, or an uncorrectable one before or after the
transmission has begun. -/
inductive EccResult
  | clean | corrected | lostBefore | lostAfter
  deriving DecidableEq, Repr

/-- A CAN frame: format (0 classical, 1 FD, 2 XL), identifier, data and the bits of Table 14-5. -/
structure CanFrame where
  format : Nat := 0
  ext : Bool := false
  remote : Bool := false
  brs : Bool := false
  esi : Bool := false
  ident : Nat
  data : List Byte := []
  sdt : Nat := 0
  vcid : Nat := 0
  accept : Nat := 0
  deriving DecidableEq, Repr

/-- How a transmit attempt ends (R397, R399 to R401): sent, arbitration lost, a bit error after the arbitration field, an
acknowledgement error (with a dominant bit seen during the passive error flag, or not), or another error. -/
inductive CanOutcome
  | sent | lost | bitAfterArbitration | bit | stuff | form | ack (dominant : Bool) | crc
  deriving DecidableEq, Repr

/-- The bus of a proxied device (Table 03-11). -/
inductive RelayBus
  | can (k : Fin 16)
  | lin (k : Fin 8)
  | t1s (k : Fin 6)
  deriving DecidableEq, Repr

/-- A tally message (Table 15-1) but its type, which the command names. -/
structure TallyMsg where
  version : Nat := 1
  ring : Nat
  dest : Nat
  source : Nat
  round : Nat
  mask : Nat := 0
  depth : Nat := 0
  reason : Nat := 0
  reserved : Nat := 0
  sealEnd : Nat := 0
  tag : Nat
  deriving DecidableEq, Repr

/-- A frame from an access anchor (Table 16-1). -/
structure AnchorFrame where
  version : Nat := 1
  address : Nat
  type : Nat
  flags : Nat := 0
  timestamp : Nat := 0
  stsIndex : Nat := 0
  payload : List Byte := []
  deriving DecidableEq, Repr

/-- The supplies of the logic and of the AON domain (R521). -/
inductive SupplyPin
  | ka | vloga | vlogb
  deriving DecidableEq, Repr

/-- The commands of the block, one per row of the table of operations and events. DESIGN CHOICE: notes/assumptions/17.md. -/
inductive Instr
  /-- OPEN (R82): A BLL OPEN frame is checked in order and answered with a CHALLENGE that assigns a session or carries a refusal status. -/
  | bllOpen (o : Origin) (f : Frame)
  /-- OPEN_LOCKOUT_END (R84): The 60 s lock-out of a source expires and its OPEN frames are checked again. -/
  | openLockoutEnd (source : OpenSource) (addr : Nat)
  /-- PROVE (R82): A PROVE frame for a session awaiting one is checked and answered with OPENED, which activates the session or frees it. -/
  | bllProve (o : Origin) (f : Frame)
  /-- PROVE_TIMEOUT (R82): No PROVE arrives within 1,000 ms of the CHALLENGE and the reserved session is freed. -/
  | proveTimeout (k : Fin 128)
  /-- READ (R558): A READ request of up to 32 items is checked item by item and answered with values taken at one instant, or refused whole. -/
  | bllRead (o : Origin) (f : Frame)
  /-- WRITE (R59): A WRITE request, a posting of 1 to 32 writes, is evaluated and refused whole or committed at one module tick. -/
  | bllWrite (o : Origin) (f : Frame)
  /-- SUBSCRIBE (R96): A SUBSCRIBE request creates a subscription with mode, class, interval and deadband, or is refused. -/
  | bllSubscribe (o : Origin) (f : Frame)
  /-- UNSUBSCRIBE (R94): An UNSUBSCRIBE request ends a subscription of the session. -/
  | bllUnsubscribe (o : Origin) (f : Frame)
  /-- KEEPALIVE (R98): A KEEPALIVE request restarts the session's idle timeout and is answered with a prefix. -/
  | bllKeepalive (o : Origin) (f : Frame)
  /-- CLOSE (R98): A CLOSE request completes earlier requests, sends its response and frees the session number. -/
  | bllClose (o : Origin) (f : Frame)
  /-- IDLE_TIMEOUT (R98): No authenticated request arrives for IdleTimeout and the session closes. -/
  | idleTimeout (k : Fin 128)
  /-- NOTIFY_INTERVAL (R96): The interval of a periodic or minimum-interval subscription expires and a NOTIFY is queued. -/
  | notifyInterval (k : Fin 128) (sub : Fin 64)
  /-- SERVICE_RESUME (R26): Ledger service resumes after a takeover or activation blank and requests queued before it are evaluated in arrival order. -/
  | serviceResume
  /-- PROXY_TIMEOUT (R74): A proxied device does not answer within ProxyTimeout and the request is answered BUSY. -/
  | proxyTimeout (k : Fin 128)
  /-- RELAY_RESPONSE (R416): A relay answer with matching device address and tag arrives and the module builds the BLL response from it. -/
  | relayResponse (bus : RelayBus) (device tag type status position : Nat) (items : List Byte)
  /-- ENTRY_WRITE (R57): A write of an entry that has no row of its own takes effect atomically at its commit tick. -/
  | entryWrite (w : Writer) (x : Write)
  /-- FUNCTION_STATE_WRITE (R47): A FunctionState write moves a function by an allowed lifecycle transition, validating and storing on entry to Active. -/
  | functionStateWrite (w : Writer) (cls inst value : Nat)
  /-- PARAMETER_STORE_COMPLETE (R43): An MRAM store of a function's persistent entries completes, ConfigGeneration increments and the waiting posting commits. -/
  | parameterStoreComplete
  /-- PERSIST_STORE_RETRY (R213): A declined store of a persistent non-function entry is requested again every 100 ms. -/
  | persistStoreRetry
  /-- CELL_OWNER_WRITE (R54): A CellOwner write is decided by the present owner and moves the cell and its whole structure together. -/
  | cellOwnerWrite (w : Writer) (n : Fin 512) (owner : Nat)
  /-- CELL_COMMAND_WRITE (R110): A cell command from its owner commits, requests a loan for a heavy turn-on, or is applied at the next bank slot. -/
  | cellCommandWrite (w : Writer) (n : Fin 512) (cmd : Nat)
  /-- PWM_DUTY_WRITE (R108): A PwmDuty write by the owner is stored and used from the start of the next PWM period. -/
  | pwmDutyWrite (w : Writer) (n : Fin 512) (duty : Nat)
  /-- SET_MODULE_TIME (R70): A SetModuleTime write steps free-running module time forward to the written value. -/
  | setModuleTime (w : Writer) (time : Nat)
  /-- KEY_SLOT_WRITE (R85): A committed write of a slot's KeyValue or KeyBinding closes every session opened with that slot. -/
  | keySlotWrite (w : Writer) (slot : Fin 16) (binding : Bool) (value : Nat)
  /-- ADDRESS_WRITE (R98): A committed write of NodeAddress or an IP address closes every network session after its response. -/
  | addressWrite (w : Writer) (which : AddressEntry) (value : Nat)
  /-- COUNTERS_CLEAR (R166): A write of 1 to a CountersClear entry returns the counters of its group to 0. -/
  | countersClear (w : Writer) (index value : Nat)
  /-- TELLER_SCAN (R202): At every module tick the Teller scans its queue in total order and grants requests whose budgets fit. -/
  | tellerScan
  /-- PATIENCE_EXPIRED (R204): A request not granted within its patience is declined at arrival plus patience. -/
  | patienceExpired (requester : Nat)
  /-- LOAN_DURATION_END (R189): A loan's duration elapses and it is returned, its cells entering the free current. -/
  | loanDurationEnd (slot : Fin 128)
  /-- LIMIT_ENGAGE (R140): Current through a conducting switch reaches CurrentLimit and the cell enters Limiting. -/
  | limitEngage (n : Fin 512)
  /-- THERMAL_SHUTDOWN (R141): A cell junction reaches 175 °C and the cell turns off and trips. -/
  | thermalShutdown (n : Fin 512) (current : Int)
  /-- THERMAL_RECOVER (R141): The junction falls to 160 °C, ThermalOff clears and a committed conducting command is driven. -/
  | thermalRecover (n : Fin 512)
  /-- LIMIT_DWELL_EXPIRY (R142): Accumulated Limiting reaches LimitDwell and the cell trips. -/
  | limitDwellExpiry (n : Fin 512) (current : Int)
  /-- RETRY_SPACING_EXPIRY (R144): RetrySpacing elapses with the junction cool and a conducting command, and a retry loan is requested. -/
  | retrySpacingExpiry (n : Fin 512)
  /-- CELL_SAMPLE (R117): Every bank samples current and pin voltage of all cells at every 20th tick and updates measurements, diagnostics and estimates. -/
  | cellSample (set : List CellSample) (supply : List (Fin 16 × Nat)) (logicMa : Nat)
  /-- TEMPERATURE_SAMPLE (R117): Cell temperatures are sampled at every 100th tick. -/
  | temperatureSample (set : List (Fin 512 × Int))
  /-- SUPPLY_OFF_ENTER (R163): BATb has been below 4.5 V for 50 µs and every cell of the bank turns off into SupplyOff. -/
  | supplyOffEnter (b : Fin 16)
  /-- SUPPLY_OFF_END (R164): BATb has been above 6.5 V for 100 µs and each cell resumes according to its pre-empted state. -/
  | supplyOffEnd (b : Fin 16)
  /-- BANK_LOGIC_POWER_LOSS (R165): BATb falls below 3.0 V and the bank logic resets, losing protection states and proofs. -/
  | bankLogicPowerLoss (b : Fin 16)
  /-- BANK_LOGIC_RETURN (R165): BATb returns above 6.5 V for 100 µs and the bank realigns, reloads its configuration and reconciles each cell. -/
  | bankLogicReturn (b : Fin 16)
  /-- PROOF_REQUEST (R155): A write of 1 to ProofRequest schedules a freewheel proof on an OFF LoadClass 5 cell. -/
  | proofRequest (w : Writer) (n : Fin 512) (value : Nat)
  /-- PROOF_START (R155): A freewheel proof starts 5 ms after entry to OFF or every 60 s while OFF. -/
  | proofStart (n : Fin 512)
  /-- PROOF_COMPLETE (R153): The two-step freewheel proof ends and sets or clears FreewheelProven. -/
  | proofComplete (n : Fin 512) (v25 v50 : Int)
  /-- OFF_DIAG_CYCLE (R159): An off-state diagnostic cycle starts its 1 ms pull phase every OffDiagPeriod. -/
  | offDiagCycle (n : Fin 512)
  /-- OFF_DIAG_EVALUATE (R159): At the end of the pull phase the pin is compared with the open-load threshold. -/
  | offDiagEvaluate (n : Fin 512) (pin partner : Int)
  /-- STUCK_HIGH_CONFIRM (R159): The pin of an off cell has read above 60 % of BATb for 5 ms and StuckHigh sets. -/
  | stuckHighConfirm (n : Fin 512)
  /-- WIRED_OR_CONFIRM (R160): A wired-or condition held for its time sets WiredOr on both cells. -/
  | wiredOrConfirm (a n : Fin 512)
  /-- OPEN_ON_CONFIRM (R159): Current has stayed below OpenOnThreshold in every qualifying sample for OpenOnTime and OpenOn sets. -/
  | openOnConfirm (n : Fin 512)
  /-- BANK_COMMAND_SLOT (R129): At a bank command slot the queued commands are checked by CRC and applied together. -/
  | bankCommandSlot (b : Fin 16) (corrupt : List (Fin 512))
  /-- HEARTBEAT (R128): The supervisor sends each bank a heartbeat every 1 ms. -/
  | heartbeat
  /-- HEARTBEAT_LOST (R128): No heartbeat arrives for 1.35 to 1.70 ms and the bank enters escrow. -/
  | heartbeatLost (b : Fin 16)
  /-- TIME_ALIGNED (R127): A bank completes alignment of its timestamp counter to module time and sets TimeAligned. -/
  | timeAligned (b : Fin 16) (err : Int)
  /-- CLOCK_FAULT (R479): The bank clock has been outside 36 to 44 MHz for 10 ms and CLOCK_FAULT is raised. -/
  | clockFault (b : Fin 16) (hz : Nat)
  /-- OVERVOLTAGE (R136): BATb has stayed above 32 V for 1 ms and OVERVOLTAGE is raised. -/
  | overvoltage (b : Fin 16) (millivolts : Nat)
  /-- IMBALANCE_CONFIRM (R175): A gang member has stayed the imbalance candidate for 10 ms and a reserve takeover begins. -/
  | imbalanceConfirm (g : Fin 64)
  /-- TAKEOVER_DEADLINE (R175): Confirmation plus 2 ms passes and the failed member is released even though the reserve is not yet conducting. -/
  | takeoverDeadline (g : Fin 64)
  /-- TAKEOVER_RETRY (R176): After a declined takeover loan the bank requests it again every 10 ms while the gang conducts. -/
  | takeoverRetry (g : Fin 64)
  /-- PWM_PERIOD_START (R179): A cell's PWM period starts on the module-time grid and its on-phase begins with the committed duty. -/
  | pwmPeriodStart (n : Fin 512)
  /-- PWM_ON_END (R180): The on-time of a PWM period elapses and the switch turns off for the rest of the period. -/
  | pwmOnEnd (n : Fin 512)
  /-- INRUSH_WINDOW_END (R184): A lamp's inrush window ends, the limit returns to CurrentLimit and the loan is returned. -/
  | inrushWindowEnd (n : Fin 512)
  /-- COIL_ENERGISE (R223): A committed CoilCommand of 1 triggers an Energise of the slot. -/
  | coilEnergise (w : Writer) (e : Fin 64) (k : Fin 4)
  /-- COIL_RELEASE (R234): A committed CoilCommand of 0 releases the slot and ends its event. -/
  | coilRelease (w : Writer) (e : Fin 64) (k : Fin 4)
  /-- COIL_SCHEDULE_TIME (R223): Module time reaches ScheduleTime and the slot receives an Energise. -/
  | coilScheduleTime (e : Fin 64) (k : Fin 4)
  /-- TTP_MAX_EXPIRY (R225): TtpMax elapses without a crossing, TTP_LATE is recorded and the slot goes to Hold. -/
  | ttpMaxExpiry (e : Fin 64) (k : Fin 4)
  /-- PEAK_DWELL_END (R220): PeakDwell elapses and the slot enters Hold, Proportional or On and returns its loan. -/
  | peakDwellEnd (e : Fin 64) (k : Fin 4)
  /-- REGULATION_FAULT (R229): The current has stayed out of tolerance for RegFaultTime and RegulationFault sets. -/
  | regulationFault (e : Fin 64) (k : Fin 4)
  /-- DEFERRAL_EXPIRY (R231): A slot still deferred at T plus 2 ms is dropped with DROPPED_OVERLAP. -/
  | deferralExpiry (e : Fin 64) (k : Fin 4)
  /-- MIN_OFF_END (R233): MinOffTime elapses, the slot enters Off and a pending trigger starts. -/
  | minOffEnd (e : Fin 64) (k : Fin 4)
  /-- EVENT_LENGTH_END (R234): EventLength elapses after the Boost turn-on and the slot is released. -/
  | eventLengthEnd (e : Fin 64) (k : Fin 4)
  /-- SWITCHED_REARM (R235): 10 ms after a LoadClass 4 coil's turn-off its held trigger may start a Boost. -/
  | switchedRearm (e : Fin 64) (k : Fin 4)
  /-- DUTY_BUDGET_EXHAUSTED (R237): Energised time reaches the budget and LimitAction releases the slot or refuses new Boosts. -/
  | dutyBudgetExhausted (e : Fin 64) (k : Fin 4)
  /-- TRIP_PAUSE_END (R238): The tripped cell's RetrySpacing elapses and the slot accepts triggers again. -/
  | tripPauseEnd (e : Fin 64) (k : Fin 4)
  /-- SLOT_REARM (R238): A write of 1 to SlotRearm clears TripLatched and TripsUsed. -/
  | slotRearm (w : Writer) (e : Fin 64) (k : Fin 4) (value : Nat)
  /-- SAMPLE_BOUNDARY (R255): At each sample boundary a loop engine takes feedback, steps its generator and control law and commands its target. -/
  | sampleBoundary (e : Fin 48)
  /-- LOOP_STOP (R251): EngineControl Stop commands the target OFF at its commit tick and the engine enters Stopped. -/
  | loopStop (w : Writer) (e : Fin 48)
  /-- LOOP_RUN (R253): EngineControl Run starts a stopped engine through a motor-start loan or resumes a held one. -/
  | loopRun (w : Writer) (e : Fin 48)
  /-- LOOP_HOLD (R262): EngineControl Hold freezes the engine at the next boundary while the target keeps its drive. -/
  | loopHold (w : Writer) (e : Fin 48)
  /-- CONTROL_MODE_WRITE (R260): A ControlMode write sets ModePending for a handover at the next boundary. -/
  | controlModeWrite (w : Writer) (e : Fin 48) (mode : Nat)
  /-- LAG_CONFIRM (R259): Lagging has read 1 for LagTime and LAGGING is raised. -/
  | lagConfirm (e : Fin 48)
  /-- TRACK_CONFIRM (R259): The tracking error has exceeded TrackTolerance for TrackTime and TRACKING is raised. -/
  | trackConfirm (e : Fin 48)
  /-- EXTERNAL_FEEDBACK_TIMEOUT (R263): No ExternalFeedback is committed for ExternalTimeout and the engine becomes Suspended. -/
  | externalFeedbackTimeout (e : Fin 48)
  /-- INPUT_LEVEL_ACCEPT (R278): A debounce candidate holds for Debounce and the new input level is accepted. -/
  | inputLevelAccept (n : Fin 512)
  /-- WETTING_PULSE (R275): A pulsed wetting source runs for 200 µs at its grid time and yields one level sample. -/
  | wettingPulse (n : Fin 512) (pin : Int)
  /-- WIRE_BREAK_PHASE (R280): A 500 µs wire-break phase replaces wetting with 250 µA every 100 ms. -/
  | wireBreakPhase (n : Fin 512)
  /-- WIRE_BREAK_RESULT (R281): The phase's mean pin voltage is classified and two broken results set OpenOff and WireBreaks. -/
  | wireBreakResult (n : Fin 512)
  /-- COUNTER_EDGE (R283): An edge held for EdgeFilter is accepted and counted, with quadrature direction where configured. -/
  | counterEdge (n : Fin 512) (rising : Bool)
  /-- COUNTER_LOAD (R285): A CounterLoad write sets the channel's count at the bank slot of its commit. -/
  | counterLoad (w : Writer) (n : Fin 512) (value : Nat)
  /-- FIELD_SUPPLY_CHANGE (R289): A new FieldSupply band has held for 1 ms and FieldSupply changes. -/
  | fieldSupplyChange (b : Fin 16)
  /-- NOP (R297): nop does nothing. -/
  | sqNop (c : Fin 128)
  /-- RET (R306): ret pops the return address into pc. -/
  | sqRet (c : Fin 128)
  /-- RTI (R315): rti restores flags from TRAPFLAGS, jumps to TRAPPC and clears InTrap. -/
  | sqRti (c : Fin 128)
  /-- YIELD (R309): yield gives up the context's next issue slot. -/
  | sqYield (c : Fin 128)
  /-- WAIT (R309): wait blocks the context until an event in its mask is pending. -/
  | sqWait (c : Fin 128) (g : Fin 8)
  /-- WAIT_WAKE (R309): A pending event in the mask releases a waiting context, writing and consuming the events. -/
  | waitWake (c : Fin 128)
  /-- SWI (R309): swi traps with SWI and TRAPPC past the instruction. -/
  | sqSwi (c : Fin 128) (n : Fin 64)
  /-- BRK (R309): brk halts the context for the debugger, or traps with BREAK. -/
  | sqBrk (c : Fin 128)
  /-- ADD (R298): add adds gs to gd and sets Z N C V. -/
  | sqAdd (c : Fin 128) (gd gs : Fin 8)
  /-- SUB (R298): sub subtracts gs from gd and sets Z N C V. -/
  | sqSub (c : Fin 128) (gd gs : Fin 8)
  /-- AND (R298): and ANDs gs into gd. -/
  | sqAnd (c : Fin 128) (gd gs : Fin 8)
  /-- OR (R298): or ORs gs into gd. -/
  | sqOr (c : Fin 128) (gd gs : Fin 8)
  /-- XOR (R298): xor XORs gs into gd. -/
  | sqXor (c : Fin 128) (gd gs : Fin 8)
  /-- SHL (R299): shl shifts gd left by gs[4:0]. -/
  | sqShl (c : Fin 128) (gd gs : Fin 8)
  /-- SHR (R299): shr shifts gd right with zero fill. -/
  | sqShr (c : Fin 128) (gd gs : Fin 8)
  /-- SAR (R299): sar shifts gd right with sign fill. -/
  | sqSar (c : Fin 128) (gd gs : Fin 8)
  /-- ADDI (R298): addi adds a sign-extended 12-bit immediate. -/
  | sqAddi (c : Fin 128) (gd : Fin 8) (imm : BitVec 12)
  /-- SUBI (R298): subi subtracts a sign-extended 12-bit immediate. -/
  | sqSubi (c : Fin 128) (gd : Fin 8) (imm : BitVec 12)
  /-- ANDI (R298): andi ANDs a 12-bit immediate. -/
  | sqAndi (c : Fin 128) (gd : Fin 8) (imm : BitVec 12)
  /-- ORI (R298): ori ORs a 12-bit immediate. -/
  | sqOri (c : Fin 128) (gd : Fin 8) (imm : BitVec 12)
  /-- XORI (R298): xori XORs a 12-bit immediate. -/
  | sqXori (c : Fin 128) (gd : Fin 8) (imm : BitVec 12)
  /-- SHLI (R299): shli shifts left by an immediate count. -/
  | sqShli (c : Fin 128) (gd : Fin 8) (n : Fin 32)
  /-- SHRI (R299): shri shifts right by an immediate count with zero fill. -/
  | sqShri (c : Fin 128) (gd : Fin 8) (n : Fin 32)
  /-- SARI (R299): sari shifts right by an immediate count with sign fill. -/
  | sqSari (c : Fin 128) (gd : Fin 8) (n : Fin 32)
  /-- MOV (R298): mov copies gs to gd. -/
  | sqMov (c : Fin 128) (gd gs : Fin 8)
  /-- CMP (R298): cmp sets flags from gd minus gs. -/
  | sqCmp (c : Fin 128) (gd gs : Fin 8)
  /-- TST (R298): tst sets flags from gd AND gs. -/
  | sqTst (c : Fin 128) (gd gs : Fin 8)
  /-- NEG (R298): neg writes 0 minus gs to gd. -/
  | sqNeg (c : Fin 128) (gd gs : Fin 8)
  /-- NOT (R298): not writes the complement of gs to gd. -/
  | sqNot (c : Fin 128) (gd gs : Fin 8)
  /-- LDI (R298): ldi loads a sign-extended 12-bit immediate. -/
  | sqLdi (c : Fin 128) (gd : Fin 8) (imm : BitVec 12)
  /-- CMPI (R298): cmpi compares gd with a 12-bit immediate. -/
  | sqCmpi (c : Fin 128) (gd : Fin 8) (imm : BitVec 12)
  /-- MUL (R298): mul writes the low 32 bits of the product. -/
  | sqMul (c : Fin 128) (gd gs : Fin 8)
  /-- MULHS (R298): mulhs writes the high word of the signed product. -/
  | sqMulhs (c : Fin 128) (gd gs : Fin 8)
  /-- MULHU (R298): mulhu writes the high word of the unsigned product. -/
  | sqMulhu (c : Fin 128) (gd gs : Fin 8)
  /-- ADC (R298): adc adds with carry. -/
  | sqAdc (c : Fin 128) (gd gs : Fin 8)
  /-- SBC (R298): sbc subtracts with borrow. -/
  | sqSbc (c : Fin 128) (gd gs : Fin 8)
  /-- ROL (R299): rol rotates gd left. -/
  | sqRol (c : Fin 128) (gd gs : Fin 8)
  /-- ROR (R299): ror rotates gd right. -/
  | sqRor (c : Fin 128) (gd gs : Fin 8)
  /-- DIV (R300): div divides signed, defined without a trap for zero and overflow. -/
  | sqDiv (c : Fin 128) (gd gs : Fin 8)
  /-- DIVU (R300): divu divides unsigned. -/
  | sqDivu (c : Fin 128) (gd gs : Fin 8)
  /-- REM (R300): rem gives the signed remainder. -/
  | sqRem (c : Fin 128) (gd gs : Fin 8)
  /-- REMU (R300): remu gives the unsigned remainder. -/
  | sqRemu (c : Fin 128) (gd gs : Fin 8)
  /-- MIN (R298): min keeps the smaller signed value. -/
  | sqMin (c : Fin 128) (gd gs : Fin 8)
  /-- MAX (R298): max keeps the larger signed value. -/
  | sqMax (c : Fin 128) (gd gs : Fin 8)
  /-- MINU (R298): minu keeps the smaller unsigned value. -/
  | sqMinu (c : Fin 128) (gd gs : Fin 8)
  /-- MAXU (R298): maxu keeps the larger unsigned value. -/
  | sqMaxu (c : Fin 128) (gd gs : Fin 8)
  /-- LDIL (R296): ldil loads a 32-bit immediate from the word and two extension words. -/
  | sqLdil (c : Fin 128) (gd : Fin 8) (imm : Word)
  /-- ADDX (R298): addx adds a sign-extended 14-bit immediate. -/
  | sqAddx (c : Fin 128) (gd : Fin 8) (imm : BitVec 14)
  /-- SUBX (R298): subx subtracts a 14-bit immediate. -/
  | sqSubx (c : Fin 128) (gd : Fin 8) (imm : BitVec 14)
  /-- ANDX (R298): andx ANDs a 14-bit immediate. -/
  | sqAndx (c : Fin 128) (gd : Fin 8) (imm : BitVec 14)
  /-- ORX (R298): orx ORs a 14-bit immediate. -/
  | sqOrx (c : Fin 128) (gd : Fin 8) (imm : BitVec 14)
  /-- XORX (R298): xorx XORs a 14-bit immediate. -/
  | sqXorx (c : Fin 128) (gd : Fin 8) (imm : BitVec 14)
  /-- CMPX (R298): cmpx compares gd with a 14-bit immediate. -/
  | sqCmpx (c : Fin 128) (gd : Fin 8) (imm : BitVec 14)
  /-- TSTX (R298): tstx tests gd against a 14-bit immediate. -/
  | sqTstx (c : Fin 128) (gd : Fin 8) (imm : BitVec 14)
  /-- LDIX (R298): ldix loads a sign-extended 14-bit immediate. -/
  | sqLdix (c : Fin 128) (gd : Fin 8) (imm : BitVec 14)
  /-- REV (R298): rev reverses the 32 bits of gs. -/
  | sqRev (c : Fin 128) (gd gs : Fin 8)
  /-- REVB (R298): revb reverses the bits within each byte. -/
  | sqRevb (c : Fin 128) (gd gs : Fin 8)
  /-- BSWAP (R298): bswap reverses the byte order. -/
  | sqBswap (c : Fin 128) (gd gs : Fin 8)
  /-- PAR (R301): par writes the parity of gs. -/
  | sqPar (c : Fin 128) (gd gs : Fin 8)
  /-- CLZ (R298): clz counts leading zeros. -/
  | sqClz (c : Fin 128) (gd gs : Fin 8)
  /-- POPC (R298): popc counts ones. -/
  | sqPopc (c : Fin 128) (gd gs : Fin 8)
  /-- SXB (R298): sxb sign-extends the low byte. -/
  | sqSxb (c : Fin 128) (gd gs : Fin 8)
  /-- SXH (R298): sxh sign-extends the low half-word. -/
  | sqSxh (c : Fin 128) (gd gs : Fin 8)
  /-- BSET (R301): bset sets one bit. -/
  | sqBset (c : Fin 128) (gd : Fin 8) (lsb : Fin 32)
  /-- BCLR (R301): bclr clears one bit. -/
  | sqBclr (c : Fin 128) (gd : Fin 8) (lsb : Fin 32)
  /-- BTGL (R301): btgl toggles one bit. -/
  | sqBtgl (c : Fin 128) (gd : Fin 8) (lsb : Fin 32)
  /-- BTST (R301): btst sets Z from one bit. -/
  | sqBtst (c : Fin 128) (gd : Fin 8) (lsb : Fin 32)
  /-- EXTU (R301): extu extracts an unsigned field. -/
  | sqExtu (c : Fin 128) (gd gs : Fin 8) (lsb width1 : Fin 32)
  /-- EXTS (R301): exts extracts a signed field. -/
  | sqExts (c : Fin 128) (gd gs : Fin 8) (lsb width1 : Fin 32)
  /-- INS (R301): ins inserts a field. -/
  | sqIns (c : Fin 128) (gd gs : Fin 8) (lsb width1 : Fin 32)
  /-- CRC8 (R302): crc8 performs one SAE J1850 step on a byte. -/
  | sqCrc8 (c : Fin 128) (gd gs : Fin 8)
  /-- CRC16 (R302): crc16 performs one CCITT step on a byte. -/
  | sqCrc16 (c : Fin 128) (gd gs : Fin 8)
  /-- CRC32 (R302): crc32 performs one IEEE 802.3 step on a byte. -/
  | sqCrc32 (c : Fin 128) (gd gs : Fin 8)
  /-- CRC32W (R302): crc32w performs four IEEE 802.3 steps on a word. -/
  | sqCrc32w (c : Fin 128) (gd gs : Fin 8)
  /-- CRC8M (R302): crc8m steps on a memory byte and advances the pointer. -/
  | sqCrc8m (c : Fin 128) (gd gs : Fin 8)
  /-- CRC16M (R302): crc16m steps on a memory byte and advances the pointer. -/
  | sqCrc16m (c : Fin 128) (gd gs : Fin 8)
  /-- CRC32M (R302): crc32m steps on a memory byte and advances the pointer. -/
  | sqCrc32m (c : Fin 128) (gd gs : Fin 8)
  /-- LDW (R303): ldw loads a word at gb. -/
  | sqLdw (c : Fin 128) (gd gb : Fin 8)
  /-- LDW_DISP (R303): ldw loads a word at gb plus a 12-bit displacement. -/
  | sqLdwDisp (c : Fin 128) (gd gb : Fin 8) (d : BitVec 12)
  /-- LDW_POST (R304): ldw loads a word at gb and increments gb by 4. -/
  | sqLdwPost (c : Fin 128) (gd gb : Fin 8)
  /-- LDW_PRE (R304): ldw decrements gb by 4 and loads the word there. -/
  | sqLdwPre (c : Fin 128) (gd gb : Fin 8)
  /-- STW (R303): stw stores a word at gb. -/
  | sqStw (c : Fin 128) (gs gb : Fin 8)
  /-- STW_DISP (R303): stw stores a word at gb plus a 12-bit displacement. -/
  | sqStwDisp (c : Fin 128) (gs gb : Fin 8) (d : BitVec 12)
  /-- STW_POST (R304): stw stores a word at gb and increments gb by 4. -/
  | sqStwPost (c : Fin 128) (gs gb : Fin 8)
  /-- STW_PRE (R304): stw decrements gb by 4 and stores there. -/
  | sqStwPre (c : Fin 128) (gs gb : Fin 8)
  /-- LDB (R303): ldb loads a zero-extended byte. -/
  | sqLdb (c : Fin 128) (gd gb : Fin 8) (d : BitVec 14)
  /-- LDBS (R303): ldbs loads a sign-extended byte. -/
  | sqLdbs (c : Fin 128) (gd gb : Fin 8) (d : BitVec 14)
  /-- LDH (R303): ldh loads a zero-extended half-word. -/
  | sqLdh (c : Fin 128) (gd gb : Fin 8) (d : BitVec 14)
  /-- LDHS (R303): ldhs loads a sign-extended half-word. -/
  | sqLdhs (c : Fin 128) (gd gb : Fin 8) (d : BitVec 14)
  /-- STB (R303): stb stores a byte. -/
  | sqStb (c : Fin 128) (gs gb : Fin 8) (d : BitVec 14)
  /-- STH (R303): sth stores a half-word. -/
  | sqSth (c : Fin 128) (gs gb : Fin 8) (d : BitVec 14)
  /-- LDBP (R304): ldbp loads a byte and increments the pointer. -/
  | sqLdbp (c : Fin 128) (gd gb : Fin 8)
  /-- STBP (R304): stbp stores a byte and increments the pointer. -/
  | sqStbp (c : Fin 128) (gs gb : Fin 8)
  /-- LDWD (R303): ldwd loads a word at a 14-bit displacement. -/
  | sqLdwd (c : Fin 128) (gd gb : Fin 8) (d : BitVec 14)
  /-- STWD (R303): stwd stores a word at a 14-bit displacement. -/
  | sqStwd (c : Fin 128) (gs gb : Fin 8) (d : BitVec 14)
  /-- LDWX (R303): ldwx loads a word at gb plus 4 times gi. -/
  | sqLdwx (c : Fin 128) (gd gb gi : Fin 8)
  /-- STWX (R303): stwx stores a word at gb plus 4 times gi. -/
  | sqStwx (c : Fin 128) (gs gb gi : Fin 8)
  /-- LDBX (R303): ldbx loads a byte at gb plus gi. -/
  | sqLdbx (c : Fin 128) (gd gb gi : Fin 8)
  /-- STBX (R303): stbx stores a byte at gb plus gi. -/
  | sqStbx (c : Fin 128) (gs gb gi : Fin 8)
  /-- BRANCH (R298): b‹cc› branches by a 12-bit offset when its condition holds. -/
  | sqBranch (c : Fin 128) (cond : Fin 15) (off : BitVec 12)
  /-- BRANCH_X (R298): bx‹cc› branches by a 14-bit offset when its condition holds. -/
  | sqBranchX (c : Fin 128) (cond : Fin 15) (off : BitVec 14)
  /-- CALL (R306): call pushes pc_next and jumps to a 12-bit address. -/
  | sqCall (c : Fin 128) (addr : BitVec 12)
  /-- JMP (R295): jmp jumps to a 12-bit address. -/
  | sqJmp (c : Fin 128) (addr : BitVec 12)
  /-- CALLR (R306): callr pushes pc_next and jumps to gs. -/
  | sqCallr (c : Fin 128) (gs : Fin 8)
  /-- JMPR (R295): jmpr jumps to gs. -/
  | sqJmpr (c : Fin 128) (gs : Fin 8)
  /-- CALLX (R306): callx pushes pc_next and jumps to a 13-bit address. -/
  | sqCallx (c : Fin 128) (addr : BitVec 13)
  /-- JMPX (R295): jmpx jumps to a 13-bit address. -/
  | sqJmpx (c : Fin 128) (addr : BitVec 13)
  /-- PUSH (R305): push stores gs on the stack within its window. -/
  | sqPush (c : Fin 128) (gs : Fin 8)
  /-- POP (R305): pop loads gd from the stack. -/
  | sqPop (c : Fin 128) (gd : Fin 8)
  /-- PUSHM (R305): pushm pushes the masked registers after checking every word. -/
  | sqPushm (c : Fin 128) (mask : BitVec 8)
  /-- POPM (R305): popm pops the masked registers after checking every word. -/
  | sqPopm (c : Fin 128) (mask : BitVec 8)
  /-- ADDSP (R305): addsp adds a 14-bit immediate to sp. -/
  | sqAddsp (c : Fin 128) (imm : BitVec 14)
  /-- GETSP (R305): getsp copies sp to gd. -/
  | sqGetsp (c : Fin 128) (gd : Fin 8)
  /-- SETSP (R305): setsp loads sp from gs, trapping on misalignment. -/
  | sqSetsp (c : Fin 128) (gs : Fin 8)
  /-- REP (R310): rep captures a count from gc and repeats its successor that many times. -/
  | sqRep (c : Fin 128) (gc : Fin 8) (stopAfter : Option Nat)
  /-- REPI (R310): repi captures an immediate count and repeats its successor. -/
  | sqRepi (c : Fin 128) (n : BitVec 14) (stopAfter : Option Nat)
  /-- MFS (R308): mfs reads a special register into g. -/
  | sqMfs (c : Fin 128) (g : Fin 8) (reg : BitVec 8)
  /-- MTS (R308): mts writes g into a writable special register. -/
  | sqMts (c : Fin 128) (g : Fin 8) (reg : BitVec 8)
  /-- SHARED_STORE_WRITEBACK (R323): A buffered shared store is written to shared memory and frees a buffer place. -/
  | sharedStoreWriteback (e : Fin 32)
  /-- PATH_LOAD_COMPLETE (R323): A stalled path load completes and the context becomes ready again. -/
  | pathLoadComplete (c : Fin 128)
  /-- CELL_PATH_COMMAND (R326): A store to a cell's COMMAND word is one committed write of CellCommand and PwmDuty, or a path refusal. -/
  | cellPathCommand (c : Fin 128) (n : Fin 512) (value : Word)
  /-- CELL_PATH_ACQUIRE (R327): An OWNER store of 1 asks for the cell for the context. -/
  | cellPathAcquire (c : Fin 128) (n : Fin 512)
  /-- CELL_PATH_RELEASE (R327): An OWNER store of 2 gives the cell to the Ledger with its present command. -/
  | cellPathRelease (c : Fin 128) (n : Fin 512)
  /-- OWNER_REQUEST_DONE (R327): An ownership request completes, OWNRESULT is written and OWNER is raised. -/
  | ownerRequestDone (c : Fin 128)
  /-- ENGINE_WINDOW_STORE (R328): A store to a coil or loop engine window word is one committed write of the named entry. -/
  | engineWindowStore (c : Fin 128) (addr value : Word)
  /-- TIMER_ARM (R329): A store to TIMER arms the context timer for a TICKS value. -/
  | timerArm (c : Fin 128) (value : Word)
  /-- TIMER_FIRE (R329): TICKS reaches the armed value and the TIMER event becomes pending. -/
  | timerFire (c : Fin 128)
  /-- LREQ_READ (R331): An LREQ store with operation 1 starts a Ledger read from the mailbox. -/
  | lreqRead (c : Fin 128) (addr : BitVec 14)
  /-- LREQ_POSTING (R331): An LREQ store with operation 2 starts a posting from the mailbox. -/
  | lreqPosting (c : Fin 128) (addr : BitVec 14)
  /-- LREQ_PUBLISH (R332): An LREQ store with operation 3 publishes customer entry declarations. -/
  | lreqPublish (c : Fin 128) (addr : BitVec 14)
  /-- LREQ_WRITE_OWN (R331): An LREQ store with operation 4 writes the context's own published entries. -/
  | lreqWriteOwn (c : Fin 128) (addr : BitVec 14)
  /-- LREQ_WITHDRAW (R332): An LREQ store with operation 5 withdraws a published group. -/
  | lreqWithdraw (c : Fin 128) (addr : BitVec 14)
  /-- MAILBOX_DONE (R331): A mailbox request completes, the response block is written and LEDGER is raised. -/
  | mailboxDone (c : Fin 128)
  /-- RXTAKE (R333): An RXTAKE store copies the head message to data memory and removes it. -/
  | rxtake (c : Fin 128) (addr : BitVec 14)
  /-- TXSEND (R334): A TXSEND store queues a context message to the destination context. -/
  | txsend (c : Fin 128) (addr : BitVec 14) (len : Nat) (dest : Fin 128)
  /-- LOCK_LOAD (R335): A load of a lock word takes a free lock or returns its holder. -/
  | lockLoad (c : Fin 128) (i : Fin 32) (gd : Fin 8)
  /-- LOCK_RELEASE (R335): A store of 0 by the holder frees the lock. -/
  | lockRelease (c : Fin 128) (i : Fin 32)
  /-- LOAD_BEGIN (R337): LoadControl Begin opens a program load for LoadTarget and clears staging. -/
  | loadBegin (w : Writer)
  /-- LOAD_DATA (R337): A LoadData write stages 120 words at LoadAddress. -/
  | loadData (w : Writer) (data : List Byte)
  /-- LOAD_COMMIT (R337): LoadControl Commit checks the CRC and copies the image into program memory. -/
  | loadCommit (w : Writer)
  /-- LOAD_ABORT (R337): LoadControl Abort closes the load with program memory unchanged. -/
  | loadAbort (w : Writer)
  /-- RUN_STOP (R341): RunControl 0 halts the context at its next instruction boundary with state kept. -/
  | runStop (w : Writer) (c : Fin 128)
  /-- RUN_START (R340): RunControl 1 resumes a halted context or starts it with its start values. -/
  | runStart (w : Writer) (c : Fin 128)
  /-- RUN_RESTART (R340): RunControl 2 applies the start values and runs the context. -/
  | runRestart (w : Writer) (c : Fin 128)
  /-- TAG_ARM (R350): A write of 1 to TagArm clears Valid so the next selected instruction is tagged. -/
  | tagArm (w : Writer) (e : Fin 32) (value : Nat)
  /-- CENSUS_START (R351): Census mode is entered by start-up, recovery or CensusControl 1. -/
  | censusStart (w : Writer) (e : Fin 32)
  /-- CENSUS_END (R351): CensusDuration after the latest entry, or CensusControl 0, freezes the census counters. -/
  | censusEnd (w : Option Writer) (e : Fin 32)
  /-- FRAME_FORWARD_DECISION (R357): From the first 64 octets the switch decides egress ports and class, polices the stream and takes coins. -/
  | frameForwardDecision (p : Fin 9) (f : EthHead)
  /-- FRAME_RECEIVE_COMPLETE (R361): The last octet of a frame arrives, surplus coins return and its tenor starts. -/
  | frameReceiveComplete (p : Fin 9) (good : Bool) (sec : MacsecResult)
  /-- EGRESS_TRANSMIT_START (R370): A free transmitter starts the head item of the highest class whose gate is open and whose item fits. -/
  | egressTransmitStart (p : Fin 12) (ecc : EccResult)
  /-- EGRESS_TRANSMIT_END (R363): An item finishes transmission and its coins return to their sources. -/
  | egressTransmitEnd (p : Fin 12) (ctxs : List (Fin 128))
  /-- TENOR_EXPIRY (R366): An item not yet begun is withdrawn at the end of its tenor. -/
  | tenorExpiry
  /-- GATE_ENTRY_CHANGE (R371): The gate control list advances to its next entry. -/
  | gateEntryChange (p : Fin 8)
  /-- CONFIG_CHANGE (R373): A write of 1 to ConfigChange checks the administrative list and sets ConfigChangeTime. -/
  | configChange (w : Writer) (p : Fin 8) (value : Nat)
  /-- CONFIG_CHANGE_TIME (R373): ConfigChangeTime is reached and the administrative list becomes the operating list. -/
  | configChangeTime (p : Fin 8)
  /-- BULLION_WINDOW (R376): A 50 µs Bullion load window closes and an overload is counted. -/
  | bullionWindow (p : Fin 2)
  /-- RESERVATION_WRITE (R364): A reservation write is refused if the sum would exceed the Vault, otherwise SharedPool is recomputed. -/
  | reservationWrite (w : Writer) (egress : Bool) (i : Fin 12) (value : Nat)
  /-- RECOVERY_RESET (R379): No frame of an eliminating stream passes for RecoveryReset and its history resets. -/
  | recoveryReset (k : Fin 64)
  /-- MACSEC_KEY_COMMIT (R380): MacsecKeyCommit switches transmission to the new key in the other association. -/
  | macsecKeyCommit (w : Writer) (p : Fin 2) (value : Nat)
  /-- FDB_AGE_OUT (R384): A learned address unseen for FdbAgeTime is removed. -/
  | fdbAgeOut (mac : Nat)
  /-- FDB_FLUSH (R384): A write of 1 to FdbFlush flushes learned addresses. -/
  | fdbFlush (w : Writer) (value : Nat)
  /-- AS_SYNC (R69): An 802.1AS sync message updates the offset and module time slews or steps. -/
  | asSync (offset : Int)
  /-- LINK_UP (R383): A port's link comes up. -/
  | linkUp (p : Fin 9)
  /-- LINK_DOWN (R389): The link of an Active port drops and LINK_DOWN is raised. -/
  | linkDown (p : Fin 9)
  /-- CAN_SLOT_REFILL (R395): An empty transmit slot is refilled from the highest non-empty class queue. -/
  | canSlotRefill (k : Fin 16) (slot : Fin 3)
  /-- CAN_ATTEMPT_START (R396): At a start of frame the controller offers one slot to the bus. -/
  | canAttemptStart (k : Fin 16)
  /-- CAN_ATTEMPT_END (R397): An attempt ends in success, error or lost arbitration and counters and slots update. -/
  | canAttemptEnd (k : Fin 16) (outcome : CanOutcome)
  /-- CAN_FRAME_RECEIVED (R402): A correctly received CAN frame is matched to a BLL channel or filter and queued for the gateway. -/
  | canFrameReceived (k : Fin 16) (f : CanFrame)
  /-- BUS_OFF_RECOVER (R399): A write of 1 to BusOffRecover starts recovery from bus-off. -/
  | busOffRecover (w : Writer) (k : Fin 16) (value : Nat)
  /-- BUS_OFF_RECOVERY_DONE (R399): 128 sequences of 11 recessive bits end recovery in error active. -/
  | busOffRecoveryDone (k : Fin 16)
  /-- CAN_INTEGRATION_DONE (R394): 11 consecutive recessive bits let a controller join bus traffic. -/
  | canIntegrationDone (k : Fin 16)
  /-- CLASH_CLEAR (R401): A write of 1 to ClashClear empties SuspendedIds. -/
  | clashClear (w : Writer) (k : Fin 16) (value : Nat)
  /-- TRANSMIT_FRAME (R406): A TransmitFrame write queues one classical or FD frame. -/
  | transmitFrame (w : Writer) (k : Fin 16) (value : List Byte)
  /-- GATEWAY_RECORD (R405): A gateway frame at P10 becomes a CAN transmit item or LIN publish value. -/
  | gatewayRecord
  /-- LIN_SLOT (R410): A commander's schedule slot starts and sends its frame header. -/
  | linSlot (k : Fin 8)
  /-- LIN_RESPONSE (R411): A LIN response is received and routed, or a published response is sent. -/
  | linResponse (k : Fin 8) (data : List Byte) (checksumOk : Bool)
  /-- LIN_NO_RESPONSE (R412): A subscribed response does not complete within the response space. -/
  | linNoResponse (k : Fin 8)
  /-- LIN_HEADER (R412): A responder receives a header and answers or raises SYNC. -/
  | linHeader (k : Fin 8) (ident : Fin 64) (syncOk : Bool)
  /-- LIN_BUS_FAULT (R412): A read-back mismatch or a bus dominant for 20 ms counts a bus fault. -/
  | linBusFault (k : Fin 8) (held : Bool)
  /-- SCHEDULE_SELECT (R410): A ScheduleSelect write changes the table at the end of the present slot. -/
  | scheduleSelect (w : Writer) (k : Fin 8) (value : Nat)
  /-- SLEEP_COMMAND (R412): A write of 1 to SleepCommand sends the go-to-sleep frame and stops the schedule. -/
  | sleepCommand (w : Writer) (k : Fin 8) (value : Nat)
  /-- PLCA_BEACON_LOSS (R414): A follower misses the beacon for 4 × NodeCount opportunities and falls back to CSMA/CD. -/
  | plcaBeaconLoss (k : Fin 6)
  /-- T1S_COLLISION (R414): A collision on a segment is counted, raising COLLISIONS above 100 per second. -/
  | t1sCollision (k : Fin 6)
  /-- POWER_REQUEST_SLEEP (R424): A PowerStateRequest of Sleep starts a depth 2 round or sets the consent depth. -/
  | powerRequestSleep (w : Writer)
  /-- POWER_REQUEST_STANDBY (R424): A PowerStateRequest of Standby starts a depth 1 round or sets the consent depth. -/
  | powerRequestStandby (w : Writer)
  /-- POWER_REQUEST_RUN (R424): A PowerStateRequest of Run sets consent depth 0 and wakes a consented module. -/
  | powerRequestRun (w : Writer)
  /-- ROUND_START (R426): A RoundStart write starts a tally round with its own mask and depth. -/
  | roundStart (w : Writer) (value : Nat)
  /-- KEEP_AWAKE (R421): A KeepAwake write holds partial networks awake and wakes a sleeping one. -/
  | keepAwake (w : Writer) (value : Nat)
  /-- CONSENT (R426): A steward receives CONSENT and calls the next member or sends SEAL. -/
  | tallyConsent (m : TallyMsg)
  /-- REFUSE (R426): A steward receives REFUSE, sends ABORT and ends the round refused. -/
  | tallyRefuse (m : TallyMsg)
  /-- SEAL (R428): A member receives SEAL, relays it and takes its SealEnd. -/
  | tallySeal (m : TallyMsg)
  /-- ABORT (R430): A consented module receives ABORT, returns to Awake and relays it. -/
  | tallyAbort (m : TallyMsg)
  /-- WAKE (R436): A WAKE message wakes the sleeping networks of its mask and is relayed if anything woke. -/
  | tallyWake (m : TallyMsg)
  /-- TALLY_AUTH (R423): A tally message with a failing tag is discarded and counted. -/
  | tallyAuth (type : Nat) (m : TallyMsg)
  /-- ROUND_TIMEOUT (R426): A member does not answer within RoundTimeout and the steward aborts the round. -/
  | roundTimeout
  /-- ROUND_RETRY (R427): A randomised retry time passes and the steward starts a new round. -/
  | roundRetry
  /-- SEAL_END (R431): SealEnd is reached and the module puts segments to sleep and begins entry to Standby or Sleep. -/
  | sealEnd
  /-- SEAL_MISSED (R432): Neither SEAL nor ABORT arrives within RoundTimeout after CONSENT and the member returns to Awake. -/
  | sealMissed
  /-- TC10_SLEEP_TIMEOUT (R431): An uplink partner does not acknowledge sleep within 10 ms and the link is taken down. -/
  | tc10SleepTimeout (p : Fin 2)
  /-- POWER_ENTRY_COMPLETE (R533): Entry to Standby or Sleep completes and a latched wake is then served. -/
  | powerEntryComplete
  /-- WAKE_INPUT_POLL (R290): In Sleep the AON domain polls an enabled wake input and signals a wake after Confirm polls. -/
  | wakeInputPoll (n : Fin 64) (pin : Int)
  /-- HANDLE_TOUCH (R434): A handle poll confirms a touch, waking the module and starting an access request. -/
  | handleTouch (x : HandleReading)
  /-- CAN_WAKE_PATTERN (R434): A CAN wake-up pattern is detected on a sleeping controller. -/
  | canWakePattern (k : Fin 16)
  /-- CAN_WAKE_FRAME (R434): A selective wake-up frame matches WufId, WufMask, WufDlc and WufData. -/
  | canWakeFrame (k : Fin 4) (f : CanFrame)
  /-- CAN_FRAME_ERRORS (R434): FrameErrorCount reaches 32 and a wake of kind 5 occurs. -/
  | canFrameErrors (k : Fin 4)
  /-- LIN_WAKE_SIGNAL (R434): A LIN bus dominant for at least 150 µs then recessive wakes the module. -/
  | linWakeSignal (k : Fin 8)
  /-- T1S_ACTIVITY (R434): Carrier persisting for T1sActivityFilter wakes the module. -/
  | t1sActivity (k : Fin 6)
  /-- TC10_WAKE_REQUEST (R434): A TC10 wake-up request on an uplink wakes the module. -/
  | tc10WakeRequest (p : Fin 2)
  /-- WAKE_ALARM (R434): Module time reaches WakeAlarm and the module wakes. -/
  | wakeAlarm
  /-- SERVICE_LINK_WAKE (R433): A link established on P8 wakes a module in Standby. -/
  | serviceLinkWake
  /-- ACCESS_REQUEST (R442): An AccessRequest write starts an access request on a zone. -/
  | accessRequest (w : Writer) (zone : Nat)
  /-- LF_BURST_END (R452): An LF poll burst ends and its loan is returned. -/
  | lfBurstEnd (a : Fin 4) (milliamps : Nat)
  /-- REPLY_PHASE_END (R445): The eight reply slots end and the engine polls again or begins the exchanges. -/
  | replyPhaseEnd
  /-- ANCHOR_FRAME (R441): A frame from an anchor is received and advances the reply, exchange or status handling. -/
  | anchorFrame (p : Fin 9) (f : AnchorFrame)
  /-- ACCESS_EXCHANGE_TIMEOUT (R446): An exchange does not end within 10 ms of its CHALLENGE and counts as no reply. -/
  | accessExchangeTimeout
  /-- ANCHOR_ABSENT (R441): No STATUS frame arrives for 300 ms and the anchor is marked absent. -/
  | anchorAbsent (a : Fin 8)
  /-- ANCHOR_WAKE_TIMEOUT (R442): The anchor segment has not woken within 200 ms and the request ends with ANCHOR. -/
  | anchorWakeTimeout
  /-- LOCKOUT_END (R451): LockoutTime elapses and the failure history is cleared. -/
  | lockoutEnd
  /-- MEMORY_READ (R453): A MemoryRequest read reads one token memory block into MemoryData. -/
  | memoryRead (w : Writer) (t : Fin 16) (block : Fin 16)
  /-- MEMORY_WRITE (R453): A MemoryRequest write writes MemoryData to one token memory block. -/
  | memoryWrite (w : Writer) (t : Fin 16) (block : Fin 16)
  /-- ENROL_RECORD (R454): An EnrolRecord write is checked in order and enrols a key or is refused. -/
  | enrolRecord (w : Writer) (record : List Byte)
  /-- TOKEN_REVOKE (R455): A write of 1 to TokenRevoke erases a key slot. -/
  | tokenRevoke (w : Writer) (t : Fin 16) (value : Nat)
  /-- SOURCE_WINDOW_CLOSE (R464): A source's counting window closes and its count returns to 0. -/
  | sourceWindowClose (id : Fin 8192)
  /-- GRACE_EXPIRY (R469): A grace window ends and the reaction of the applied class applies. -/
  | graceExpiry (id : Fin 8192)
  /-- SOURCE_ACKNOWLEDGE (R470): An Acknowledge ends Unacknowledged and cancels a pending reaction inside grace. -/
  | sourceAcknowledge (w : Writer) (id : Fin 8192)
  /-- SOURCE_CLEAR (R472): A Clear resets a source's state unless its cause persists. -/
  | sourceClear (w : Writer) (id : Fin 8192)
  /-- SOURCE_FORCE (R465): A write of Force raises one forced occurrence or ends the forced cause. -/
  | sourceForce (w : Writer) (id : Fin 8192) (value : Nat)
  /-- FUNCTION_RESET (R476): A write to FunctionReset starts a per-function reset of the named function. -/
  | functionReset (w : Writer) (fn : Nat)
  /-- FUNCTION_RESET_DONE (R476): A per-function reset completes and the function stands in its power-up state. -/
  | functionResetDone
  /-- ESCROW_EXPIRY (R481): Escrow outlasts EscrowTime and cells pass to limp or take their SafeCommand. -/
  | escrowExpiry (b : Fin 16) (cell : Option (Fin 512))
  /-- SUPERVISOR_STOP (R482): A lockstep mismatch or memory error stops the running pair. -/
  | supervisorStop (pair : Fin 2) (cause : StopCause)
  /-- WATCHDOG_EXPIRY (R482): A pair's 5 ms watchdog expires and the pair stops. -/
  | watchdogExpiry (pair : Fin 2)
  /-- TAKEOVER (R480): A standby pair resumes the heartbeat and reconciles each bank. -/
  | takeover
  /-- STANDBY_SELF_TEST_DONE (R482): A stopped pair passes or fails its self-test and reaches hot standby or stays stopped. -/
  | standbySelfTestDone (pair : Fin 2) (passed : Bool)
  /-- STANDBY_ABSENT (R489): StandbyReady has read 0 for 2 s and STANDBY_ABSENT is raised. -/
  | standbyAbsent
  /-- LHEN_CHANGE (R486): A filtered LHEN level of 1 forces named cells into limp under LhenMode 1. -/
  | lhenChange (level : Bool)
  /-- LH_INPUT_CHANGE (R485): A filtered limp input change applies HighCommand or LowCommand to its limp cell. -/
  | lhInputChange (i : Fin 32) (level : Bool)
  /-- LIMP_LOAN_RETRY (R485): A limp cell whose loan was declined requests it again every 100 ms. -/
  | limpLoanRetry (n : Fin 512)
  /-- LIMP_EXIT (R487): A write of 1 to LimpExit passes every limp cell to the Ledger with OFF. -/
  | limpExit (w : Writer) (value : Nat)
  /-- UPDATE_BEGIN (R497): UpdateCommand Begin resets staging and enters Staging. -/
  | updateBegin (w : Writer)
  /-- UPDATE_FINISH (R493): UpdateCommand Finish checks the manifest and starts the build. -/
  | updateFinish (w : Writer)
  /-- UPDATE_DISCARD (R497): UpdateCommand Discard empties staging and stops a build. -/
  | updateDiscard (w : Writer)
  /-- STAGE_DATA (R498): A StageData write stores 240 octets at StageOffset under a staging loan. -/
  | stageData (w : Writer) (data : List Byte)
  /-- BUILD_BURST_COMPLETE (R499): A build burst of up to 16 blocks completes and the build continues, completes or fails. -/
  | buildBurstComplete
  /-- BUILD_LOAN_RETRY (R499): A declined build loan is requested again after 100 ms. -/
  | buildLoanRetry
  /-- ACTIVATION_SCHEDULE (R501): ActivationCommand Schedule schedules activation at ActivationTime. -/
  | activationSchedule (w : Writer)
  /-- ACTIVATION_CANCEL (R501): ActivationCommand Cancel returns UpdateState to Built. -/
  | activationCancel (w : Writer)
  /-- ACTIVATION_TICK (R504): Module time reaches ActivationTime and the activation is checked, then skipped or begun. -/
  | activationTick
  /-- ACTIVATION_HASH_DONE (R505): The boot loader finishes hashing every part of the inactive bank. -/
  | activationHashDone
  /-- ACTIVATION_START_DONE (R507): Every part passes its start self-test and the boot record is committed. -/
  | activationStartDone (failed : Option (Nat × Nat))
  /-- FALLBACK_DONE (R508): The installed bank is restarted after a failed activation. -/
  | fallbackDone
  /-- RESET_N_ASSERT (R528): RESET_N held low resets the module and floats every cell. -/
  | resetNAssert
  /-- POWER_UP_START (R529): Supplies rising, RESET_N release or a wake in Sleep starts the start sequence. -/
  | powerUpStart (ka vloga vlogb : Nat)
  /-- LOGIC_SUPPLY_LOST (R522): The logic supply stays below 4.5 V for 50 µs and the module goes Off. -/
  | logicSupplyLost
  /-- SUPPLY_THRESHOLD (R521): KA, VLOGA, VLOGB or the logic supply crosses a threshold of Table 19-3. -/
  | supplyThreshold (pin : SupplyPin) (millivolts : Nat)
  /-- REF_CLOCK_LOSS (R526): The reference clock fails and every PLL switches to the backup oscillator. -/
  | refClockLoss
  /-- REF_CLOCK_RETURN (R526): The reference has been good for 100 ms and the PLLs return to it. -/
  | refClockReturn
  /-- RTC_CLOCK_LOSS (R527): The 32.768 kHz crystal stops for 1 s and AON runs from its RC. -/
  | rtcClockLoss
  /-- BOARDNET_MISMATCH (R536): A bank supply matches the mismatch condition for its time and BOARDNET_MISMATCH is raised. -/
  | boardnetMismatch
  /-- BASEPLATE_SENSOR (R538): The two base-plate sensors disagree or leave their range for 1 s. -/
  | baseplateSensor (t0 t1 : Int)
  /-- BANK_SUPPLY_THRESHOLD (R136): BATb crosses 4.5 V or 8 V, raising SUPPLY_ABSENT, setting BankSupplyLow, SupplyPresent or FullFunction and pausing or resuming diagnostics. -/
  | bankSupplyThreshold (b : Fin 16) (millivolts : Nat)
  /-- RETRIES_USED_RESET (R146): After 1 s of conduction without a trip, RetriesUsed returns to 0. -/
  | retriesUsedReset (n : Fin 512)
  /-- SYNC_HOLDOVER (R548): No 802.1AS sync message arrives for 3 s and SyncState leaves 2 for 3. -/
  | syncHoldover
  /-- TRANSCEIVER_FAULT (R418): A CAN transceiver's dominant time-out or over-temperature sets TransceiverFault and raises TRANSCEIVER. -/
  | transceiverFault (k : Fin 16) (present : Bool)
  /-- PHY_FAULT (R418): A T1S segment PHY reports a fault and PHY_FAULT is raised. -/
  | phyFault (k : Fin 6) (present : Bool)
  /-- PLCA_BEACON_RETURN (R414): A follower sees the PLCA beacon again and leaves its CSMA/CD fallback. -/
  | plcaBeaconReturn (k : Fin 6)
  /-- TALLY_CALL (R425): A member receives a CALL and answers with CONSENT or REFUSE within 10 ms, running its own child round first when it stewards a ring. -/
  | tallyCall (m : TallyMsg)
  /-- WAKE_OUT_PULSE_END (R435): The WakeOut pulse time elapses and WAKE_OUT returns low. -/
  | wakeOutPulseEnd
  /-- MEMORY_REQUEST_TIMEOUT (R453): A token memory request gets no answer within 10 ms and completes with STATE. -/
  | memoryRequestTimeout
  /-- MANIFEST_CHECK_COMPLETE (R497): The manifest check begun by Finish completes within 50 ms, accepting the manifest and starting the build or refusing it. -/
  | manifestCheckComplete
  /-- BASEPLATE_DERATE (R197): The base-plate temperature crosses 85 °C, setting or clearing Derating, changing the effective module ceiling and raising BASEPLATE_DERATE. -/
  | baseplateDerate (t0 t1 : Int)
  /-- ISO_TP_TIMEOUT (R78): An ISO 15765-2 BLL transfer times out on N_Bs or N_Cr after 1,000 ms and is abandoned. -/
  | isoTpTimeout (channel : Fin 64) (receiving : Bool)
  /-- RESERVED_TYPE_FRAME (R79): A BLL frame of a reserved or module-only type with a valid tag is answered with RANGE. -/
  | reservedTypeFrame (o : Origin) (type : Nat) (f : Frame)
  /-- STAGE_BURST_COMPLETE (R498): A StageData staging burst finishes, its 240 octets are written, StageOffset advances and the loan returns. -/
  | stageBurstComplete
  /-- UNDEF (R297): A word of an undefined major or a reserved function is executed and traps with UNDEF. -/
  | sqUndef (c : Fin 128) (w e1 e2 : PWord)
  deriving DecidableEq, Repr

end Sys2Proof
end

