-- ==== Sys2Proof/Config.lean ====
section
/-! DEFINITION. What one manufactured module fixes, the algorithms of published standards the manual names but does not
spell out, and the values the manual leaves open. Each is opaque: nothing can evaluate it, so a claim holds whatever it
is (notes/assumptions). -/

namespace Sys2Proof

/-- AES-128 CMAC of an octet string under a key (R79, R81). Octet 0 of key and result is the least significant.
DESIGN CHOICE: notes/assumptions/10.md. -/
opaque Config.cmac : Nat → List Byte → Nat

/-- AES-128 encryption of one block under a key, octet 0 least significant (R85). -/
opaque Config.aes : Nat → Nat → Nat

/-- AES-128 decryption of one block under a key, octet 0 least significant (R454). -/
opaque Config.aesInverse : Nat → Nat → Nat

/-- SHA-256 of an octet string, octet 0 least significant (R493, R505). -/
opaque Config.sha256 : List Byte → Nat

/-- ECDSA P-256 verification: public key, digest, signature (R493, R500). -/
opaque Config.ecdsaVerify : Nat → Nat → Nat → Bool

/-- The n-th draw of the module's random source (R81). DESIGN CHOICE: notes/assumptions/11.md. -/
opaque Config.random : Nat → Nat

/-- What tells one module's SerialNumber from another's, set at manufacture (R68, R555). DESIGN CHOICE: notes/assumptions/9.md. -/
opaque Config.serialNumber : Nat

/-- The FirmwareVersion of the firmware installed at manufacture (R68). -/
opaque Config.firmwareVersion : Nat

/-- The length in octets of a part of the firmware programmed at manufacture, by type and instance, and one of its octets by
type, instance and offset (R490). -/
opaque Config.partLength : Nat → Nat → Nat
opaque Config.partOctet : Nat → Nat → Nat → Byte

/-- MacAddress of a port, set at manufacture (R383). -/
opaque Config.macAddress : Nat → Nat

/-- The n-th value that the manual leaves undefined or unspecified. DESIGN CHOICE: notes/assumptions/12.md. -/
opaque Config.free : Nat → Nat

end Sys2Proof
end

