-- ==== Sys2Proof/Machine/Bits.lean ====
section
/-! DEFINITION. Bit fields, signed readings and byte order of raw values (R4, R36). -/

namespace Sys2Proof.Machine

/-- The field of `w` bits whose lowest bit is `lsb` (R4: written [lsb+w-1:lsb]). -/
def field (v lsb w : Nat) : Nat := v / 2 ^ lsb % 2 ^ w

/-- Bit `n` of a raw value. -/
def bitOf (v n : Nat) : Bool := v / 2 ^ n % 2 = 1

/-- `v` with the field of `w` bits at `lsb` replaced by `x`. -/
def setField (v lsb w x : Nat) : Nat :=
  v / 2 ^ (lsb + w) * 2 ^ (lsb + w) + (x % 2 ^ w) * 2 ^ lsb + v % 2 ^ lsb

/-- `v` with bit `n` set to `b`. -/
def setBit (v n : Nat) (b : Bool) : Nat := setField v n 1 (if b then 1 else 0)

/-- 1 for true and 0 for false, as a BOOL or a one-bit field reads. -/
def b01 (b : Bool) : Nat := if b then 1 else 0

/-- The two's complement reading of a raw value of `w` bits (R36). -/
def signed (w v : Nat) : Int :=
  if v % 2 ^ w < 2 ^ (w - 1) then (v % 2 ^ w : Nat) else (v % 2 ^ w : Nat) - (2 ^ w : Nat)

/-- The raw value of `w` bits of an integer, in two's complement. -/
def rawOf (w : Nat) (i : Int) : Nat := (i % (2 ^ w : Nat)).toNat

/-- An integer held within the signed range of `w` bits. -/
def satSigned (w : Nat) (i : Int) : Int :=
  max (-(2 ^ (w - 1) : Nat)) (min i ((2 ^ (w - 1) : Nat) - 1))

/-- A counter that stops at `top` (R101, R53). -/
def satAdd (top v d : Nat) : Nat := min top (v + d)

/-- The largest U32, where the module's counters stop. -/
def u32max : Nat := 0xFFFFFFFF

/-- Little-endian octets of `v`, `n` of them (R4). -/
def octets : Nat → Nat → List Byte
  | 0, _ => []
  | n + 1, v => BitVec.ofNat 8 v :: octets n (v / 256)

/-- The number that little-endian octets spell (R4). -/
def leNat : List Byte → Nat
  | [] => 0
  | b :: r => b.toNat + 256 * leNat r

/-- Big-endian octets, for the fields of published standards (R4). -/
def octetsBE (n v : Nat) : List Byte := (octets n v).reverse

/-- The number that big-endian octets spell (R4). -/
def beNat (l : List Byte) : Nat := leNat l.reverse

/-- CRC-8 SAE J1850: polynomial 0x1D, started from 0xFF and inverted at the end (R302, R443, R555). -/
def crc8J1850 (l : List Byte) : Nat :=
  let step (c : Nat) : Nat := if 128 ≤ c then (c * 2 % 256) ^^^ 0x1D else c * 2 % 256
  (l.foldl (fun c b => Nat.repeat step 8 (c ^^^ b.toNat)) 0xFF) ^^^ 0xFF

/-- Rounding a non-negative quotient to the nearest, halves away from zero. -/
def divRound (a b : Nat) : Nat := if b = 0 then 0 else (a + b / 2) / b

/-- `a / b` rounded up. -/
def divUp (a b : Nat) : Nat := if b = 0 then 0 else (a + (b - 1)) / b

end Sys2Proof.Machine
end

