-- ==== Sys2Proof/Machine/Ledger.lean ====
section
/-! DEFINITION. The Ledger's object model: data types, access codes, roles, status codes, the shape of an entry row,
and the map from indices to entry groups (R34 to R40, R93, Tables 02-1 to 02-4, 03-7). -/

namespace Sys2Proof.Machine

/-- The first 14 characters of SerialNumber: the plant in two uppercase letters, then year, week and sequence number in
decimal digits (R555). -/
def serialHead : List Byte :=
  let n := Config.serialNumber
  [n % 26 + 65, n / 26 % 26 + 65].map (BitVec.ofNat 8) ++ (List.range 12).map fun k => BitVec.ofNat 8 (n / (676 * 10 ^ k) % 10 + 48)

/-- A hexadecimal digit as its uppercase character. -/
def hexDigit (n : Nat) : Byte := BitVec.ofNat 8 (if n < 10 then n + 48 else n + 55)

/-- SerialNumber (0x1000.04): its characters, octet 0 the least significant, with their check at the end (R555). -/
def serialNumber : Nat := leNat (serialHead ++ [hexDigit (crc8J1850 serialHead / 16), hexDigit (crc8J1850 serialHead % 16)])

/-- The status codes of a BLL response (R93, Table 03-7). -/
inductive Status
  | ok | busy | denied | range | reserved | state | type | noEntry | window | auth | version | causePersists
  | declined | owner | duplicate
  deriving DecidableEq, Repr

/-- The statuses 0x00 to 0x0D in the order of Table 03-7. -/
def Status.listed : List Status :=
  [.ok, .busy, .denied, .range, .reserved, .state, .type, .noEntry, .window, .auth, .version, .causePersists, .declined, .owner]

/-- The octet that carries a status (Table 03-7). -/
def Status.code : Status → Nat
  | .duplicate => 0x40
  | x => Status.listed.idxOf x

/-- How a status is sent to a 1.3 session (R92, Table 03-7). -/
def Status.to13 : Status → Status
  | .causePersists => .state
  | .declined => .busy
  | .owner => .denied
  | .duplicate => .range
  | x => x

/-- The roles in rank order: 1 Observe, 2 Operate, 3 Integrate, 4 Service (R40, Table 02-4). -/
inductive Role
  | observe | operate | integrate | service
  deriving DecidableEq, Repr

/-- The rank of a role, as OPEN spells it. -/
def Role.rank : Role → Nat
  | .observe => 1 | .operate => 2 | .integrate => 3 | .service => 4

/-- The Ledger data types (R36, Table 02-2). -/
inductive LType
  | bool | u8 | u16 | u32 | u64 | i16 | i32 | q16 | e8 | b16 | b32 | t64 | oct (n : Nat) | b8
  deriving DecidableEq, Repr

/-- The type code of Table 02-2. -/
def LType.code : LType → Nat
  | .oct _ => 0x0D
  | .b8 => 0x0E
  | x => 1 + [LType.bool, .u8, .u16, .u32, .u64, .i16, .i32, .q16, .e8, .b16, .b32, .t64].idxOf x

/-- The size in octets of Table 02-2. -/
def LType.size : LType → Nat
  | .bool | .u8 | .e8 | .b8 => 1
  | .u16 | .i16 | .b16 => 2
  | .u32 | .i32 | .q16 | .b32 => 4
  | .u64 | .t64 => 8
  | .oct n => n

/-- A type whose values have an order, for which a deadband other than 0 makes sense (R96). -/
def LType.numeric : LType → Bool
  | .u8 | .u16 | .u32 | .u64 | .i16 | .i32 | .q16 | .t64 => true
  | _ => false

/-- The integer a raw value of the type stands for. -/
def LType.toInt (t : LType) (v : Nat) : Int :=
  match t with
  | .i16 => signed 16 v
  | .i32 | .q16 => signed 32 v
  | _ => v

/-- The access codes (R39, Table 02-3). -/
inductive Access
  | ro | rw | wo | rwc | cmd
  deriving DecidableEq, Repr

/-- One field of a bit-field entry: its place and the values it accepts. Bits in no field are reserved. -/
structure BField where
  lsb : Nat
  width : Nat
  lo : Nat := 0
  hi : Nat := 2 ^ width - 1
  deriving DecidableEq, Repr

/-- What values an entry accepts by its own table row (R38); rules over several entries are beside their chapters. -/
inductive Check
  /-- any value of the type -/
  | any
  /-- minimum, maximum and step, unsigned -/
  | range (lo hi step : Nat)
  /-- minimum, maximum and step of a signed reading -/
  | srange (lo hi : Int) (step : Nat)
  /-- one special value, or minimum, maximum and step -/
  | rangeOr (x lo hi step : Nat)
  /-- the listed values -/
  | oneOf (vs : List Nat)
  /-- bit fields; every other bit is reserved -/
  | fields (fs : List BField)
  deriving DecidableEq, Repr

/-- One row of an entry table: `cnt` entries from sub-index `lo` of one kind. -/
structure Row where
  lo : Nat
  cnt : Nat
  name : String
  ty : LType
  acc : Access
  role : Role
  dflt : Nat := 0
  /-- introduced in a Ledger version 1.x, so visible to a 1.3 session (R44, R92) -/
  v1 : Bool := false
  chk : Check := .any
  /-- persistent although not RWC (R42) -/
  pers : Bool := false
  deriving DecidableEq, Repr

/-- The bits that a list of fields covers. -/
def BField.cover (fs : List BField) (v : Nat) : Nat :=
  fs.foldl (fun a f => setField a f.lsb f.width (field v f.lsb f.width)) 0

/-- The status of a value under a row's own rule: RESERVED for a reserved bit, RANGE outside its values (R38). -/
def Check.status (c : Check) (t : LType) (v : Nat) : Status :=
  match c with
  | .any => if t = .bool ∧ 1 < v then .range else .ok
  | .range lo hi step => if v < lo ∨ hi < v ∨ (v - lo) % step ≠ 0 then .range else .ok
  | .srange lo hi step =>
    let i := t.toInt v
    if i < lo ∨ hi < i ∨ (i - lo) % (step : Nat) ≠ 0 then .range else .ok
  | .rangeOr x lo hi step => if v ≠ x ∧ (v < lo ∨ hi < v ∨ (v - lo) % step ≠ 0) then .range else .ok
  | .oneOf vs => if vs.contains v then .ok else .range
  | .fields fs =>
    if BField.cover fs v ≠ v then .reserved
    else if fs.all fun f => decide (f.lo ≤ field v f.lsb f.width ∧ field v f.lsb f.width ≤ f.hi) then .ok
    else .range

/-- ASCII text as an OCT value, padded with 0x00 (Table 02-2). -/
def ascii (t : String) : Nat := leNat (t.toList.map fun c => BitVec.ofNat 8 c.toNat)

/-- A function ID: class in [15:8], instance in [7:0] (Table 02-6). -/
structure Fn where
  cls : Nat
  inst : Nat
  deriving DecidableEq, Repr

/-- The number of a function ID. -/
def Fn.id (f : Fn) : Nat := f.cls * 256 + f.inst

/-- The index of a function's group (Table 02-6). -/
def Fn.group (f : Fn) : Nat :=
  if f.cls = 0x0A then 0x7000
  else if f.cls = 0x0B then 0x4A00
  else [0x11, 0x49, 0x4C, 0x4D, 0x50, 0x51, 0x64, 0x65, 0x66, 0x60].getD f.cls 0x11 * 256 + f.inst

/-- How many instances a function class has (Table 02-6). -/
def Fn.count (cls : Nat) : Nat := [0, 16, 64, 48, 32, 128, 16, 8, 6, 12, 1, 1, 128].getD cls 0

/-- The groups of the index map (R35, Table 02-1), with the instance of each. -/
inductive LGroup
  | identity | session (s : Nat) | sessionCtl | keySlots | proxy | bllCan | time | power | supply (i : Nat)
  | chanCfg (n : Nat) | chanStatus (n : Nat) | chanDiag (n : Nat) | chanMeas (n : Nat)
  | gang (g : Nat) | bank (b : Nat) | teller | tellerBanks (i : Nat) | loan (slot : Nat) | tellerQueue (i : Nat)
  | coil (e : Nat) | loop (e : Nat) | profile (e : Nat)
  | inputProfile (p : Nat) | bankInput | wakeInput | counterLoad (i : Nat) | quadErrors (i : Nat) | cos (k : Nat)
  | engine (e : Nat) | context (c : Nat) | progLoad | perf (e : Nat) | census (e : Nat)
  | port (p : Nat) | vault (i : Nat) | stream (i : Nat) | vlan (v : Nat) | trafficClass (i : Nat) | gate (p : Nat)
  | can (k : Nat) | lin (k : Nat) | t1s (k : Nat) | sleep (i : Nat)
  | access | keySlot (t : Nat) | accessZone (i : Nat)
  | auditCtl (i : Nat) | escrow (i : Nat) | update | fnReset | source (id : Nat) | customer (i : Nat)
  deriving DecidableEq, Repr

end Sys2Proof.Machine
end

