-- ==== Sys2Proof/Machine/RowsBus.lean ====
section
/-! DEFINITION. The entry tables of the field buses (Tables 14-6, 14-9, 14-10). -/

namespace Sys2Proof.Machine

/-- Tables 02-5 and 14-6, group 0x6400 + k. -/
def canRows : List Row := [
  ⟨0x01, 1, "FunctionState", .e8, .rw, .integrate, 0, false, (.range 0 4 1), false⟩,
  ⟨0x02, 1, "LastRefusal", .u32, .ro, .observe, 0, false, .any, false⟩,
  ⟨0x03, 1, "CanStatus", .b32, .ro, .observe, 0x00000000, false, .any, false⟩,
  ⟨0x04, 1, "OperatingMode", .e8, .rwc, .integrate, 0, false, (.range 0 2 1), false⟩,
  ⟨0x05, 1, "NominalBitTiming", .b32, .rwc, .integrate, 0x10207F01, false, (.fields [⟨0, 8, 1, 32⟩, ⟨8, 8, 2, 255⟩, ⟨16, 7, 1, 127⟩, ⟨23, 7, 1, 127⟩]), false⟩,
  ⟨0x06, 1, "DataBitTiming", .b32, .rwc, .integrate, 0x050A1D01, false, (.fields [⟨0, 8, 1, 32⟩, ⟨8, 8, 2, 255⟩, ⟨16, 7, 1, 127⟩, ⟨23, 7, 1, 127⟩]), false⟩,
  ⟨0x07, 1, "XlBitTiming", .b32, .rwc, .integrate, 0x02040B01, false, (.fields [⟨0, 8, 1, 32⟩, ⟨8, 8, 2, 255⟩, ⟨16, 7, 1, 127⟩, ⟨23, 7, 1, 127⟩]), false⟩,
  ⟨0x08, 1, "CanControl", .b32, .rwc, .integrate, 0x00000000, false, (.fields [⟨0, 1, 0, 1⟩, ⟨1, 1, 0, 1⟩, ⟨2, 1, 0, 1⟩, ⟨3, 1, 0, 1⟩, ⟨4, 1, 0, 1⟩, ⟨5, 1, 0, 1⟩, ⟨6, 1, 0, 1⟩]), false⟩,
  ⟨0x09, 1, "TxQueueLimit", .u16, .rwc, .integrate, 64, false, (.range 1 1024 1), false⟩,
  ⟨0x0A, 1, "RxQueueLimit", .u16, .rwc, .integrate, 64, false, (.range 1 1024 1), false⟩,
  ⟨0x0B, 1, "RxRoute0", .b32, .rwc, .integrate, 0x00000000, false, (.fields [⟨0, 1, 0, 1⟩, ⟨1, 3, 0, 7⟩, ⟨4, 6, 0, 63⟩]), false⟩,
  ⟨0x0C, 1, "RxRoute1", .b32, .rwc, .integrate, 0x00000000, false, (.fields [⟨0, 1, 0, 1⟩, ⟨1, 3, 0, 7⟩, ⟨4, 6, 0, 63⟩]), false⟩,
  ⟨0x0D, 1, "TransmitFrame", (.oct 76), .wo, .operate, 0, false, .any, false⟩,
  ⟨0x0E, 1, "BusOffRecover", .u8, .cmd, .operate, 0, false, (.oneOf [1]), false⟩,
  ⟨0x0F, 1, "ClashClear", .u8, .cmd, .operate, 0, false, (.oneOf [1]), false⟩,
  ⟨0x10, 1, "RelayAddress", .u8, .rwc, .integrate, 0xF1, false, .any, false⟩,
  ⟨0x11, 1, "Tec", .u8, .ro, .observe, 0, false, .any, false⟩,
  ⟨0x12, 1, "Rec", .u8, .ro, .observe, 0, false, .any, false⟩,
  ⟨0x13, 1, "LastError", .e8, .ro, .observe, 0, false, .any, false⟩,
  ⟨0x14, 1, "AckErrorRun", .u8, .ro, .observe, 0, false, .any, false⟩,
  ⟨0x15, 1, "SuspendedIds", (.oct 16), .ro, .observe, 0, false, .any, false⟩,
  ⟨0x16, 1, "FramesSent", .u32, .ro, .observe, 0, false, .any, false⟩,
  ⟨0x17, 1, "FramesReceived", .u32, .ro, .observe, 0, false, .any, false⟩,
  ⟨0x18, 1, "TxWithdrawn", .u32, .ro, .observe, 0, false, .any, false⟩,
  ⟨0x19, 1, "RxOverruns", .u32, .ro, .observe, 0, false, .any, false⟩,
  ⟨0x1A, 1, "Unmatched", .u32, .ro, .observe, 0, false, .any, false⟩,
  ⟨0x1B, 1, "GatewayRejects", .u32, .ro, .observe, 0, false, .any, false⟩,
  ⟨0x1C, 1, "BusOffCount", .u32, .ro, .observe, 0, false, .any, false⟩,
  ⟨0x1D, 1, "ClashCount", .u32, .ro, .observe, 0, false, .any, false⟩,
  ⟨0x1E, 1, "CountersClear", .u8, .cmd, .integrate, 0, false, (.oneOf [1]), false⟩,
  ⟨0x20, 32, "FilterId", .b32, .rwc, .integrate, 0x00000000, false, (.fields [⟨0, 30, 0, 1073741823⟩]), false⟩,
  ⟨0x40, 32, "FilterMask", .b32, .rwc, .integrate, 0x00000000, false, (.fields [⟨0, 30, 0, 1073741823⟩]), false⟩,
  ⟨0x60, 32, "FilterControl", .b16, .rwc, .integrate, 0x0000, false, (.fields [⟨0, 1, 0, 1⟩, ⟨1, 1, 0, 1⟩, ⟨2, 3, 0, 7⟩]), false⟩]

/-- Tables 02-5 and 14-9, group 0x6500 + k. -/
def linRows : List Row := [
  ⟨0x01, 1, "FunctionState", .e8, .rw, .integrate, 0, false, (.range 0 4 1), false⟩,
  ⟨0x02, 1, "LastRefusal", .u32, .ro, .observe, 0, false, .any, false⟩,
  ⟨0x03, 1, "LinStatus", .b32, .ro, .observe, 0x00000000, false, .any, false⟩,
  ⟨0x04, 1, "LinRole", .e8, .rwc, .integrate, 0, false, (.range 0 1 1), false⟩,
  ⟨0x05, 1, "BitRate", .u16, .rwc, .integrate, 19200, false, (.range 1000 20000 1), false⟩,
  ⟨0x06, 1, "ScheduleSelect", .e8, .rw, .operate, 0, false, (.range 0 4 1), false⟩,
  ⟨0x07, 1, "SleepCommand", .u8, .cmd, .operate, 0, false, (.oneOf [1]), false⟩,
  ⟨0x08, 1, "LinRoute", .b32, .rwc, .integrate, 0x00000000, false, (.fields [⟨0, 1, 0, 1⟩, ⟨1, 3, 0, 7⟩, ⟨4, 6, 0, 63⟩]), false⟩,
  ⟨0x09, 1, "NoResponse", .u32, .ro, .observe, 0, false, .any, false⟩,
  ⟨0x0A, 1, "ChecksumErrors", .u32, .ro, .observe, 0, false, .any, false⟩,
  ⟨0x0B, 1, "BusFaults", .u32, .ro, .observe, 0, false, .any, false⟩,
  ⟨0x0C, 1, "GatewayRejects", .u32, .ro, .observe, 0, false, .any, false⟩,
  ⟨0x0D, 1, "CountersClear", .u8, .cmd, .integrate, 0, false, (.oneOf [1]), false⟩,
  ⟨0x10, 64, "LinFrame", .b32, .rwc, .integrate, 0x00000000, false, (.fields [⟨0, 6, 0, 63⟩, ⟨6, 1, 0, 1⟩, ⟨7, 1, 0, 1⟩, ⟨8, 2, 0, 3⟩, ⟨10, 4, 1, 8⟩, ⟨14, 1, 0, 1⟩, ⟨16, 6, 0, 63⟩, ⟨22, 3, 0, 7⟩]), false⟩,
  ⟨0x50, 64, "FrameData", (.oct 8), .rw, .operate, 0, false, .any, false⟩,
  ⟨0x90, 64, "ScheduleSlot", .b16, .rwc, .integrate, 0x0000, false, (.fields [⟨0, 6, 0, 63⟩, ⟨6, 1, 0, 1⟩, ⟨7, 9, 1, 511⟩]), false⟩]

/-- Tables 02-5 and 14-10, group 0x6600 + k. -/
def t1sRows : List Row := [
  ⟨0x01, 1, "FunctionState", .e8, .rw, .integrate, 0, false, (.range 0 4 1), false⟩,
  ⟨0x02, 1, "LastRefusal", .u32, .ro, .observe, 0, false, .any, false⟩,
  ⟨0x03, 1, "T1sStatus", .b32, .ro, .observe, 0x00000000, false, .any, false⟩,
  ⟨0x04, 1, "PlcaControl", .b32, .rwc, .integrate, 0x00010800, false, (.fields [⟨0, 8, 0, 254⟩, ⟨8, 8, 1, 255⟩, ⟨16, 1, 0, 1⟩]), false⟩,
  ⟨0x05, 1, "PlcaTimers", .b32, .rwc, .integrate, 0x00800020, false, (.fields [⟨0, 8, 0, 255⟩, ⟨8, 8, 0, 255⟩, ⟨16, 8, 0, 255⟩]), false⟩,
  ⟨0x06, 1, "Collisions", .u32, .ro, .observe, 0, false, .any, false⟩,
  ⟨0x07, 1, "BeaconLosses", .u32, .ro, .observe, 0, false, .any, false⟩,
  ⟨0x08, 1, "CountersClear", .u8, .cmd, .integrate, 0, false, (.oneOf [1]), false⟩]

end Sys2Proof.Machine
end

