-- ==== Sys2Proof/Machine/RowsCells.lean ====
section
/-! DEFINITION. The entry tables of the Ledger, sessions, channels, banks, gangs and the Teller (Tables 02-5 to 02-14,
03-5 to 03-11, 04-4 to 04-9, 05-1, 05-10, 06-1, 06-4, 07-5 to 07-9): each row's place, type, access, role, default,
version and the values it accepts. -/

namespace Sys2Proof.Machine

/-- Table 02-12, group 0x1000. -/
def identityRows : List Row := [
  ⟨0x01, 1, "VendorName", (.oct 16), .ro, .observe, (ascii "Caerwin Devices"), true, .any, false⟩,
  ⟨0x02, 1, "ProductName", (.oct 16), .ro, .observe, (ascii "TZ-512-CA"), true, .any, false⟩,
  ⟨0x03, 1, "SiliconStep", (.oct 4), .ro, .observe, (ascii "B0"), true, .any, false⟩,
  ⟨0x04, 1, "SerialNumber", (.oct 16), .ro, .observe, serialNumber, true, .any, false⟩,
  ⟨0x05, 1, "HardwareType", .u32, .ro, .observe, 0x0512B001, false, .any, false⟩,
  ⟨0x06, 1, "LedgerVersion", .u16, .ro, .observe, 0x0200, true, .any, false⟩,
  ⟨0x07, 1, "FirmwareVersion", .u32, .ro, .observe, Config.firmwareVersion, true, .any, false⟩,
  ⟨0x08, 1, "ConfigGeneration", .u32, .ro, .observe, 0, false, .any, true⟩,
  ⟨0x09, 1, "ActiveFirmwareBank", .e8, .ro, .observe, 0, false, .any, false⟩]

/-- Table 03-9, group 0x1100 + s. -/
def sessionRows : List Row := [
  ⟨0x01, 1, "FunctionState", .e8, .rw, .integrate, 0, false, (.range 0 255 1), false⟩,
  ⟨0x02, 1, "LastRefusal", .u32, .ro, .observe, 0x00000000, false, .any, false⟩,
  ⟨0x03, 1, "SessionRole", .e8, .ro, .observe, 0, false, .any, false⟩,
  ⟨0x04, 1, "PeerNode", .u16, .ro, .observe, 0x0000, false, .any, false⟩,
  ⟨0x05, 1, "Transport", .e8, .ro, .observe, 0, false, .any, false⟩,
  ⟨0x06, 1, "NegotiatedVersion", .u16, .ro, .observe, 0x0000, false, .any, false⟩,
  ⟨0x07, 1, "KeySlot", .u8, .ro, .observe, 0xFF, false, .any, false⟩,
  ⟨0x08, 1, "FreshnessHigh", .u32, .ro, .observe, 0, false, .any, false⟩,
  ⟨0x09, 1, "Outstanding", .u8, .ro, .observe, 0, false, .any, false⟩,
  ⟨0x0A, 1, "OpenedAt", .t64, .ro, .observe, 0, false, .any, false⟩,
  ⟨0x0B, 1, "SubscriptionCount", .u8, .ro, .observe, 0, false, .any, false⟩,
  ⟨0x0C, 1, "TagFailures", .u32, .ro, .observe, 0, false, .any, false⟩,
  ⟨0x0D, 1, "ReplayRefusals", .u32, .ro, .observe, 0, false, .any, false⟩,
  ⟨0x0E, 1, "WindowRefusals", .u32, .ro, .observe, 0, false, .any, false⟩]

/-- Table 03-10, group 0x1180; .01, .02, .03, .05, .06 and .08 persist (R102). -/
def sessionCtlRows : List Row := [
  ⟨0x01, 1, "NodeAddress", .u16, .rw, .integrate, 0x0000, false, (.range 0 16383 1), true⟩,
  ⟨0x02, 1, "IPv4Address", .u32, .rw, .integrate, 0x00000000, false, .any, true⟩,
  ⟨0x03, 1, "IPv6Address", (.oct 16), .rw, .integrate, 0, false, .any, true⟩,
  ⟨0x04, 1, "ServiceAddress", .u32, .ro, .observe, 0xA9FE500C, false, .any, false⟩,
  ⟨0x05, 1, "IdleTimeout", .u16, .rw, .integrate, 5000, false, (.range 100 60000 1), true⟩,
  ⟨0x06, 1, "Version13Enable", .bool, .rw, .integrate, 1, false, .any, true⟩,
  ⟨0x07, 1, "SessionsOpen", .u8, .ro, .observe, 0, false, .any, false⟩,
  ⟨0x08, 1, "ProxyTimeout", .u16, .rw, .integrate, 100, false, (.range 10 1000 1), true⟩,
  ⟨0x09, 1, "MalformedFrames", .u32, .ro, .observe, 0, false, .any, false⟩,
  ⟨0x0A, 1, "OpenLockouts", .u32, .ro, .observe, 0, false, .any, false⟩,
  ⟨0x0B, 1, "NotifyWithdrawn", .u32, .ro, .observe, 0, false, .any, false⟩]

/-- Table 03-5, group 0x1181; KeyValue and KeyBinding persist in the strongroom (R85). -/
def keySlotRows : List Row := [
  ⟨0x01, 16, "KeyValue", (.oct 16), .wo, .service, 0, false, .any, true⟩,
  ⟨0x11, 16, "KeyBinding", .b32, .rw, .service, 0x00000000, false, (.fields [⟨0, 3, 0, 4⟩, ⟨16, 14, 0, 16383⟩]), true⟩,
  ⟨0x21, 16, "KeyCheck", (.oct 3), .ro, .observe, 0x000000, false, .any, false⟩]

/-- Table 03-11, group 0x1182 (R103). -/
def proxyRows : List Row := [
  ⟨0x01, 64, "ProxyNode", .b32, .rw, .integrate, 0x00000000, false, (.fields [⟨0, 14, 0, 16383⟩, ⟨16, 4, 0, 3⟩, ⟨20, 4, 0, 15⟩, ⟨24, 8, 0, 255⟩]), true⟩]

/-- Table 03-11, group 0x1183 (R103). -/
def bllCanRows : List Row := [
  ⟨0x01, 64, "BllCanRequestId", .b32, .rw, .integrate, 0x00000000, false, .any, true⟩,
  ⟨0x41, 64, "BllCanResponseId", .b32, .rw, .integrate, 0x00000000, false, (.fields [⟨0, 30, 0, 1073741823⟩]), true⟩]

/-- Table 02-13, group 0x1200. -/
def timeRows : List Row := [
  ⟨0x01, 1, "ModuleTime", .t64, .ro, .observe, 0, true, .any, false⟩,
  ⟨0x02, 1, "TimeSource", .e8, .rw, .integrate, 1, false, (.range 0 1 1), true⟩,
  ⟨0x03, 1, "SyncState", .e8, .ro, .observe, 1, false, .any, false⟩,
  ⟨0x04, 1, "OffsetNs", .i32, .ro, .observe, 0, false, .any, false⟩,
  ⟨0x05, 1, "SetModuleTime", .t64, .wo, .service, 0, false, .any, false⟩]

/-- Table 02-14, group 0x1300. -/
def powerRows : List Row := [
  ⟨0x01, 1, "PowerState", .e8, .ro, .observe, 3, true, .any, false⟩,
  ⟨0x02, 1, "PowerStateRequest", .e8, .cmd, .operate, 0, true, (.range 1 3 1), false⟩,
  ⟨0x03, 1, "StateSince", .t64, .ro, .observe, 0, false, .any, false⟩,
  ⟨0x04, 1, "ResetCause", .e8, .ro, .observe, 0, false, .any, false⟩,
  ⟨0x05, 1, "BoardnetMode", .e8, .rwc, .integrate, 0, true, (.range 0 1 1), false⟩]

/-- Tables 02-9, 04-4, 05-1 and 06-4, group 0x4000 + n. -/
def chanCfgRows : List Row := [
  ⟨0x01, 1, "CellOwner", .u16, .rw, .integrate, 0, false, .any, true⟩,
  ⟨0x02, 1, "CellMode", .e8, .rwc, .integrate, 0, true, (.range 0 8 1), false⟩,
  ⟨0x03, 1, "CellCommand", .e8, .rw, .operate, 0, true, (.range 0 5 1), false⟩,
  ⟨0x04, 1, "PwmDuty", .u16, .rw, .operate, 0, true, .any, false⟩,
  ⟨0x05, 1, "LoadClass", .e8, .rwc, .integrate, 0, false, (.range 0 5 1), false⟩,
  ⟨0x06, 1, "SafeCommand", .e8, .rwc, .integrate, 0, true, (.oneOf [0, 1, 2, 4, 5]), false⟩,
  ⟨0x07, 1, "InputProfile", .u8, .rwc, .integrate, 0, false, (.range 0 63 1), false⟩,
  ⟨0x08, 1, "CounterConfig", .b16, .rwc, .integrate, 0x0000, false, (.fields [⟨0, 2, 0, 3⟩, ⟨2, 2, 0, 2⟩, ⟨4, 1, 0, 1⟩]), false⟩,
  ⟨0x09, 1, "AverageWindow", .u8, .rw, .operate, 4, false, (.range 0 10 1), false⟩,
  ⟨0x10, 1, "CurrentLimit", .u16, .rwc, .integrate, 3000, true, (.range 500 10000 250), false⟩,
  ⟨0x11, 1, "LimitDwell", .u8, .rwc, .integrate, 0, false, (.rangeOr 0 1 255 1), false⟩,
  ⟨0x12, 1, "RetryCount", .u8, .rwc, .integrate, 3, true, (.range 0 15 1), false⟩,
  ⟨0x13, 1, "RetrySpacing", .u16, .rwc, .integrate, 100, false, (.range 10 10000 10), false⟩,
  ⟨0x14, 1, "OpenOnThreshold", .u16, .rwc, .integrate, 0, false, (.rangeOr 0 10 2000 5), false⟩,
  ⟨0x15, 1, "OpenOnTime", .u16, .rwc, .integrate, 20, false, (.range 1 1000 1), false⟩,
  ⟨0x16, 1, "DiagControl", .b16, .rwc, .integrate, 0x0007, false, (.fields [⟨0, 1, 0, 1⟩, ⟨1, 1, 0, 1⟩, ⟨2, 1, 0, 1⟩, ⟨3, 2, 0, 2⟩]), false⟩,
  ⟨0x17, 1, "OffDiagPeriod", .u8, .rwc, .integrate, 10, false, (.range 1 100 1), false⟩,
  ⟨0x18, 1, "PwmPeriod", .u16, .rwc, .integrate, 5000, false, (.range 40 20000 1), false⟩,
  ⟨0x19, 1, "PwmPhase", .u16, .rwc, .integrate, 0, false, .any, false⟩,
  ⟨0x1A, 1, "OutputControl", .b16, .rwc, .integrate, 0x0000, false, (.fields [⟨0, 2, 0, 2⟩, ⟨2, 1, 0, 1⟩]), false⟩,
  ⟨0x1B, 1, "InrushLimit", .u16, .rwc, .integrate, 0, false, (.rangeOr 0 500 10000 250), false⟩,
  ⟨0x1C, 1, "InrushTime", .u16, .rwc, .integrate, 20, false, (.range 1 1000 1), false⟩,
  ⟨0x1D, 1, "SoftStartTime", .u16, .rwc, .integrate, 0, false, (.range 0 2000 1), false⟩,
  ⟨0x1E, 1, "GangNumber", .u8, .ro, .observe, 0xFF, false, .any, false⟩,
  ⟨0x1F, 1, "LastInrushPeak", .i16, .ro, .observe, 0, false, .any, false⟩]

/-- Table 04-6, group 0x4200 + n. -/
def chanStatusRows : List Row := [
  ⟨0x01, 1, "OwnerRefusals", .u32, .ro, .observe, 0, false, .any, false⟩,
  ⟨0x02, 1, "CellStatus", .b32, .ro, .observe, 0x00000000, false, .any, false⟩,
  ⟨0x03, 1, "CompactStatus", .u8, .ro, .observe, 0x00, true, .any, false⟩,
  ⟨0x04, 1, "LastChangeTime", .t64, .ro, .observe, 0, false, .any, false⟩,
  ⟨0x05, 1, "LastApplyDelay", .u32, .ro, .observe, 0, false, .any, false⟩]

/-- Table 05-10, group 0x4400 + n. -/
def chanDiagRows : List Row := [
  ⟨0x01, 1, "DiagnosticFlags", .b32, .ro, .observe, 0x00000000, false, .any, false⟩,
  ⟨0x02, 1, "RetriesUsed", .u8, .ro, .observe, 0, true, .any, false⟩,
  ⟨0x03, 1, "TripCount", .u32, .ro, .observe, 0, false, .any, false⟩,
  ⟨0x04, 1, "LimitEvents", .u32, .ro, .observe, 0, false, .any, false⟩,
  ⟨0x05, 1, "LastTripTime", .t64, .ro, .observe, 0, false, .any, false⟩,
  ⟨0x06, 1, "LastTripCurrent", .i16, .ro, .observe, 0, false, .any, false⟩,
  ⟨0x07, 1, "WiredOrPartner", .u16, .ro, .observe, 0xFFFF, false, .any, false⟩,
  ⟨0x08, 1, "FreewheelDrop50", .u16, .ro, .observe, 0, false, .any, false⟩,
  ⟨0x09, 1, "FreewheelDrop25", .u16, .ro, .observe, 0, false, .any, false⟩,
  ⟨0x0A, 1, "FreewheelTime", .t64, .ro, .observe, 0, false, .any, false⟩,
  ⟨0x0B, 1, "ProofRefusals", .u32, .ro, .observe, 0, false, .any, false⟩,
  ⟨0x0C, 1, "LastClampTime", .u16, .ro, .observe, 0, false, .any, false⟩,
  ⟨0x0D, 1, "ProofRequest", .u8, .cmd, .operate, 0, false, (.oneOf [1]), false⟩,
  ⟨0x0E, 1, "CountersClear", .u8, .cmd, .integrate, 0, false, (.oneOf [1]), false⟩]

/-- Table 04-8, group 0x4600 + n. -/
def chanMeasRows : List Row := [
  ⟨0x01, 1, "Current", .i16, .ro, .observe, 0, true, .any, false⟩,
  ⟨0x02, 1, "CurrentAverage", .i32, .ro, .observe, 0, false, .any, false⟩,
  ⟨0x03, 1, "PinVoltage", .i16, .ro, .observe, 0, true, .any, false⟩,
  ⟨0x04, 1, "PinVoltageAverage", .i16, .ro, .observe, 0, false, .any, false⟩,
  ⟨0x05, 1, "CellTemperature", .i16, .ro, .observe, 0, true, .any, false⟩,
  ⟨0x06, 1, "SampleTime", .t64, .ro, .observe, 0, false, .any, false⟩,
  ⟨0x07, 1, "Counter", .i32, .ro, .observe, 0, false, .any, false⟩,
  ⟨0x08, 1, "CounterEdgeTime", .t64, .ro, .observe, 0, false, .any, false⟩]

/-- Table 06-1, group 0x4800 + g. -/
def gangRows : List Row := [
  ⟨0x01, 1, "GangConfig", .b32, .rwc, .integrate, 0x00000000, false, (.fields [⟨0, 16, 0, 65535⟩]), false⟩,
  ⟨0x02, 1, "GangStatus", .b32, .ro, .observe, 0x00000000, false, .any, false⟩,
  ⟨0x03, 1, "GangCurrent", .i32, .ro, .observe, 0, false, .any, false⟩,
  ⟨0x04, 1, "TakeoverCount", .u32, .ro, .observe, 0, false, .any, false⟩,
  ⟨0x05, 1, "LastTakeoverTime", .t64, .ro, .observe, 0, false, .any, false⟩,
  ⟨0x06, 1, "TakeoverLatency", .u32, .ro, .observe, 0, false, .any, false⟩]

/-- Tables 02-5 and 04-9, group 0x4900 + b. -/
def bankRows : List Row := [
  ⟨0x01, 1, "FunctionState", .e8, .rw, .integrate, 0, true, (.range 0 4 1), false⟩,
  ⟨0x02, 1, "LastRefusal", .u32, .ro, .observe, 0, false, .any, false⟩,
  ⟨0x03, 1, "BankStatus", .b32, .ro, .observe, 0x00000000, false, .any, false⟩,
  ⟨0x04, 1, "SupplyVoltage", .u16, .ro, .observe, 0, false, .any, false⟩,
  ⟨0x05, 1, "SupplyCurrent", .u32, .ro, .observe, 0, false, .any, false⟩,
  ⟨0x06, 1, "DieTemperatureMax", .i16, .ro, .observe, 0, false, .any, false⟩,
  ⟨0x07, 1, "DieTemperatureMean", .i16, .ro, .observe, 0, false, .any, false⟩,
  ⟨0x08, 1, "HeartbeatMisses", .u32, .ro, .observe, 0, false, .any, false⟩,
  ⟨0x09, 1, "BankClockFrequency", .u32, .ro, .observe, 0, false, .any, false⟩,
  ⟨0x0A, 1, "AlignmentError", .i32, .ro, .observe, 0, false, .any, false⟩,
  ⟨0x0B, 1, "CommandIntegrityErrors", .u32, .ro, .observe, 0, false, .any, false⟩,
  ⟨0x0C, 1, "SampleTime", .t64, .ro, .observe, 0, false, .any, false⟩,
  ⟨0x10, 16, "HBridge", .b32, .rwc, .integrate, 0x00000000, false, (.fields [⟨0, 5, 0, 31⟩, ⟨8, 5, 0, 31⟩, ⟨16, 5, 0, 31⟩, ⟨24, 1, 0, 1⟩]), false⟩,
  ⟨0x20, 8, "CoilGroup", .b32, .rwc, .integrate, 0x00000000, false, (.fields [⟨0, 6, 0, 63⟩, ⟨8, 24, 0, 16777215⟩]), false⟩]

/-- Table 07-5, group 0x4A00; .05 to .08 persist (R211). -/
def tellerRows : List Row := [
  ⟨0x01, 1, "FunctionState", .e8, .rw, .integrate, 2, false, (.range 0 4 1), false⟩,
  ⟨0x02, 1, "LastRefusal", .u32, .ro, .observe, 0x00000000, false, .any, false⟩,
  ⟨0x03, 1, "TellerStatus", .b32, .ro, .observe, 0x00000000, false, .any, false⟩,
  ⟨0x04, 1, "LoansInFlight", .u8, .ro, .observe, 0, false, .any, false⟩,
  ⟨0x05, 1, "BatteryCurrentCap", .u16, .rw, .integrate, 250, false, (.range 20 480 1), true⟩,
  ⟨0x06, 1, "ModuleDissipationCeiling", .u16, .rw, .integrate, 800, false, (.range 100 800 1), true⟩,
  ⟨0x07, 1, "LogicBudget", .u16, .rw, .integrate, 1500, false, (.range 500 3000 50), true⟩,
  ⟨0x08, 1, "ThermalTau", .u16, .rw, .integrate, 1000, false, (.range 200 20000 20), true⟩,
  ⟨0x09, 1, "BasePlateTemperature", .i16, .ro, .observe, 0, false, .any, false⟩,
  ⟨0x0A, 1, "EffectiveModuleCeiling", .u16, .ro, .observe, 800, false, .any, false⟩,
  ⟨0x0B, 1, "ProjectedBatteryCurrent", .u32, .ro, .observe, 0, false, .any, false⟩,
  ⟨0x0C, 1, "ProjectedModuleDissipation", .u32, .ro, .observe, 0, false, .any, false⟩,
  ⟨0x0D, 1, "ProjectedLogicCurrent", .u16, .ro, .observe, 0, false, .any, false⟩,
  ⟨0x0E, 1, "CountersClear", .u8, .cmd, .integrate, 0, false, (.oneOf [1]), false⟩]

/-- Table 07-7, group 0x4A01 (R212). -/
def teller1Rows : List Row := [
  ⟨0x01, 16, "BankPeakCurrent", .u16, .rw, .integrate, 60000, false, (.range 10000 60000 250), true⟩]

/-- Table 07-7, group 0x4A02 (R212). -/
def teller2Rows : List Row := [
  ⟨0x01, 16, "BankExcessTime", .u8, .rw, .integrate, 10, false, (.range 0 10 1), true⟩]

/-- Table 07-7, group 0x4A03 (R212). -/
def teller3Rows : List Row := [
  ⟨0x01, 16, "BankDissipationCeiling", .u16, .rw, .integrate, 6000, false, (.range 500 6000 100), true⟩]

/-- Table 07-7, group 0x4A04 (R212). -/
def teller4Rows : List Row := [
  ⟨0x01, 16, "BankProjectedCurrent", .u32, .ro, .observe, 0, false, .any, false⟩]

/-- Table 07-7, group 0x4A05 (R212). -/
def teller5Rows : List Row := [
  ⟨0x01, 16, "BankProjectedDissipation", .u32, .ro, .observe, 0, false, .any, false⟩]

/-- Table 07-7, group 0x4A06 (R212). -/
def teller6Rows : List Row := [
  ⟨0x01, 16, "ExcessUsed", .u32, .ro, .observe, 0, false, .any, false⟩]

/-- Table 07-7, group 0x4A07 (R212). -/
def teller7Rows : List Row := [
  ⟨0x01, 1, "StoreTerms", .b16, .rw, .integrate, 0x1F43, false, (.fields [⟨0, 3, 0, 7⟩, ⟨4, 10, 1, 1000⟩]), true⟩,
  ⟨0x02, 1, "StagingTerms", .b16, .rw, .integrate, 0x3E86, false, (.fields [⟨0, 3, 0, 7⟩, ⟨4, 10, 1, 1000⟩]), true⟩,
  ⟨0x03, 1, "LfTerms", .b16, .rw, .integrate, 0x0142, false, (.fields [⟨0, 3, 0, 7⟩, ⟨4, 10, 1, 1000⟩]), true⟩]

/-- Table 07-7, group 0x4A08. -/
def teller8Rows : List Row := [
  ⟨0x01, 1, "LoansGranted", .u32, .ro, .observe, 0, false, .any, false⟩,
  ⟨0x02, 1, "LoansDeclined", .u32, .ro, .observe, 0, false, .any, false⟩,
  ⟨0x03, 1, "LoansDisplaced", .u32, .ro, .observe, 0, false, .any, false⟩,
  ⟨0x04, 1, "SecondLoanRefusals", .u32, .ro, .observe, 0, false, .any, false⟩,
  ⟨0x05, 1, "OversizeDeclines", .u32, .ro, .observe, 0, false, .any, false⟩,
  ⟨0x06, 1, "TableFullWaits", .u32, .ro, .observe, 0, false, .any, false⟩,
  ⟨0x07, 1, "MaxQueueLength", .u16, .ro, .observe, 0, false, .any, false⟩,
  ⟨0x08, 1, "MaxGrantWait", .u32, .ro, .observe, 0, false, .any, false⟩]

/-- Table 07-7, groups 0x4A0C to 0x4A0F (R212). -/
def loanTermsRows : List Row := [
  ⟨0x01, 128, "LoanTerms", .b16, .rw, .integrate, 0x0644, false, (.fields [⟨0, 3, 0, 7⟩, ⟨4, 10, 1, 1000⟩]), true⟩]

/-- Table 07-9, group 0x4A80 + slot. -/
def loanRows : List Row := [
  ⟨0x01, 1, "SlotState", .e8, .ro, .observe, 0, false, .any, false⟩,
  ⟨0x02, 1, "Requester", .u16, .ro, .observe, 0, false, .any, false⟩,
  ⟨0x03, 1, "Budget", .u8, .ro, .observe, 0, false, .any, false⟩,
  ⟨0x04, 1, "Amount", .u32, .ro, .observe, 0, false, .any, false⟩,
  ⟨0x05, 1, "Allowance", .u32, .ro, .observe, 0, false, .any, false⟩,
  ⟨0x06, 1, "Priority", .u8, .ro, .observe, 0, false, .any, false⟩,
  ⟨0x07, 1, "RequestTime", .t64, .ro, .observe, 0, false, .any, false⟩,
  ⟨0x08, 1, "GrantTime", .t64, .ro, .observe, 0, false, .any, false⟩,
  ⟨0x09, 1, "EndTime", .t64, .ro, .observe, 0, false, .any, false⟩,
  ⟨0x0A, 1, "Kind", .e8, .ro, .observe, 0, false, .any, false⟩]

/-- R215: group 0x4B00. -/
def queueRows : List Row := [
  ⟨0x01, 1, "QueueLength", .u16, .ro, .observe, 0, false, .any, false⟩,
  ⟨0x02, 1, "HeadWait", .u32, .ro, .observe, 0, false, .any, false⟩]

/-- R215: groups 0x4B01 to 0x4B04. -/
def queueRecordRows : List Row := [
  ⟨0x01, 128, "QueueRecord", .u64, .ro, .observe, 0, false, .any, false⟩]

/-- Table 17-5, group 0x8000 + id; SourceConfig and SourceWindow persist (R474). -/
def sourceRows : List Row := [
  ⟨0x01, 1, "SourceStatus", .b16, .ro, .observe, 0x0000, true, .any, false⟩,
  ⟨0x02, 1, "SourceConfig", .b16, .rw, .integrate, 0x0004, false, (.fields [⟨0, 2, 0, 3⟩, ⟨2, 8, 1, 255⟩, ⟨10, 1, 0, 1⟩]), true⟩,
  ⟨0x03, 1, "SourceWindow", .u16, .rw, .integrate, 1000, false, (.range 1 60000 1), true⟩,
  ⟨0x04, 1, "OccurrenceCount", .u32, .ro, .observe, 0, false, .any, false⟩,
  ⟨0x05, 1, "SourceCommand", .u8, .cmd, .operate, 0, true, (.range 1 2 1), false⟩,
  ⟨0x06, 1, "Force", .bool, .rw, .integrate, 0, false, .any, false⟩]

/-- Table 17-4, group 0x7400; .01 to .03 persist (R475). -/
def auditRows : List Row := [
  ⟨0x01, 1, "GraceDegrade", .u16, .rw, .integrate, 100, false, (.range 0 500 1), true⟩,
  ⟨0x02, 1, "GraceIsolate", .u16, .rw, .integrate, 50, false, (.range 0 500 1), true⟩,
  ⟨0x03, 1, "GraceSafe", .u16, .rw, .integrate, 20, false, (.range 0 500 1), true⟩,
  ⟨0x04, 1, "AuditStatus", .b32, .ro, .observe, 0x00000000, false, .any, false⟩,
  ⟨0x05, 1, "SevereSources", .u16, .ro, .observe, 0, false, .any, false⟩,
  ⟨0x06, 1, "UnacknowledgedSources", .u16, .ro, .observe, 0, false, .any, false⟩,
  ⟨0x07, 1, "ReactionsApplied", .u32, .ro, .observe, 0, false, .any, false⟩,
  ⟨0x08, 1, "ReactionsCancelled", .u32, .ro, .observe, 0, false, .any, false⟩,
  ⟨0x09, 1, "Escalations", .u32, .ro, .observe, 0, false, .any, false⟩,
  ⟨0x0A, 1, "CountersClear", .u8, .cmd, .integrate, 0, false, (.oneOf [1]), false⟩]

/-- R475: the bitmaps of groups 0x7440, 0x7448 and 0x7450. -/
def auditMapRows : List Row := [
  ⟨0x01, 32, "SourceBits", .b32, .ro, .observe, 0, false, .any, false⟩]

/-- Table 17-10, group 0x7600; .01 to .03 persist (R488). -/
def escrowRows : List Row := [
  ⟨0x01, 1, "EscrowTime", .u16, .rw, .integrate, 250, true, (.range 10 1000 1), true⟩,
  ⟨0x02, 1, "LhenMode", .e8, .rw, .integrate, 0, false, (.range 0 1 1), true⟩,
  ⟨0x03, 1, "LhFilter", .u8, .rw, .integrate, 10, false, (.range 1 100 1), true⟩,
  ⟨0x04, 1, "LhLevels", .b32, .ro, .observe, 0x00000000, false, .any, false⟩,
  ⟨0x05, 1, "LhenLevel", .bool, .ro, .observe, 0, false, .any, false⟩,
  ⟨0x06, 1, "LimpStatus", .b32, .ro, .observe, 0x00000000, false, .any, false⟩,
  ⟨0x07, 1, "LimpExit", .u8, .cmd, .integrate, 0, false, (.oneOf [1]), false⟩,
  ⟨0x08, 1, "EscrowCount", .u32, .ro, .observe, 0, false, .any, false⟩,
  ⟨0x09, 1, "EscrowExpiries", .u32, .ro, .observe, 0, false, .any, false⟩,
  ⟨0x0A, 1, "LastEscrow", .b32, .ro, .observe, 0x00000000, false, .any, false⟩,
  ⟨0x0B, 1, "LastEscrowDuration", .u32, .ro, .observe, 0, false, .any, false⟩,
  ⟨0x0C, 1, "CountersClear", .u8, .cmd, .integrate, 0, false, (.oneOf [1]), false⟩]

/-- Table 17-10, group 0x7601. -/
def limpRows : List Row := [
  ⟨0x01, 128, "LimpEntry", .b32, .rwc, .integrate, 0x00000000, false, (.fields [⟨0, 9, 0, 511⟩, ⟨9, 5, 0, 31⟩, ⟨14, 3, 0, 7⟩, ⟨17, 3, 0, 7⟩, ⟨20, 1, 0, 1⟩]), false⟩]

/-- Table 17-10, group 0x7602. -/
def supervisorRows : List Row := [
  ⟨0x01, 1, "SupervisorStatus", .b32, .ro, .observe, 0, false, .any, false⟩,
  ⟨0x02, 1, "TakeoverCount", .u32, .ro, .observe, 0, false, .any, false⟩,
  ⟨0x03, 1, "LastTakeoverTime", .t64, .ro, .observe, 0, false, .any, false⟩,
  ⟨0x04, 1, "LastTakeoverGap", .u32, .ro, .observe, 0, false, .any, false⟩,
  ⟨0x05, 1, "LastStopCause", .e8, .ro, .observe, 0, false, .any, false⟩]

/-- R476: group 0x7E00. -/
def fnResetRows : List Row := [
  ⟨0x01, 1, "FunctionReset", .u16, .cmd, .integrate, 0, false, .any, false⟩,
  ⟨0x02, 1, "LastReset", .u16, .ro, .observe, 0, false, .any, false⟩,
  ⟨0x03, 1, "ResetCount", .u32, .ro, .observe, 0, false, .any, false⟩]

end Sys2Proof.Machine
end

