-- ==== Sys2Proof/Machine/RowsEngines.lean ====
section
/-! DEFINITION. The entry tables of the coil and loop engines and of the field inputs (Tables 08-4, 08-5, 09-5, 09-7,
09-8, 10-1, 10-5, 10-7, 10-8). -/

namespace Sys2Proof.Machine

/-- Tables 02-5 and 08-4, group 0x4C00 + e. -/
def coilCommonRows : List Row := [
  ⟨0x01, 1, "FunctionState", .e8, .rw, .integrate, 0, false, (.range 0 4 1), false⟩,
  ⟨0x02, 1, "LastRefusal", .u32, .ro, .observe, 0, false, .any, false⟩,
  ⟨0x03, 1, "EngineTarget", .b16, .rwc, .integrate, 0x0000, false, (.fields [⟨0, 4, 0, 15⟩, ⟨4, 5, 0, 31⟩, ⟨9, 1, 0, 1⟩]), false⟩,
  ⟨0x04, 1, "EngineStatus", .b32, .ro, .observe, 0x00000000, false, .any, false⟩,
  ⟨0x05, 1, "RetriggerMode", .e8, .rwc, .integrate, 0, false, (.range 0 1 1), false⟩,
  ⟨0x06, 1, "MinOffTime", .u16, .rwc, .integrate, 1000, false, (.range 100 50000 100), false⟩,
  ⟨0x07, 1, "RegKp", .q16, .rwc, .integrate, 0x00001999, false, (.srange (0) (524288) 1), false⟩,
  ⟨0x08, 1, "RegKi", .q16, .rwc, .integrate, 0x0000051F, false, (.srange (0) (65536) 1), false⟩,
  ⟨0x09, 1, "RegTolerance", .u16, .rwc, .integrate, 150, false, (.range 25 1000 25), false⟩,
  ⟨0x0A, 1, "RegFaultTime", .u16, .rwc, .integrate, 50, false, (.range 1 1000 1), false⟩,
  ⟨0x0B, 1, "SupplyCapacity", .u16, .ro, .observe, 0, false, .any, false⟩,
  ⟨0x0C, 1, "CountersClear", .u8, .cmd, .integrate, 0, false, (.oneOf [1]), false⟩]

/-- Table 08-5 at its offsets. -/
def coilSlotRows : List Row := [
  ⟨0x00, 1, "ProfileMode", .e8, .rwc, .integrate, 0, false, (.range 0 3 1), false⟩,
  ⟨0x01, 1, "PeakCurrent", .u16, .rwc, .integrate, 1000, false, (.range 100 8000 25), false⟩,
  ⟨0x02, 1, "PeakDwell", .u16, .rwc, .integrate, 1000, false, (.range 0 50000 20), false⟩,
  ⟨0x03, 1, "TtpMin", .u16, .rwc, .integrate, 0, false, (.range 0 50000 20), false⟩,
  ⟨0x04, 1, "TtpMax", .u16, .rwc, .integrate, 10000, false, (.range 100 50000 20), false⟩,
  ⟨0x05, 1, "HoldCurrent", .u16, .rwc, .integrate, 300, false, (.range 0 3000 25), false⟩,
  ⟨0x06, 1, "EventLength", .u16, .rwc, .integrate, 0, false, (.range 0 60000 1), false⟩,
  ⟨0x07, 1, "DitherConfig", .b16, .rwc, .integrate, 0x0000, false, (.fields [⟨0, 2, 0, 2⟩, ⟨2, 8, 0, 255⟩]), false⟩,
  ⟨0x08, 1, "DitherAmplitude", .u16, .rwc, .integrate, 0, false, (.range 0 1000 25), false⟩,
  ⟨0x09, 1, "CoilResistance", .u16, .rwc, .integrate, 1000, false, (.range 50 65000 1), false⟩,
  ⟨0x0A, 1, "CoilThermalResistance", .u16, .rwc, .integrate, 2000, false, (.range 1 10000 1), false⟩,
  ⟨0x0B, 1, "CoilThermalTau", .u16, .rwc, .integrate, 600, false, (.range 10 36000 1), false⟩,
  ⟨0x0C, 1, "CoilTempLimit", .i16, .rwc, .integrate, 1800, false, (.srange (500) (2200) 1), false⟩,
  ⟨0x0D, 1, "DerateSpan", .u16, .rwc, .integrate, 200, false, (.range 10 1000 1), false⟩,
  ⟨0x0E, 1, "CoilAmbient", .i16, .rwc, .integrate, 850, false, (.srange (-400) (1250) 1), false⟩,
  ⟨0x0F, 1, "DutyMax", .u8, .rwc, .integrate, 100, false, (.range 1 100 1), false⟩,
  ⟨0x10, 1, "DutyWindow", .u16, .rwc, .integrate, 10000, false, (.range 100 60000 1), false⟩,
  ⟨0x11, 1, "PeakTerms", .b16, .rw, .integrate, 0x0052, false, (.fields [⟨0, 3, 0, 7⟩, ⟨4, 10, 1, 1000⟩]), true⟩,
  ⟨0x12, 1, "TriggerSource", .b16, .rwc, .integrate, 0x0000, false, (.fields [⟨0, 9, 0, 511⟩, ⟨9, 2, 0, 3⟩]), false⟩,
  ⟨0x13, 1, "LimitAction", .e8, .rwc, .integrate, 0, false, (.range 0 1 1), false⟩,
  ⟨0x18, 1, "CoilCommand", .e8, .rw, .operate, 0, false, (.range 0 1 1), false⟩,
  ⟨0x19, 1, "ProportionalSetpoint", .u16, .rw, .operate, 0, false, (.range 0 3000 1), false⟩,
  ⟨0x1A, 1, "ScheduleTime", .t64, .rw, .operate, 0, false, .any, false⟩,
  ⟨0x1B, 1, "SlotRearm", .u8, .cmd, .operate, 0, false, (.oneOf [1]), false⟩,
  ⟨0x20, 1, "SlotStatus", .b32, .ro, .observe, 0x00000000, false, .any, false⟩,
  ⟨0x21, 1, "LastOutcome", .e8, .ro, .observe, 0, false, .any, false⟩,
  ⟨0x22, 1, "LastTimeToPeak", .u16, .ro, .observe, 0, false, .any, false⟩,
  ⟨0x23, 1, "CoilTemperature", .i16, .ro, .observe, 850, false, .any, false⟩,
  ⟨0x24, 1, "DutyUsed", .u16, .ro, .observe, 0, false, .any, false⟩,
  ⟨0x25, 1, "EventCount", .u32, .ro, .observe, 0, false, .any, false⟩,
  ⟨0x26, 1, "DeferredCount", .u32, .ro, .observe, 0, false, .any, false⟩,
  ⟨0x27, 1, "DroppedCount", .u32, .ro, .observe, 0, false, .any, false⟩,
  ⟨0x28, 1, "DeclinedCount", .u32, .ro, .observe, 0, false, .any, false⟩,
  ⟨0x29, 1, "LimitedCount", .u32, .ro, .observe, 0, false, .any, false⟩,
  ⟨0x2A, 1, "TtpFaultCount", .u32, .ro, .observe, 0, false, .any, false⟩,
  ⟨0x2B, 1, "LastEventTime", .t64, .ro, .observe, 0, false, .any, false⟩]

/-- R241, R242: the common entries and slot s's entries at sub-index 0x10 + 0x30 × s + offset. -/
def coilRows : List Row :=
  coilCommonRows ++ (List.range 4).flatMap fun k => coilSlotRows.map fun r => { r with lo := 0x10 + 0x30 * k + r.lo }

/-- Tables 02-5 and 09-5, group 0x4D00 + e, without the mode blocks. -/
def loopCommonRows : List Row := [
  ⟨0x01, 1, "FunctionState", .e8, .rw, .integrate, 0, false, (.range 0 4 1), false⟩,
  ⟨0x02, 1, "LastRefusal", .u32, .ro, .observe, 0, false, .any, false⟩,
  ⟨0x03, 1, "EngineTarget", .b16, .rwc, .integrate, 0x0000, false, (.fields [⟨0, 4, 0, 15⟩, ⟨4, 5, 0, 31⟩, ⟨9, 2, 0, 2⟩]), false⟩,
  ⟨0x04, 1, "FeedbackSource", .b32, .rwc, .integrate, 0x00000000, false, (.fields [⟨0, 3, 0, 4⟩, ⟨8, 9, 0, 511⟩]), false⟩,
  ⟨0x05, 1, "FeedbackScale", .q16, .rwc, .integrate, 0x00010000, false, (.srange (-65536000) (65536000) 1), false⟩,
  ⟨0x06, 1, "SamplePeriod", .u16, .rwc, .integrate, 1000, false, (.range 50 1000 10), false⟩,
  ⟨0x07, 1, "SamplePhase", .u16, .rwc, .integrate, 0, false, (.range 0 990 10), false⟩,
  ⟨0x08, 1, "VelocityWindow", .u8, .rwc, .integrate, 4, false, (.range 1 16 1), false⟩,
  ⟨0x09, 1, "StartCurrent", .u16, .rwc, .integrate, 10000, false, (.range 1000 60000 250), false⟩,
  ⟨0x0A, 1, "StartTime", .u16, .rwc, .integrate, 100, false, (.range 10 3000 1), false⟩,
  ⟨0x0B, 1, "ExternalTimeout", .u16, .rwc, .integrate, 10, false, (.range 1 1000 1), false⟩,
  ⟨0x0C, 1, "EngineControl", .e8, .rw, .operate, 0, false, (.range 0 2 1), false⟩,
  ⟨0x0D, 1, "ControlMode", .e8, .rw, .operate, 0, false, (.range 0 2 1), false⟩,
  ⟨0x0E, 1, "OpenLoopDuty", .q16, .rw, .operate, 0, false, (.srange (-65536) (65536) 1), false⟩,
  ⟨0x0F, 1, "ExternalFeedback", .i32, .rw, .operate, 0, false, .any, false⟩,
  ⟨0x10, 1, "DutySlew", .q16, .rw, .integrate, 0x00000200, false, (.srange (1) (65536) 1), false⟩,
  ⟨0x11, 1, "OpenOutputMin", .q16, .rw, .integrate, 0xFFFF0000, false, (.srange (-65536) (65536) 1), false⟩,
  ⟨0x12, 1, "OpenOutputMax", .q16, .rw, .integrate, 0x00010000, false, (.srange (-65536) (65536) 1), false⟩,
  ⟨0x30, 1, "EngineState", .e8, .ro, .observe, 0, false, .any, false⟩,
  ⟨0x31, 1, "EngineStatus", .b32, .ro, .observe, 0x00000000, false, .any, false⟩,
  ⟨0x32, 1, "MeasuredValue", .i32, .ro, .observe, 0, false, .any, false⟩,
  ⟨0x33, 1, "MeasuredVelocity", .q16, .ro, .observe, 0, false, .any, false⟩,
  ⟨0x34, 1, "Output", .q16, .ro, .observe, 0, false, .any, false⟩,
  ⟨0x35, 1, "Integrator", .q16, .ro, .observe, 0, false, .any, false⟩,
  ⟨0x36, 1, "TrackingError", .q16, .ro, .observe, 0, false, .any, false⟩,
  ⟨0x37, 1, "LastOutcome", .e8, .ro, .observe, 0, false, .any, false⟩,
  ⟨0x38, 1, "SampleCount", .u32, .ro, .observe, 0, false, .any, false⟩,
  ⟨0x39, 1, "LastSampleTime", .t64, .ro, .observe, 0, false, .any, false⟩,
  ⟨0x3A, 1, "StartsDeclined", .u32, .ro, .observe, 0, false, .any, false⟩,
  ⟨0x3B, 1, "SuspendCount", .u32, .ro, .observe, 0, false, .any, false⟩,
  ⟨0x3C, 1, "CountersClear", .u8, .cmd, .integrate, 0, false, (.oneOf [1]), false⟩]

/-- Table 09-7: the eight entries of a mode block from its base. -/
def loopBlockRows (base : Nat) : List Row := [
  ⟨base + 0, 1, "Kp", .q16, .rw, .integrate, 0, false, (.srange (0) (65536000) 1), false⟩,
  ⟨base + 1, 1, "Ki", .q16, .rw, .integrate, 0, false, (.srange (0) (65536000) 1), false⟩,
  ⟨base + 2, 1, "Kd", .q16, .rw, .integrate, 0, false, (.srange (0) (65536000) 1), false⟩,
  ⟨base + 3, 1, "Kff", .q16, .rw, .integrate, 0, false, (.srange (-65536000) (65536000) 1), false⟩,
  ⟨base + 4, 1, "IntegMin", .q16, .rw, .integrate, 0xFFFF0000, false, (.srange (-65536) (65536) 1), false⟩,
  ⟨base + 5, 1, "IntegMax", .q16, .rw, .integrate, 0x00010000, false, (.srange (-65536) (65536) 1), false⟩,
  ⟨base + 6, 1, "OutputMin", .q16, .rw, .integrate, 0xFFFF0000, false, (.srange (-65536) (65536) 1), false⟩,
  ⟨base + 7, 1, "OutputMax", .q16, .rw, .integrate, 0x00010000, false, (.srange (-65536) (65536) 1), false⟩]

/-- R267, R268: group 0x4D00 + e. -/
def loopRows : List Row := loopCommonRows ++ loopBlockRows 0x20 ++ loopBlockRows 0x28

/-- Table 09-8, group 0x4D80 + e. -/
def profileRows : List Row := [
  ⟨0x01, 1, "TargetValue", .i32, .rw, .operate, 0, false, .any, false⟩,
  ⟨0x02, 1, "TargetVelocity", .q16, .rw, .operate, 0, false, .any, false⟩,
  ⟨0x03, 1, "VelocityLimit", .q16, .rw, .integrate, 0x00010000, false, (.srange (1) (2147418112) 1), false⟩,
  ⟨0x04, 1, "AccelLimit", .q16, .rw, .integrate, 0x00000400, false, (.srange (1) (2147418112) 1), false⟩,
  ⟨0x05, 1, "JerkLimit", .q16, .rw, .integrate, 0x00000040, false, (.srange (1) (2147418112) 1), false⟩,
  ⟨0x06, 1, "ArriveBand", .q16, .rw, .integrate, 0x00008000, false, (.srange (0) (65536000) 1), false⟩,
  ⟨0x07, 1, "LagTolerance", .q16, .rw, .integrate, 0x00640000, false, (.srange (0) (2147418112) 1), false⟩,
  ⟨0x08, 1, "LagTime", .u16, .rw, .integrate, 100, false, (.range 1 10000 1), false⟩,
  ⟨0x09, 1, "TrackTolerance", .q16, .rw, .integrate, 0x000A0000, false, (.srange (0) (2147418112) 1), false⟩,
  ⟨0x0A, 1, "TrackTime", .u16, .rw, .integrate, 50, false, (.range 1 10000 1), false⟩,
  ⟨0x10, 1, "SetPosition", .i32, .ro, .observe, 0, false, .any, false⟩,
  ⟨0x11, 1, "SetVelocity", .q16, .ro, .observe, 0, false, .any, false⟩,
  ⟨0x12, 1, "SetAcceleration", .q16, .ro, .observe, 0, false, .any, false⟩]

/-- Table 10-1, group 0x4E00 + p; `v` for profile 0, which a 1.3 session reaches (R271). -/
def inputProfileRows (v : Bool) : List Row := [
  ⟨0x01, 1, "ThresholdKind", .e8, .rwc, .integrate, 0, v, (.range 0 2 1), false⟩,
  ⟨0x02, 1, "ThresholdRise", .u8, .rwc, .integrate, 65, v, (.range 15 90 1), false⟩,
  ⟨0x03, 1, "ThresholdFall", .u8, .rwc, .integrate, 35, v, (.range 10 85 1), false⟩,
  ⟨0x04, 1, "WettingCurrent", .e8, .rwc, .integrate, 2, v, (.range 0 5 1), false⟩,
  ⟨0x05, 1, "WettingControl", .b16, .rwc, .integrate, 0x0000, v, (.fields [⟨0, 1, 0, 1⟩, ⟨1, 1, 0, 1⟩, ⟨2, 3, 0, 5⟩]), false⟩,
  ⟨0x06, 1, "Debounce", .u8, .rwc, .integrate, 10, v, (.range 0 255 1), false⟩,
  ⟨0x07, 1, "EdgeFilter", .u8, .rwc, .integrate, 20, false, (.range 0 255 1), false⟩,
  ⟨0x08, 1, "WireBreakEnable", .bool, .rwc, .integrate, 0, v, .any, false⟩]

/-- Table 10-7, group 0x4E80. -/
def bankInputRows : List Row := [
  ⟨0x01, 16, "InputLevels", .b32, .ro, .observe, 0x00000000, true, .any, false⟩,
  ⟨0x11, 16, "WireBreaks", .b32, .ro, .observe, 0x00000000, true, .any, false⟩,
  ⟨0x21, 16, "ReportingProfile", .e8, .rwc, .integrate, 0, false, (.range 0 1 1), false⟩,
  ⟨0x31, 16, "FieldSupply", .e8, .ro, .observe, 0, false, .any, false⟩]

/-- Table 10-8, group 0x4E81. -/
def wakeInputRows : List Row := [
  ⟨0x01, 64, "WakeInput", .b16, .rwc, .integrate, 0x0000, false, (.fields [⟨0, 1, 0, 1⟩, ⟨1, 2, 0, 2⟩, ⟨3, 2, 0, 3⟩, ⟨5, 3, 0, 5⟩]), false⟩]

/-- R291: groups 0x4E82 to 0x4E85. -/
def counterLoadRows : List Row := [
  ⟨0x01, 128, "CounterLoad", .i32, .wo, .operate, 0, false, .any, false⟩]

/-- R291: groups 0x4E86 to 0x4E89. -/
def quadErrorRows : List Row := [
  ⟨0x01, 128, "QuadratureErrors", .u32, .ro, .observe, 0, false, .any, false⟩]

/-- Table 10-5, group 0x4F00 + k. -/
def cosRows : List Row := [
  ⟨0x01, 1, "CosConfig", .b32, .rw, .operate, 0x00000000, false, (.fields [⟨0, 4, 0, 15⟩, ⟨4, 2, 1, 3⟩, ⟨6, 1, 0, 1⟩, ⟨8, 2, 0, 2⟩, ⟨10, 7, 0, 127⟩, ⟨17, 3, 0, 7⟩]), false⟩,
  ⟨0x02, 1, "CosMask", .b32, .rw, .operate, 0x00000000, false, .any, false⟩,
  ⟨0x03, 1, "CosEvent", (.oct 18), .ro, .observe, 0, false, .any, false⟩,
  ⟨0x04, 1, "Delivered", .u32, .ro, .observe, 0, false, .any, false⟩,
  ⟨0x05, 1, "Merged", .u32, .ro, .observe, 0, false, .any, false⟩,
  ⟨0x06, 1, "Withdrawn", .u32, .ro, .observe, 0, false, .any, false⟩]

end Sys2Proof.Machine
end

