-- ==== Sys2Proof/Machine/RowsNet.lean ====
section
/-! DEFINITION. The entry tables of the sequencer, the switch and the Vault (Tables 12-9 to 12-11, 12-15, 12-16, 13-5 to
13-9). -/

namespace Sys2Proof.Machine

/-- Table 12-9, group 0x5200. -/
def progLoadRows : List Row := [
  ⟨0x01, 1, "LoadTarget", .u8, .rw, .integrate, 0, true, (.range 0 31 1), false⟩,
  ⟨0x02, 1, "LoadFormat", .e8, .rw, .integrate, 1, false, (.range 1 2 1), false⟩,
  ⟨0x03, 1, "LoadAddress", .u16, .rw, .integrate, 0, true, (.range 0 8191 1), false⟩,
  ⟨0x04, 1, "LoadData", (.oct 240), .wo, .integrate, 0, true, .any, false⟩,
  ⟨0x05, 1, "LoadLength", .u16, .rw, .integrate, 0, true, (.range 1 8192 1), false⟩,
  ⟨0x06, 1, "LoadCheck", .u32, .rw, .integrate, 0, true, .any, false⟩,
  ⟨0x07, 1, "LoadControl", .e8, .cmd, .integrate, 0, true, (.range 1 3 1), false⟩,
  ⟨0x08, 1, "LoadStatus", .b32, .ro, .observe, 0, false, .any, false⟩]

/-- Tables 02-5 and 12-10, group 0x5100 + c. -/
def contextRows : List Row := [
  ⟨0x01, 1, "FunctionState", .e8, .rw, .integrate, 0, true, (.range 0 4 1), false⟩,
  ⟨0x02, 1, "LastRefusal", .u32, .ro, .observe, 0, false, .any, false⟩,
  ⟨0x03, 1, "EntryPoint", .u16, .rwc, .integrate, 0x0000, true, (.range 0 8191 1), false⟩,
  ⟨0x04, 1, "TrapVector", .u16, .rwc, .integrate, 0x0000, true, (.range 0 8191 1), false⟩,
  ⟨0x05, 1, "StackBase", .u16, .rwc, .integrate, 0x1000, false, (.range 4 16384 4), false⟩,
  ⟨0x06, 1, "StackLimit", .u16, .rwc, .integrate, 0x1000, false, (.range 0 16380 4), false⟩,
  ⟨0x07, 1, "ContextRole", .e8, .rwc, .integrate, 2, false, (.range 1 3 1), false⟩,
  ⟨0x08, 1, "AutoRun", .bool, .rwc, .integrate, 0, false, .any, false⟩,
  ⟨0x09, 1, "MessageQueueLimit", .u8, .rwc, .integrate, 16, false, (.range 1 64 1), false⟩,
  ⟨0x0A, 1, "MessageClass", .e8, .rw, .integrate, 3, false, (.range 0 7 1), false⟩,
  ⟨0x0B, 1, "CounterPermit", .bool, .rw, .integrate, 0, false, .any, false⟩,
  ⟨0x0C, 1, "RunControl", .e8, .rw, .operate, 0, true, (.range 0 2 1), false⟩,
  ⟨0x0D, 1, "RunState", .e8, .ro, .observe, 0, true, .any, false⟩,
  ⟨0x0E, 1, "TrapRecord", .u64, .ro, .observe, 0, false, .any, false⟩,
  ⟨0x0F, 1, "TrapCount", .u32, .ro, .observe, 0, false, .any, false⟩,
  ⟨0x10, 1, "PathRefusals", .u32, .ro, .observe, 0, false, .any, false⟩,
  ⟨0x11, 1, "MessagesWithdrawn", .u32, .ro, .observe, 0, false, .any, false⟩,
  ⟨0x12, 1, "CountersClear", .u8, .cmd, .integrate, 0, false, (.oneOf [1]), false⟩]

/-- Tables 02-5 and 12-11, group 0x5000 + e. -/
def engineRows : List Row := [
  ⟨0x01, 1, "FunctionState", .e8, .rw, .integrate, 0, true, (.range 0 4 1), false⟩,
  ⟨0x02, 1, "LastRefusal", .u32, .ro, .observe, 0, false, .any, false⟩,
  ⟨0x03, 1, "EngineStatus", .b32, .ro, .observe, 0, false, .any, false⟩,
  ⟨0x04, 1, "WindowBase", .u8, .rwc, .integrate, 0, false, (.range 0 48 1), false⟩,
  ⟨0x05, 1, "ImageFormat", .e8, .ro, .observe, 0, false, .any, false⟩,
  ⟨0x06, 1, "ImageLength", .u16, .ro, .observe, 0, false, .any, false⟩,
  ⟨0x07, 1, "ImageCheck", .u32, .ro, .observe, 0, false, .any, false⟩,
  ⟨0x08, 1, "CorrectedErrors", .u32, .ro, .observe, 0, false, .any, false⟩]

/-- Table 12-15, group 0x5400 + e. -/
def perfRows : List Row := [
  ⟨0xa, 1, "CounterSelect0", .b16, .rw, .integrate, 0, false, (.fields [⟨0, 6, 0, 63⟩, ⟨6, 1, 0, 1⟩, ⟨8, 4, 0, 15⟩]), true⟩,
  ⟨0xb, 1, "CounterSelect1", .b16, .rw, .integrate, 0, false, (.fields [⟨0, 6, 0, 63⟩, ⟨6, 1, 0, 1⟩, ⟨7, 1, 0, 1⟩, ⟨8, 4, 0, 15⟩]), true⟩,
  ⟨0xc, 1, "CounterSelect2", .b16, .rw, .integrate, 0, false, (.fields [⟨0, 6, 0, 63⟩, ⟨6, 1, 0, 1⟩, ⟨8, 4, 0, 15⟩]), true⟩,
  ⟨0xd, 1, "CounterSelect3", .b16, .rw, .integrate, 0, false, (.fields [⟨0, 6, 0, 63⟩, ⟨6, 1, 0, 1⟩, ⟨7, 1, 0, 1⟩, ⟨8, 4, 0, 15⟩]), true⟩,
  ⟨0xe, 1, "CounterSelect4", .b16, .rw, .integrate, 0, false, (.fields [⟨0, 6, 0, 63⟩, ⟨6, 1, 0, 1⟩, ⟨8, 4, 0, 15⟩]), true⟩,
  ⟨0xf, 1, "CounterSelect5", .b16, .rw, .integrate, 0, false, (.fields [⟨0, 6, 0, 63⟩, ⟨6, 1, 0, 1⟩, ⟨7, 1, 0, 1⟩, ⟨8, 4, 0, 15⟩]), true⟩,
  ⟨0x10, 1, "CounterSelect6", .b16, .rw, .integrate, 0, false, (.fields [⟨0, 6, 0, 63⟩, ⟨6, 1, 0, 1⟩, ⟨8, 4, 0, 15⟩]), true⟩,
  ⟨0x11, 1, "CounterSelect7", .b16, .rw, .integrate, 0, false, (.fields [⟨0, 6, 0, 63⟩, ⟨6, 1, 0, 1⟩, ⟨7, 1, 0, 1⟩, ⟨8, 4, 0, 15⟩]), true⟩,
  ⟨0x01, 1, "CycleCount", .u64, .ro, .observe, 0, false, .any, false⟩,
  ⟨0x02, 8, "EventCount", .u32, .ro, .observe, 0, false, .any, false⟩,
  ⟨0x12, 1, "CounterOverflow", .b16, .ro, .observe, 0x0000, false, .any, false⟩,
  ⟨0x13, 1, "CountersClear", .u8, .cmd, .integrate, 0, false, (.oneOf [1]), false⟩,
  ⟨0x14, 1, "TagControl", .b16, .rw, .integrate, 0x0000, false, (.fields [⟨0, 1, 0, 1⟩, ⟨1, 4, 0, 15⟩, ⟨5, 4, 0, 15⟩]), true⟩,
  ⟨0x15, 1, "TagInterval", .u16, .rw, .integrate, 1000, false, (.range 16 65535 1), true⟩,
  ⟨0x16, 1, "TagSeed", .u16, .rw, .integrate, 0xACE1, false, (.range 1 65535 1), true⟩,
  ⟨0x17, 1, "TagRecord", (.oct 24), .ro, .observe, 0, false, .any, false⟩,
  ⟨0x18, 1, "TagArm", .u8, .cmd, .integrate, 0, false, (.oneOf [1]), false⟩]

/-- Table 12-16, group 0x5480 + e. -/
def censusRows : List Row := [
  ⟨0x01, 1, "CensusControl", .e8, .rw, .integrate, 0, false, (.range 0 1 1), false⟩,
  ⟨0x02, 1, "CensusState", .e8, .ro, .observe, 0, false, .any, false⟩,
  ⟨0x03, 1, "CensusDuration", .u16, .rw, .integrate, 1000, false, (.range 10 60000 1), true⟩,
  ⟨0x04, 1, "CensusStart", .t64, .ro, .observe, 0, false, .any, false⟩,
  ⟨0x05, 1, "CensusEnd", .t64, .ro, .observe, 0, false, .any, false⟩,
  ⟨0x10, 64, "CensusCount", .u32, .ro, .observe, 0, false, .any, false⟩]

/-- Tables 02-5 and 13-5, group 0x6000 + p. -/
def portAllRows : List Row := [
  ⟨0x01, 1, "FunctionState", .e8, .rw, .integrate, 0, false, (.range 0 4 1), false⟩,
  ⟨0x02, 1, "LastRefusal", .u32, .ro, .observe, 0, false, .any, false⟩,
  ⟨0x03, 1, "PortStatus", .b32, .ro, .observe, 0x00000000, false, .any, false⟩,
  ⟨0x04, 1, "MacAddress", (.oct 6), .ro, .observe, 0, false, .any, false⟩,
  ⟨0x05, 1, "DefaultPriority", .u8, .rwc, .integrate, 0, false, (.range 0 7 1), false⟩,
  ⟨0x06, 1, "Pvid", .u16, .rwc, .integrate, 1, false, (.range 1 4094 1), false⟩,
  ⟨0x07, 1, "PcpMap", .b32, .rwc, .integrate, 0x00FAC688, false, (.fields [⟨0, 24, 0, 16777215⟩]), false⟩,
  ⟨0x08, 1, "AcceptedFrames", .e8, .rwc, .integrate, 0, false, (.range 0 2 1), false⟩,
  ⟨0x09, 1, "CutThroughEnable", .bool, .rwc, .integrate, 1, false, .any, false⟩,
  ⟨0x0A, 1, "PhyRole", .e8, .rwc, .integrate, 1, false, (.range 0 1 1), false⟩,
  ⟨0x0B, 1, "BullionLoadPeak", .u32, .ro, .observe, 0, false, .any, false⟩,
  ⟨0x0C, 1, "BullionOverloads", .u32, .ro, .observe, 0, false, .any, false⟩,
  ⟨0x10, 1, "MacsecControl", .b16, .rwc, .integrate, 0x0000, false, (.fields [⟨0, 1, 0, 1⟩, ⟨1, 1, 0, 1⟩, ⟨2, 2, 0, 2⟩]), false⟩,
  ⟨0x11, 1, "MacsecTxKey", (.oct 16), .wo, .service, 0, false, .any, false⟩,
  ⟨0x12, 1, "MacsecRxKey", (.oct 16), .wo, .service, 0, false, .any, false⟩,
  ⟨0x13, 1, "MacsecSci", (.oct 8), .rwc, .integrate, 0, false, .any, false⟩,
  ⟨0x14, 1, "MacsecKeyCommit", .u8, .cmd, .service, 0, false, (.oneOf [1]), false⟩,
  ⟨0x15, 1, "MacsecTxPn", .u32, .ro, .observe, 0, false, .any, false⟩,
  ⟨0x16, 1, "AsEnable", .bool, .rwc, .integrate, 1, false, .any, false⟩,
  ⟨0x17, 1, "AsPortRole", .e8, .rwc, .integrate, 2, false, (.range 0 2 1), false⟩,
  ⟨0x18, 1, "NeighbourDelay", .u32, .ro, .observe, 0, false, .any, false⟩,
  ⟨0x20, 1, "FramesIn", .u32, .ro, .observe, 0, false, .any, false⟩,
  ⟨0x21, 1, "OctetsIn", .u64, .ro, .observe, 0, false, .any, false⟩,
  ⟨0x22, 1, "FramesOut", .u32, .ro, .observe, 0, false, .any, false⟩,
  ⟨0x23, 1, "OctetsOut", .u64, .ro, .observe, 0, false, .any, false⟩,
  ⟨0x24, 1, "NoCoinDrops", .u32, .ro, .observe, 0, false, .any, false⟩,
  ⟨0x25, 1, "PolicingDrops", .u32, .ro, .observe, 0, false, .any, false⟩,
  ⟨0x26, 1, "ErrorDrops", .u32, .ro, .observe, 0, false, .any, false⟩,
  ⟨0x27, 1, "VlanDrops", .u32, .ro, .observe, 0, false, .any, false⟩,
  ⟨0x28, 1, "TenorWithdrawn", .u32, .ro, .observe, 0, false, .any, false⟩,
  ⟨0x29, 1, "PauseIgnored", .u32, .ro, .observe, 0, false, .any, false⟩,
  ⟨0x2A, 1, "CutThroughFrames", .u32, .ro, .observe, 0, false, .any, false⟩,
  ⟨0x2B, 1, "StompedFrames", .u32, .ro, .observe, 0, false, .any, false⟩,
  ⟨0x2C, 1, "MacsecDrops", .u32, .ro, .observe, 0, false, .any, false⟩,
  ⟨0x2D, 1, "LinkDownCount", .u32, .ro, .observe, 0, false, .any, false⟩,
  ⟨0x2E, 1, "CountersClear", .u8, .cmd, .integrate, 0, false, (.oneOf [1]), false⟩]

/-- R383: the entries of port `p`, without those of functions that Table 13-1 does not give it. -/
def portRows (p : Nat) : List Row :=
  portAllRows.filter fun r =>
    if r.lo = 0x0A then decide (p < 2 ∨ p = 8)
    else if (0x09 ≤ r.lo ∧ r.lo ≤ 0x0C) ∨ (0x10 ≤ r.lo ∧ r.lo ≤ 0x18) then decide (p < 2)
    else true

/-- Table 13-6, group 0x6100. -/
def vaultRows : List Row := [
  ⟨0x01, 1, "VaultStatus", .b32, .ro, .observe, 0x00000000, false, .any, false⟩,
  ⟨0x02, 1, "CoinsFree", .u32, .ro, .observe, 131072, false, .any, false⟩,
  ⟨0x03, 1, "ReservedTotal", .u32, .ro, .observe, 62720, false, .any, false⟩,
  ⟨0x04, 1, "SharedPool", .u32, .ro, .observe, 68352, false, .any, false⟩,
  ⟨0x05, 1, "SharedInUse", .u32, .ro, .observe, 0, false, .any, false⟩,
  ⟨0x06, 1, "CoinsFreeMin", .u32, .ro, .observe, 131072, false, .any, false⟩,
  ⟨0x07, 1, "CorrectedErrors", .u32, .ro, .observe, 0, false, .any, false⟩,
  ⟨0x08, 1, "UncorrectedErrors", .u32, .ro, .observe, 0, false, .any, false⟩,
  ⟨0x09, 1, "ItemsQueued", .u32, .ro, .observe, 0, false, .any, false⟩,
  ⟨0x0A, 1, "FdbAgeTime", .u16, .rw, .integrate, 300, false, (.range 10 3600 1), true⟩,
  ⟨0x0B, 1, "FdbEntries", .u16, .ro, .observe, 0, false, .any, false⟩,
  ⟨0x0C, 1, "FdbFlush", .u8, .cmd, .integrate, 0, false, (.oneOf [1]), false⟩,
  ⟨0x0D, 1, "CountersClear", .u8, .cmd, .integrate, 0, false, (.oneOf [1]), false⟩]

/-- Table 13-6, group 0x6101. -/
def egressReserveRows : List Row := [⟨0x01, 12, "EgressReserve", .u32, .rw, .integrate, 1024, false, (.range 0 131072 1), true⟩]

/-- Table 13-6, group 0x6102. -/
def egressInUseRows : List Row := [⟨0x01, 12, "EgressInUse", .u32, .ro, .observe, 0, false, .any, false⟩]

/-- Table 13-6, group 0x6200 + tc. -/
def trafficClassRows : List Row := [
  ⟨0x01, 1, "ClassReserve", .u32, .rw, .integrate, 1024, false, .any, true⟩,
  ⟨0x02, 1, "ClassSharedLimit", .u32, .rw, .integrate, 32768, false, (.range 0 131072 1), true⟩,
  ⟨0x03, 1, "Tenor", .u32, .rw, .integrate, 0, false, (.range 10 60000000 1), true⟩,
  ⟨0x04, 1, "ClassInUse", .u32, .ro, .observe, 0, false, .any, false⟩,
  ⟨0x05, 1, "CoinsHeld", .u32, .ro, .observe, 0, false, .any, false⟩,
  ⟨0x06, 1, "ItemsQueued", .u32, .ro, .observe, 0, false, .any, false⟩,
  ⟨0x07, 1, "TenorWithdrawn", .u32, .ro, .observe, 0, false, .any, false⟩,
  ⟨0x08, 1, "NoCoinDrops", .u32, .ro, .observe, 0, false, .any, false⟩,
  ⟨0x09, 1, "MaxResidence", .u32, .ro, .observe, 0, false, .any, false⟩]

/-- Table 13-7, group 0x6300 + p. -/
def gateRows : List Row := [
  ⟨0x01, 1, "GateEnable", .bool, .rw, .integrate, 0, false, .any, true⟩,
  ⟨0x02, 1, "AdminBaseTime", .t64, .rw, .integrate, 0, false, .any, true⟩,
  ⟨0x03, 1, "AdminCycleTime", .u32, .rw, .integrate, 1000000, false, (.range 10000 100000000 1), true⟩,
  ⟨0x04, 1, "AdminListLength", .u8, .rw, .integrate, 1, false, (.range 1 64 1), true⟩,
  ⟨0x05, 1, "ConfigChange", .u8, .cmd, .integrate, 0, false, (.oneOf [1]), false⟩,
  ⟨0x06, 1, "OperBaseTime", .t64, .ro, .observe, 0, false, .any, false⟩,
  ⟨0x07, 1, "OperCycleTime", .u32, .ro, .observe, 1000000, false, .any, false⟩,
  ⟨0x08, 1, "OperListLength", .u8, .ro, .observe, 1, false, .any, false⟩,
  ⟨0x09, 1, "ConfigChangeTime", .t64, .ro, .observe, 0, false, .any, false⟩,
  ⟨0x0A, 1, "BullionClosedMax", .u32, .ro, .observe, 0, false, .any, false⟩,
  ⟨0x0B, 1, "GateDeferrals", .u32, .ro, .observe, 0, false, .any, false⟩,
  ⟨0x10, 64, "AdminGateEntry", .b32, .rw, .integrate, 0x01E848FF, false, .any, true⟩,
  ⟨0x50, 64, "OperGateEntry", .b32, .ro, .observe, 0x01E848FF, false, .any, false⟩]

/-- Table 13-8, group 0x6140 + s. -/
def streamRows : List Row := [
  ⟨0x01, 1, "StreamMatch", (.oct 8), .rw, .integrate, 0, false, (.fields [⟨0, 48, 0, 281474976710655⟩, ⟨48, 12, 0, 4095⟩]), true⟩,
  ⟨0x02, 1, "StreamControl", .b32, .rw, .integrate, 0x00000000, false, (.fields [⟨0, 1, 0, 1⟩, ⟨1, 1, 0, 1⟩, ⟨2, 3, 0, 7⟩, ⟨6, 8, 0, 255⟩, ⟨14, 1, 0, 0⟩, ⟨15, 3, 0, 7⟩, ⟨18, 1, 0, 1⟩, ⟨19, 1, 0, 1⟩]), true⟩,
  ⟨0x03, 1, "MeterRate", .u32, .rw, .integrate, 0, false, (.rangeOr 0 64 10000000 1), true⟩,
  ⟨0x04, 1, "MeterBurst", .u32, .rw, .integrate, 1522, false, (.range 1522 1048576 1), true⟩,
  ⟨0x05, 1, "MaxSdu", .u16, .rw, .integrate, 1522, false, (.range 64 1522 1), true⟩,
  ⟨0x06, 1, "RecoveryHistory", .u8, .rw, .integrate, 8, false, (.range 1 32 1), true⟩,
  ⟨0x07, 1, "RecoveryReset", .u16, .rw, .integrate, 100, false, (.range 1 10000 1), true⟩,
  ⟨0x08, 1, "MatchedFrames", .u32, .ro, .observe, 0, false, .any, false⟩,
  ⟨0x09, 1, "MeterDrops", .u32, .ro, .observe, 0, false, .any, false⟩,
  ⟨0x0A, 1, "SduDrops", .u32, .ro, .observe, 0, false, .any, false⟩,
  ⟨0x0B, 1, "DuplicatesDiscarded", .u32, .ro, .observe, 0, false, .any, false⟩,
  ⟨0x0C, 1, "RogueFrames", .u32, .ro, .observe, 0, false, .any, false⟩,
  ⟨0x0D, 1, "RecoveryResets", .u32, .ro, .observe, 0, false, .any, false⟩]

/-- Table 13-9, group 0x6180 + v. -/
def vlanRows : List Row := [
  ⟨0x01, 1, "VlanId", .u16, .rw, .integrate, 0, false, (.range 0 4094 1), true⟩,
  ⟨0x02, 1, "MemberPorts", .b16, .rw, .integrate, 0, false, (.fields [⟨0, 8, 0, 255⟩, ⟨8, 1, 0, 0⟩, ⟨9, 3, 0, 7⟩]), true⟩,
  ⟨0x03, 1, "UntaggedPorts", .b16, .rw, .integrate, 0, false, (.fields [⟨0, 8, 0, 255⟩, ⟨8, 1, 0, 0⟩, ⟨9, 3, 0, 7⟩]), true⟩]

end Sys2Proof.Machine
end

