-- ==== Sys2Proof/Machine/RowsSys.lean ====
section
/-! DEFINITION. The entry tables of sleep and wake, the access engine, the update and the supplies (Tables 15-7 to 15-9, 16-5
to 16-7, 18-11, 19-11). -/

namespace Sys2Proof.Machine

/-- Table 15-7, group 0x6800. -/
def sleepRows : List Row := [
  ⟨0x01, 1, "TallyState", .e8, .ro, .observe, 0, false, .any, false⟩,
  ⟨0x02, 1, "ParentRingId", .u16, .rw, .integrate, 0x0000, false, .any, true⟩,
  ⟨0x03, 1, "OwnRingId", .u16, .rw, .integrate, 0x0000, false, .any, true⟩,
  ⟨0x04, 1, "SealTime", .u16, .rw, .integrate, 100, false, (.range 10 1000 1), true⟩,
  ⟨0x05, 1, "RoundTimeout", .u16, .rw, .integrate, 500, false, (.range 50 5000 1), true⟩,
  ⟨0x06, 1, "RoundRetry", .u16, .rw, .integrate, 1000, false, (.range 100 60000 1), true⟩,
  ⟨0x07, 1, "TallyVlan", .u16, .rw, .integrate, 1, false, (.range 1 4094 1), true⟩,
  ⟨0x08, 1, "TallyClass", .e8, .rw, .integrate, 6, false, (.range 0 7 1), true⟩,
  ⟨0x09, 1, "TallyKey", (.oct 16), .wo, .service, 0, false, .any, false⟩,
  ⟨0x0A, 1, "TallyKeyCheck", (.oct 3), .ro, .observe, 0x000000, false, .any, false⟩,
  ⟨0x0B, 1, "KeepAwake", .b8, .rw, .operate, 0x00, false, .any, false⟩,
  ⟨0x0C, 1, "RoundStart", .u16, .cmd, .operate, 0, false, (.fields [⟨0, 8, 0, 255⟩, ⟨8, 2, 0, 2⟩]), false⟩,
  ⟨0x0D, 1, "LastRound", .b32, .ro, .observe, 0, false, .any, false⟩,
  ⟨0x0E, 1, "LastReason", .b32, .ro, .observe, 0, false, .any, false⟩,
  ⟨0x0F, 1, "SleepingNetworks", .b8, .ro, .observe, 0x00, false, .any, false⟩,
  ⟨0x10, 1, "LocalWakeNetworks", .b8, .rw, .integrate, 0xFF, false, .any, true⟩,
  ⟨0x11, 1, "RoundsSealed", .u32, .ro, .observe, 0, false, .any, false⟩,
  ⟨0x12, 1, "RoundsRefused", .u32, .ro, .observe, 0, false, .any, false⟩,
  ⟨0x13, 1, "RoundsAborted", .u32, .ro, .observe, 0, false, .any, false⟩,
  ⟨0x14, 1, "TallyAuthFailures", .u32, .ro, .observe, 0, false, .any, false⟩,
  ⟨0x15, 1, "SleepDiscards", .u32, .ro, .observe, 0, false, .any, false⟩,
  ⟨0x16, 1, "CountersClear", .u8, .cmd, .integrate, 0, false, (.oneOf [1]), false⟩]

/-- Table 15-7, group 0x6801. -/
def ringMemberRows : List Row := [
  ⟨0x01, 16, "RingMember", .u16, .rw, .integrate, 0x0000, false, (.range 0 16383 1), true⟩]

/-- Table 15-7, group 0x6802. -/
def segmentNetworkRows : List Row := [
  ⟨0x01, 30, "SegmentNetwork", .u8, .rwc, .integrate, 0xFF, false, (.rangeOr 0xFF 0 7 1), false⟩]

/-- Table 15-8, group 0x6803. -/
def canWakeRows : List Row := [
  ⟨0x01, 16, "CanWakeMode", .e8, .rwc, .integrate, 0, false, (.range 0 2 1), false⟩,
  ⟨0x11, 4, "WufId", .b32, .rwc, .integrate, 0x00000000, false, (.fields [⟨0, 30, 0, 1073741823⟩]), false⟩,
  ⟨0x15, 4, "WufMask", .b32, .rwc, .integrate, 0x00000000, false, (.fields [⟨0, 30, 0, 1073741823⟩]), false⟩,
  ⟨0x19, 4, "WufDlc", .u8, .rwc, .integrate, 0, false, (.range 0 8 1), false⟩,
  ⟨0x1D, 4, "WufData", (.oct 8), .rwc, .integrate, 0, false, .any, false⟩,
  ⟨0x21, 4, "FrameErrorCount", .u8, .ro, .observe, 0, false, .any, false⟩]

/-- Table 15-8, group 0x6804. -/
def wakeSourceRows : List Row := [
  ⟨0x01, 8, "LinWake", .bool, .rwc, .integrate, 0, false, .any, false⟩,
  ⟨0x09, 6, "T1sWake", .bool, .rwc, .integrate, 0, false, .any, false⟩,
  ⟨0x0F, 1, "T1sActivityFilter", .u16, .rw, .integrate, 2000, false, (.range 500 20000 100), true⟩,
  ⟨0x10, 1, "Tc10Wake", .b8, .rw, .integrate, 0x03, false, (.fields [⟨0, 2, 0, 3⟩]), true⟩,
  ⟨0x11, 8, "CapWake", .b16, .rw, .integrate, 0x0000, false, (.fields [⟨0, 1, 0, 1⟩, ⟨1, 7, 0, 127⟩, ⟨8, 2, 0, 3⟩, ⟨10, 2, 0, 3⟩]), true⟩,
  ⟨0x19, 1, "WakeAlarm", .t64, .rw, .operate, 0, false, .any, false⟩,
  ⟨0x1A, 1, "WakeOut", .b16, .rw, .integrate, 0x0029, false, (.fields [⟨0, 1, 0, 1⟩, ⟨1, 10, 1, 1000⟩]), true⟩]

/-- Table 15-9, group 0x6805. -/
def wakeRecordRows : List Row := [
  ⟨0x01, 1, "LastWakeSource", .u16, .ro, .observe, 0, false, .any, false⟩,
  ⟨0x02, 1, "LastWakeTime", .t64, .ro, .observe, 0, false, .any, false⟩,
  ⟨0x03, 1, "LastWakeNetworks", .b8, .ro, .observe, 0x00, false, .any, false⟩,
  ⟨0x04, 1, "WakeCount", .u32, .ro, .observe, 0, false, .any, false⟩,
  ⟨0x05, 1, "SleepCount", .u32, .ro, .observe, 0, false, .any, false⟩]

/-- Tables 02-5 and 16-5, group 0x7000. -/
def accessRows : List Row := [
  ⟨0x01, 1, "FunctionState", .e8, .rw, .integrate, 0, false, (.range 0 4 1), false⟩,
  ⟨0x02, 1, "LastRefusal", .u32, .ro, .observe, 0, false, .any, false⟩,
  ⟨0x03, 1, "AccessStatus", .b32, .ro, .observe, 0x00000000, false, .any, false⟩,
  ⟨0x04, 1, "AccessRequest", .u16, .cmd, .operate, 0, false, (.fields [⟨0, 3, 0, 7⟩]), false⟩,
  ⟨0x05, 1, "LastResult", (.oct 32), .ro, .observe, 0, false, .any, false⟩,
  ⟨0x06, 1, "VehicleId", .u16, .rwc, .integrate, 0x0000, false, .any, false⟩,
  ⟨0x07, 1, "AnchorSegment", .u8, .rwc, .integrate, 0, false, (.range 0 5 1), false⟩,
  ⟨0x08, 1, "UwbChannel", .e8, .rwc, .integrate, 0, false, (.range 0 1 1), false⟩,
  ⟨0x09, 1, "LfCurrent", .u16, .rwc, .integrate, 1000, false, (.range 200 2000 50), false⟩,
  ⟨0x0A, 1, "LockoutTime", .u8, .rwc, .integrate, 5, false, (.range 1 30 1), false⟩,
  ⟨0x0B, 1, "LockedUntil", .t64, .ro, .observe, 0, false, .any, false⟩,
  ⟨0x0C, 1, "RecentFailures", .u8, .ro, .observe, 0, false, .any, false⟩,
  ⟨0x0D, 1, "EnrolAuthority", (.oct 64), .rw, .service, 0, false, .any, false⟩,
  ⟨0x0E, 1, "EnrolTransportKey", (.oct 16), .wo, .service, 0, false, .any, false⟩,
  ⟨0x0F, 1, "ImmobiliserKey", (.oct 16), .wo, .service, 0, false, .any, false⟩,
  ⟨0x10, 1, "ImmoKeyCheck", (.oct 3), .ro, .observe, 0x000000, false, .any, false⟩,
  ⟨0x11, 1, "EnrolRecord", (.oct 112), .wo, .service, 0, false, .any, false⟩,
  ⟨0x12, 1, "EnrolResult", .e8, .ro, .observe, 0, false, .any, false⟩,
  ⟨0x13, 1, "EnrolCount", .u8, .ro, .observe, 0, false, .any, false⟩,
  ⟨0x14, 1, "ActiveTokens", .u8, .ro, .observe, 0, false, .any, false⟩,
  ⟨0x15, 1, "Requests", .u32, .ro, .observe, 0, false, .any, false⟩,
  ⟨0x16, 1, "Polls", .u32, .ro, .observe, 0, false, .any, false⟩,
  ⟨0x17, 1, "CollidedSlots", .u32, .ro, .observe, 0, false, .any, false⟩,
  ⟨0x18, 1, "AuthFailures", .u32, .ro, .observe, 0, false, .any, false⟩,
  ⟨0x19, 1, "Lockouts", .u32, .ro, .observe, 0, false, .any, false⟩,
  ⟨0x1A, 1, "Grants", .u32, .ro, .observe, 0, false, .any, false⟩,
  ⟨0x1B, 1, "CountersClear", .u8, .cmd, .integrate, 0, false, (.oneOf [1]), false⟩]

/-- Table 16-6, group 0x7010 + t. -/
def keySlotEntryRows : List Row := [
  ⟨0x01, 1, "TokenId", (.oct 8), .ro, .observe, 0, false, .any, false⟩,
  ⟨0x02, 1, "TokenState", .e8, .ro, .observe, 0, false, .any, false⟩,
  ⟨0x03, 1, "TokenRights", .b16, .rw, .service, 0x0000, false, (.fields [⟨0, 3, 0, 7⟩]), false⟩,
  ⟨0x04, 1, "TokenKeyCheck", (.oct 3), .ro, .observe, 0x000000, false, .any, false⟩,
  ⟨0x05, 1, "LastServed", .t64, .ro, .observe, 0, false, .any, false⟩,
  ⟨0x06, 1, "TokenRevoke", .u8, .cmd, .service, 0, false, (.oneOf [1]), false⟩,
  ⟨0x07, 1, "ServedCount", .u32, .ro, .observe, 0, false, .any, false⟩]

/-- Table 16-7, group 0x7020 + z. -/
def zoneRows : List Row := [
  ⟨0x01, 1, "ZoneConfig", .b32, .rwc, .integrate, 0x00000000, false, (.fields [⟨0, 1, 0, 1⟩, ⟨1, 1, 0, 1⟩, ⟨2, 3, 0, 7⟩, ⟨5, 1, 0, 1⟩, ⟨6, 2, 0, 3⟩, ⟨8, 3, 0, 7⟩]), false⟩,
  ⟨0x02, 1, "Radius", .u16, .rwc, .integrate, 0, false, (.rangeOr 0 100 5000 10), false⟩]

/-- Table 16-7, group 0x7030. -/
def memoryRows : List Row := [
  ⟨0x01, 1, "MemoryRequest", .b32, .cmd, .operate, 0, false, (.fields [⟨0, 4, 0, 15⟩, ⟨4, 4, 0, 15⟩, ⟨8, 1, 0, 1⟩]), false⟩,
  ⟨0x02, 1, "MemoryData", (.oct 16), .rw, .operate, 0, false, .any, false⟩]

/-- Table 16-7, group 0x7040 + a. -/
def anchorRows : List Row := [
  ⟨0x01, 1, "AnchorAddress", .u8, .rwc, .integrate, 0, false, (.range 0 254 1), false⟩,
  ⟨0x02, 1, "AntennaDelay", .i16, .rwc, .integrate, 0, false, .any, false⟩,
  ⟨0x03, 1, "AnchorStatus", .b16, .ro, .observe, 0x0000, false, .any, false⟩]

/-- Table 18-11, group 0x7C00. -/
def updateRows : List Row := [
  ⟨0x01, 1, "UpdateState", .e8, .ro, .observe, 0, false, .any, false⟩,
  ⟨0x02, 1, "UpdateCommand", .u8, .cmd, .service, 0, false, (.oneOf [1, 2, 5]), false⟩,
  ⟨0x03, 1, "StageOffset", .u32, .rw, .service, 0, false, (.range 0 7340032 240), false⟩,
  ⟨0x04, 1, "StageData", (.oct 240), .wo, .service, 0, false, .any, false⟩,
  ⟨0x05, 1, "StagedLength", .u32, .ro, .observe, 0, false, .any, false⟩,
  ⟨0x06, 1, "ActivationTime", .t64, .rw, .integrate, 0, false, .any, false⟩,
  ⟨0x07, 1, "ActivationCommand", .u8, .cmd, .integrate, 0, false, (.oneOf [1, 2]), false⟩,
  ⟨0x08, 1, "ActivationOptions", .b16, .rw, .integrate, 0x0001, false, (.fields [⟨0, 1, 0, 1⟩]), false⟩,
  ⟨0x09, 1, "UpdateResult", .b32, .ro, .observe, 0x0000FF00, false, .any, false⟩,
  ⟨0x0A, 1, "FailedPart", .u16, .ro, .observe, 0x0000, false, .any, false⟩,
  ⟨0x0B, 1, "BuildProgress", .u32, .ro, .observe, 0, false, .any, false⟩,
  ⟨0x0C, 1, "StagedVersion", .u32, .ro, .observe, 0, false, .any, false⟩,
  ⟨0x0D, 1, "UpdateAuthority", (.oct 64), .rw, .service, 0, false, .any, true⟩,
  ⟨0x0E, 1, "MinimumVersion", .u32, .rw, .service, 0, false, .any, true⟩,
  ⟨0x0F, 1, "ManifestDigest", (.oct 16), .ro, .observe, 0, false, .any, true⟩,
  ⟨0x10, 1, "LastActivationTime", .t64, .ro, .observe, 0, false, .any, true⟩,
  ⟨0x11, 1, "ActivationCount", .u32, .ro, .observe, 0, false, .any, true⟩,
  ⟨0x12, 1, "FallbackCount", .u32, .ro, .observe, 0, false, .any, true⟩]

/-- Table 19-11, group 0x1301. -/
def supplyRows : List Row := [
  ⟨0x01, 1, "SupplyStatus", .b32, .ro, .observe, 0x00000000, false, .any, false⟩,
  ⟨0x02, 1, "VlogaVoltage", .u16, .ro, .observe, 0, false, .any, false⟩,
  ⟨0x03, 1, "VlogbVoltage", .u16, .ro, .observe, 0, false, .any, false⟩,
  ⟨0x04, 1, "KaVoltage", .u16, .ro, .observe, 0, false, .any, false⟩,
  ⟨0x05, 1, "LogicCurrent", .u16, .ro, .observe, 0, false, .any, false⟩,
  ⟨0x06, 1, "BasePlateSensor0", .i16, .ro, .observe, 0, false, .any, false⟩,
  ⟨0x07, 1, "BasePlateSensor1", .i16, .ro, .observe, 0, false, .any, false⟩]

/-- Table 19-11, group 0x1302. -/
def clockRows : List Row := [
  ⟨0x01, 1, "ClockStatus", .b32, .ro, .observe, 0x00000000, false, .any, false⟩,
  ⟨0x02, 1, "ReferenceDeviation", .i32, .ro, .observe, 0, false, .any, false⟩,
  ⟨0x03, 1, "RtcDeviation", .i32, .ro, .observe, 0, false, .any, false⟩]

/-- Table 19-11, group 0x1303. -/
def debugRows : List Row := [
  ⟨0x01, 1, "DebugEnable", .b16, .rw, .service, 0x0000, false, (.fields [⟨0, 2, 0, 3⟩]), false⟩]

end Sys2Proof.Machine
end

