-- ==== Sys2Proof/Machine/Map.lean ====
section
/-! DEFINITION. Sparse maps as plain data: a list of (key, value) pairs in one canonical form, keys strictly rising and
no entry equal to what an unlisted key reads as. Memories, the Ledger's values and every table of per-instance
records have this form, so equal contents are equal data. -/

namespace Sys2Proof.Machine

/-- A sparse map from natural keys. -/
abbrev NatMap (α : Type) := List (Nat × α)

/-- The value at key `k`; an unlisted key reads as `d`. -/
def Map.get {α : Type} (d : α) : NatMap α → Nat → α
  | [], _ => d
  | (k', v) :: r, k => if k' = k then v else Map.get d r k

/-- The map without key `k`. -/
def Map.erase {α : Type} (m : NatMap α) (k : Nat) : NatMap α := m.filter fun p => p.1 ≠ k

/-- Insertion in key order; used on a map that does not list `k`. -/
def Map.insert {α : Type} (k : Nat) (v : α) : NatMap α → NatMap α
  | [] => [(k, v)]
  | (k', v') :: r => if k < k' then (k, v) :: (k', v') :: r else (k', v') :: Map.insert k v r

/-- The map with `v` at key `k`; a value that an unlisted key reads as is not listed. -/
def Map.put {α : Type} [DecidableEq α] (d : α) (m : NatMap α) (k : Nat) (v : α) : NatMap α :=
  if v = d then Map.erase m k else Map.insert k v (Map.erase m k)

/-- The map with the value at `k` changed by `f`. -/
def Map.modify {α : Type} [DecidableEq α] (d : α) (m : NatMap α) (k : Nat) (f : α → α) : NatMap α :=
  Map.put d m k (f (Map.get d m k))

/-- Keys strictly rising. -/
def Map.sorted {α : Type} (m : NatMap α) : Bool := decide (m.Pairwise fun p q => p.1 < q.1)

/-- The canonical form: keys strictly rising, and no entry equal to what an unlisted key reads as. -/
def Map.wf {α : Type} [DecidableEq α] (d : α) (m : NatMap α) : Bool :=
  Map.sorted m && m.all fun p => decide (p.2 ≠ d)

end Sys2Proof.Machine
end

