-- ==== Sys2Proof/Machine/State.lean ====
section
/-! DEFINITION. The state of the module as plain data, and the state right after reset.
Every entry of the manual's entry tables lives in `State.ledger`, a sparse map from index × 256 + sub-index to the raw
value, an unlisted entry reading as its default; what the manual describes beside its entries (timers, queues, held
commands, links and contexts) lives in the records below, one sparse map per kind of instance. -/

namespace Sys2Proof.Machine

/-- Why a step can stop with a fault. No rule of the manual stops the block: nothing raises this one.
DESIGN CHOICE: notes/assumptions/16.md. -/
inductive Fault
  /-- raised by no command; safe -/
  | none
  deriving DecidableEq, Repr

/-- Why a command can be refused by the model. -/
inductive Refusal
  /-- a row of the table that has no meaning yet; raised by an arm of `exec` only; safe -/
  | notModelled (mnemonic : String)
  deriving DecidableEq, Repr

/-! ### The Ledger, sessions and postings (chapters 02 and 03) -/

/-- To whom the answer of a posting, a read or a mailbox request goes. -/
inductive Reply
  /-- a session's request with this FC (R86) -/
  | session (k fc : Nat)
  /-- a context's mailbox (R331) -/
  | mailbox (c : Nat)
  /-- the bare write of a command of the table: its status stays in `State.answer` -/
  | direct
  deriving DecidableEq, Repr

/-- The status and the place of the first refused item (R59, Table 03-3); 0xFF where no single item is refused. -/
structure Answer where
  status : Status
  position : Nat
  deriving DecidableEq, Repr

/-- How far the store of a job has come. -/
inductive JobPhase
  /-- no request stands; the store is requested at `at` (R213: again every 100 ms) -/
  | waiting (at_ : Nat)
  /-- the store loan is queued -/
  | requested
  /-- the burst runs under its loan -/
  | storing
  /-- the burst is done, or the loan was declined, while Ledger service is absent: the posting goes on with it (R26) -/
  | stored
  | declined
  deriving DecidableEq, Repr

/-- What a parameter-store job stores: a function's persistent entries with the posting that waits for it (R43, R51),
or single persistent entries (R213, R53). -/
inductive JobKind
  | functions (reply : Reply) (writer : Writer) (writes : List Write) (fns : List Fn)
  | entries (locs : List Nat)
  deriving DecidableEq, Repr

/-- A job of the parameter store, requester 0x1000. -/
structure Job where
  kind : JobKind
  phase : JobPhase
  deriving DecidableEq, Repr

/-- A request accepted by a session and waiting for its evaluation (R86, R87). -/
structure Request where
  fc : Nat
  type : Nat
  dest : Nat
  payload : List Byte
  tc : Nat
  deriving DecidableEq, Repr

/-- A subscription of a session (R96). -/
structure Subscription where
  number : Nat
  loc : Nat
  mode : Nat
  tc : Nat
  /-- interval in ms -/
  interval : Nat
  deadband : Nat
  /-- the last notified value -/
  last : Nat
  /-- the tick at which the interval next ends -/
  due : Nat
  /-- a change waits for the minimum interval (mode 2) -/
  owed : Bool := false
  deriving DecidableEq, Repr

/-- What a session is doing (R82). -/
inductive Phase
  | free
  /-- CHALLENGE sent; PROVE must arrive before the tick `by_` -/
  | challenged (by_ : Nat)
  | active
  deriving DecidableEq, Repr

/-- A session's security context (R81 to R100). -/
structure Session where
  phase : Phase := .free
  /-- where it was opened: Table 03-9's code and the address on that transport -/
  transport : Nat := 0
  addr : Nat := 0
  /-- the switch port through which it was opened -/
  port : Nat := 8
  source : Nat := 0
  role : Nat := 0
  version : Nat := 0
  slot : Nat := 0xFF
  nh : Nat := 0
  nm : Nat := 0
  ks : Nat := 0
  /-- FCs seen, of H − 15 to H -/
  seen : List Nat := []
  /-- completed FCs with the frame of their response and whether they were refused -/
  done : List (Nat × List Byte × Bool) := []
  highDone : Nat := 0
  queue : List Request := []
  /-- the FC of a request whose posting waits for its store loan or whose relay waits for its device -/
  evaluating : Option Nat := none
  /-- its traffic class, in which the response leaves (R76) -/
  evalTc : Nat := 0
  /-- its message type -/
  evalType : Nat := 0
  /-- the proxied device a relayed request waits for, keyed as `State.relayTags`, and the tick of ProxyTimeout (R74) -/
  relay : Option (Nat × Nat) := none
  idleBy : Nat := 0
  subs : List Subscription := []
  notifySeq : Nat := 0
  /-- a CLOSE or an address or key change closes the session once its response is sent -/
  closing : Bool := false
  deriving DecidableEq, Repr

/-- A source that opens sessions and fails (R84). -/
structure Opener where
  source : Nat
  /-- Table 03-9's code of the path and the address on it -/
  transport : Nat
  addr : Nat
  /-- ticks of the exchanges that ended in AUTH within the last 10 s, newest first -/
  failures : List Nat
  /-- locked out until this tick -/
  lockedBy : Nat
  deriving DecidableEq, Repr

/-- A sub-entry that a context publishes (R64). -/
structure Published where
  loc : Nat
  owner : Nat
  row : Row
  lo : Nat
  hi : Nat
  deriving DecidableEq, Repr

/-- What the module sends outward, recorded newest first in `State.out`; no rule reads it.
DESIGN CHOICE: notes/assumptions/18.md. -/
inductive Sent
  /-- a BLL frame: transport code, address, octets, traffic class, and the code point of its VLAN tag (R359) -/
  | bll (transport addr : Nat) (frame : List Byte) (tc : Nat) (tag : Option Nat)
  /-- a frame leaving a switch port -/
  | port (p len tc : Nat) (tag : Option Nat)
  /-- a CAN frame: controller, identifier word, octets -/
  | can (k ident : Nat) (data : List Byte)
  /-- a LIN header or response: channel, identifier, octets -/
  | lin (k pid : Nat) (data : List Byte)
  /-- a relay record to a proxied device: bus kind, bus, device, relay number, octets -/
  | relay (kind bus dev number : Nat) (data : List Byte)
  /-- a tally message: network mask, message octets -/
  | tally (mask : Nat) (data : List Byte)
  /-- a frame to an access anchor -/
  | anchor (a : Nat) (data : List Byte)
  /-- an LF burst on a driver -/
  | lf (driver : Nat) (data : List Byte)
  /-- a LIN wake-up signal -/
  | linWake (k : Nat)
  /-- a TC10 request on an uplink: sleep or wake-up -/
  | tc10 (p : Nat) (wake : Bool)
  deriving DecidableEq, Repr

/-! ### Channel cells, protection, diagnostics and banks (chapters 04, 05, 06 and 17) -/

/-- Why escrow holds a cell (Table 17-8). -/
inductive Hold
  | none
  /-- heartbeat lost -/
  | heartbeat
  /-- planned, before an activation boot -/
  | planned
  | bankReset
  /-- an Isolated function, by its function ID (R48) -/
  | fnIsolated (f : Nat)
  | fnReset
  /-- cell isolation by the Audit (R467) -/
  | isolation
  deriving DecidableEq, Repr

/-- A hold of single cells, with an expiry of its own (Table 17-8). -/
def Hold.ofCells : Hold → Bool
  | .fnIsolated _ | .fnReset | .isolation => true
  | _ => false

/-- A WIRED_OR condition of a cell (Table 05-7): the partner, the ticks for which it has held in the samples that count,
whether it is the one by current, and whether it is confirmed. -/
structure Wired where
  partner : Nat
  ticks : Nat := 0
  byCurrent : Bool
  told : Bool := false
  deriving DecidableEq, Repr

/-- What the bank keeps for one cell beside its entries. -/
structure Cell where
  /-- the last command the bank accepted for the cell; every cell starts FLOAT in an Unconfigured bank (R125) -/
  cmd : Nat := 5
  /-- the drive the commands ask for: 0 off, 1 high side, 2 low side, 3 PWM, 5 float -/
  want : Nat := 5
  wantDuty : Nat := 0
  /-- what the output does: 0 off, 1 high side, 2 low side, 3 PWM, 5 float -/
  drive : Nat := 5
  duty : Nat := 0
  /-- HOLD_LAST freezes the drive (R107) -/
  frozen : Bool := false
  /-- PWM: in the on-phase, and the module time at which it ends -/
  onPhase : Bool := false
  onEnd : Nat := 0
  /-- PWM: the on-phase carried over from ON_LS keeps the low side (R182) -/
  lowSide : Bool := false
  /-- PWM: the first change of the switch under this command is still to come (R116, R182) -/
  fresh : Bool := false
  /-- the switch that opened last, 1 high side, 2 low side, 0 none, and the module time of it (R104) -/
  opened : Nat := 0
  openedAt : Nat := 0
  loanPending : Bool := false
  loanDeclined : Bool := false
  thermalOff : Bool := false
  /-- high-side and low-side switch conducting at the last sample -/
  hsOn : Bool := false
  lsOn : Bool := false
  inputLevel : Bool := false
  proven : Bool := false
  curSat : Bool := false
  voltSat : Bool := false
  /-- protection state of Table 05-3 and the state SupplyOff pre-empted -/
  prot : Nat := 0
  preempted : Nat := 0
  /-- the last trip was from Limiting (OVERCURRENT) rather than THERMAL -/
  tripLimiting : Bool := false
  /-- tick of the turn-off from which RetrySpacing runs -/
  tripAt : Nat := 0
  /-- the junction has not fallen to 160 °C since it reached 175 °C -/
  hot : Bool := false
  /-- ticks accumulated in Limiting (R142); ticks of conduction since the last Limiting, and since the turn-on without a
  trip (R142, R146), off-phases excepted; the tick up to which the three are counted -/
  limAcc : Nat := 0
  clearAcc : Nat := 0
  runAcc : Nat := 0
  limFrom : Nat := 0
  /-- the tick at which the output last began to conduct -/
  conductSince : Nat := 0
  /-- the tick of the last owner turn-off of the conducting output, with its accumulated Limiting where it limited (R147) -/
  cut : Option (Nat × Option Nat) := none
  /-- the previous qualifying sample of Limiting was below the limit (R560) -/
  belowOnce : Bool := false
  /-- tick of the last switch change, and of the commit of the command awaiting application -/
  changedAt : Nat := 0
  /-- the tick at which the cell's last conducting switch opened (R235) -/
  turnedOff : Option Nat := none
  committedAt : Nat := 0
  /-- inrush window: grant and end ticks, 0 and 0 when none is open (R183) -/
  winFrom : Nat := 0
  winTo : Nat := 0
  /-- the soft start drives an ON command as PWM (R185) -/
  soft : Bool := false
  peak : Int := 0
  /-- the present turn-on uses a retry -/
  retrying : Bool := false
  /-- the configuration was written since the bank was last Active (R50) -/
  dirty : Bool := false
  /-- the owner remembered while escrow or limp holds the cell (R56) -/
  remembered : Nat := 0
  hold : Hold := .none
  heldAt : Nat := 0
  /-- the EscrowTime that counts for this hold, ms (R479) -/
  holdFor : Nat := 0
  /-- limp: the entry's command, and the tick of the next loan request after a decline (R485) -/
  limpCmd : Nat := 0
  limpRetry : Option Nat := none
  /-- freewheel proof: the tick at which OFF was entered, the tick of the last proof, the start of the running one -/
  offAt : Option Nat := none
  proofAt : Option Nat := none
  proofFrom : Nat := 0
  proofAsked : Bool := false
  /-- drops in 10 mV of the last 200 µs of the running proof's two steps, newest first (R152) -/
  drops25 : List Int := []
  drops50 : List Int := []
  /-- off-state diagnostics: start of the last cycle, consecutive open cycles, a pull phase runs -/
  cycleAt : Option Nat := none
  openCycles : Nat := 0
  pulling : Bool := false
  /-- ticks for which the conditions of STUCK_HIGH and OPEN_ON have held in every qualifying sample, none where the last
  one did not hold -/
  stuckAcc : Option Nat := none
  openOnAcc : Option Nat := none
  /-- WIRED_OR conditions that hold for the cell, partners rising -/
  wired : List Wired := []
  /-- the samples of current and pin voltage of the running average, newest first, at most 1,024 -/
  curs : List Int := []
  pins : List Int := []
  /-- how many of them count toward the averages (R121) -/
  avgCount : Nat := 0
  deriving DecidableEq, Repr

/-- A command on its way to a bank (R129). -/
structure BankCmd where
  chan : Nat
  cmd : Nat
  duty : Nat
  at_ : Nat
  /-- its check has failed once -/
  resent : Bool := false
  /-- opens an inrush window or uses a retry at its application -/
  granted : Bool := false
  /-- a gang's reserve joins: the channel alone takes the gang's drive (R175) -/
  join : Bool := false
  deriving DecidableEq, Repr

/-- What one bank keeps beside its entries. -/
structure Bank where
  queue : List BankCmd := []
  /-- the last heartbeat's tick, and whether the monitor has reported its loss -/
  beatAt : Nat := 0
  lost : Bool := false
  /-- a bank-wide escrow: its cause and entry tick -/
  escrow : Hold := .none
  escrowAt : Nat := 0
  escrowFor : Nat := 0
  /-- a per-function reset runs -/
  resetting : Bool := false
  supplyOff : Bool := false
  /-- the bank logic has no supply (R165) -/
  unpowered : Bool := false
  /-- BATb has reached 6.5 V since the bank left reset (R163) -/
  reached : Bool := true
  /-- BATb in mV as last seen, and the tick since which it is in its FieldSupply band (R163, R289) -/
  supplyMv : Nat := 13500
  bandAt : Nat := 0
  /-- the tick since which BATb is above 6.5 V (R164, R165) -/
  highAt : Nat := 0
  brownout : Bool := false
  aligned : Bool := true
  clockFault : Bool := false
  overVoltage : Bool := false
  absentTold : Bool := false
  alignLost : Bool := false
  /-- SupplyCurrent in 0.01 mA of the samples of the last 100 ms, newest first (R123) -/
  supplyMa : List Nat := []
  tabOver : Bool := false
  mismatchAt : Option Nat := none
  /-- phases assigned to cells with PhaseSpread when the bank entered Active (R181): (position, µs) -/
  phases : List (Nat × Nat) := []
  deriving DecidableEq, Repr

/-- What a gang keeps beside its entries (chapter 06). -/
structure Gang where
  /-- isolated members, bank positions, first isolated first -/
  isolated : List Nat := []
  reserveIn : Bool := false
  pending : Bool := false
  /-- the imbalance candidate and the ticks it has been held -/
  candidate : Option Nat := none
  heldFor : Nat := 0
  lastEval : Nat := 0
  /-- the member whose replacement is in progress, and the tick of its confirmation -/
  failing : Option (Nat × Nat) := none
  /-- bank timestamp and latency of the last isolation, recorded when the reserve is in use (R175) -/
  offStamp : Nat := 0
  latency : Nat := 0
  /-- a declined takeover loan is requested again at this tick (R176) -/
  retryAt : Option Nat := none
  deriving DecidableEq, Repr

/-- One Audit source beside its entries (R463 to R473). -/
structure Source where
  sticky : Bool := false
  severe : Bool := false
  unack : Bool := false
  escalated : Bool := false
  applied : Nat := 0
  /-- the tick at which the grace window ends and the reaction applies -/
  graceEnd : Option Nat := none
  windowAt : Option Nat := none
  count : Nat := 0
  /-- the reaction of the applied class has been applied -/
  reacted : Bool := false
  /-- the tick of the last occurrence: at most one counts per tick (R463) -/
  lastAt : Option Nat := none
  /-- the tick of the last entry to Severe, and the class a re-armed Unacknowledged source had before it (R471, R473) -/
  severeAt : Option Nat := none
  prior : Option Nat := none
  deriving DecidableEq, Repr

/-- The supervisor complex (R482). -/
structure Supervisor where
  /-- the running pair, and whether it runs -/
  running : Nat := 0
  runs : Bool := true
  /-- a pair is in hot standby; it stands stopped with a self-test in progress; it failed its self-test -/
  standbyReady : Bool := true
  /-- the standby pair takes over: it has begun and not resumed the heartbeat -/
  takingOver : Bool := false
  /-- pairs in self-test, with the tick of their stop -/
  testing : List (Nat × Nat) := []
  failed : List Nat := []
  absentSince : Option Nat := none
  lastBeat : Nat := 0
  deriving DecidableEq, Repr

/-! ### The switch and the Vault (chapter 13) -/

/-- Where an item's coins come from (R360, R362): class, accounted port, coins, the source (0 the class reserve, 1 the
port reserve, 2 the shared pool), and the tick at which its tenor starts, none while the item is not complete (R366). -/
structure Chain where
  tc : Nat := 0
  port : Nat := 0
  coins : Nat := 0
  src : Nat := 0
  start : Option Nat := none
  deriving DecidableEq, Repr

/-- An Ethernet frame as the switch sees it: ingress port, destination and source address, VLAN tag, length in octets,
EtherType, payload octets, and the R-TAG number it carries. -/
structure EthFrame where
  inPort : Nat
  dst : Nat
  src : Nat := 0
  vid : Nat := 0
  tagged : Bool := false
  pcp : Nat := 0
  len : Nat
  etype : Nat := 0
  data : List Byte := []
  rtag : Option Nat := none
  deriving DecidableEq, Repr

/-- What an item of an egress queue carries. -/
inductive Cargo
  | eth (f : EthFrame)
  /-- a BLL frame of the module: transport code, address on it, session, octets -/
  | bll (transport addr session : Nat) (frame : List Byte)
  /-- a notification (R97): session, sequence number, subscription, status code, ChangeCount, sample time, item octets -/
  | notify (session fc sub status changes time : Nat) (item : List Byte)
  /-- a relayed request for a device on CAN (R417): its octets -/
  | relay (octets : List Byte)
  /-- the event of a change-of-state record with a session as destination (R287) -/
  | cos (record : Nat)
  deriving DecidableEq, Repr

/-- An item of the Vault's egress queues (R360, R361). -/
structure VItem where
  id : Nat
  chain : Chain
  cargo : Cargo
  /-- egress queues in which it waits, and that are sending it: ports, and 12 + c for channel c of ISO 15765-2 -/
  ports : List Nat
  sending : List Nat := []
  /-- a cut-through frame (R375) -/
  cut : Bool := false
  /-- it ends with an inverted check sequence (R365, R375) -/
  stomped : Bool := false
  /-- ports that have counted it in GateDeferrals (R372) -/
  deferred : List Nat := []
  /-- the R-TAG number that the module inserts (R379) -/
  rtagOut : Option Nat := none
  deriving DecidableEq, Repr

/-- A frame arriving at a port: what the switch saw of it, and its item, none where it is dropped. -/
structure Arriving where
  frame : EthFrame
  item : Option Nat
  deriving DecidableEq, Repr

/-- A switch port beside its entries. -/
structure Port where
  link : Bool := false
  arriving : Option Arriving := none
  /-- the item in transmission -/
  sending : Option Nat := none
  /-- the gate entry applied, and that the schedule applies: from the tick after GateEnable came to 1 (R371) -/
  gate : Nat := 0
  gated : Bool := false
  /-- MACsec: the association number in use, a committed key exists, the previous receive key is still accepted -/
  an : Nat := 0
  keyed : Bool := false
  oldKey : Option Nat := none
  txKey : Nat := 0
  rxKey : Nat := 0
  /-- class 7 octets of the frames of the last 50 µs, as (tick, octets) (R376) -/
  bullion : List (Nat × Nat) := []
  /-- a TC10 sleep of an uplink, in which no LINK_DOWN is raised; a T1S segment's sleep (chapter 15) -/
  asleep : Bool := false
  /-- a per-function reset runs -/
  resetting : Bool := false
  deriving DecidableEq, Repr

/-- A learned address (R384). -/
structure FdbEntry where
  mac : Nat
  port : Nat
  seen : Nat
  deriving DecidableEq, Repr

/-- A stream's meter, sequence and recovery (R378, R379). -/
structure Stream where
  /-- tokens in bits × 1,000 beside the full bucket: what the meter lacks, and the tick up to which it has filled -/
  lack : Nat := 0
  filledAt : Nat := 0
  seq : Nat := 0
  /-- recovery: the highest number accepted, and the numbers of the history already passed; the tick of the last pass -/
  high : Option Nat := none
  seen : List Nat := []
  passedAt : Nat := 0
  deriving DecidableEq, Repr

/-! ### The Teller (chapter 07) -/

/-- A loan request and, once granted, a loan (R190, Table 07-1). -/
structure Loan where
  requester : Nat
  kind : Nat
  /-- bank 0 to 15, or 16 for the logic supply -/
  budget : Nat
  /-- mA -/
  amount : Nat
  /-- nW (R196) -/
  allowance : Nat
  /-- µs -/
  duration : Nat
  priority : Nat
  /-- ms -/
  patience : Nat
  /-- the arrival key of R201: tick, 0 for a Ledger commit and 1 otherwise, and the place within -/
  arrival : Nat
  rank : Nat
  seq : Nat
  /-- module time of receipt -/
  receivedAt : Nat
  skipped : Bool := false
  toldExcess : Bool := false
  toldLogic : Bool := false
  toldFull : Bool := false
  /-- after the grant: tick and module time of it, and whether the Allowance still counts -/
  grantTick : Nat := 0
  grantTime : Nat := 0
  counted : Bool := false
  /-- the tick at which the output began to conduct -/
  conductAt : Option Nat := none
  deriving DecidableEq, Repr

/-- The Teller's tables and models. -/
structure Teller where
  loans : NatMap (Option Loan) := []
  /-- in the order of R201 -/
  queue : List Loan := []
  seq : Nat := 0
  /-- P_f of each bank in nW (R196) -/
  pf : NatMap Int := []
  /-- ticks of the sample sets of the last 1 ms, newest first (R194) -/
  sampleAt : List Nat := []
  /-- ticks of the last 100 ms at which a bank's projection exceeded 32 A, as (bank, intervals) (R195) -/
  excess : NatMap (List (Nat × Nat)) := []
  /-- the logic current in mA of the last sets, newest first, 1 ms of them (R198) -/
  logicMa : List Nat := []
  batteryBlocked : Bool := false
  moduleBlocked : Bool := false
  logicBlocked : Bool := false
  moduleOver : Bool := false
  batteryOver : Bool := false
  banksOver : List Nat := []
  derating : Bool := false
  /-- a per-function reset of the Teller runs; requests that arrive meanwhile wait -/
  resetting : Bool := false
  held : List Loan := []
  /-- requests whose loans were declined or displaced and whose clients have not reacted yet -/
  declined : List Loan := []
  deriving DecidableEq, Repr

/-! ### Coil and loop engines (chapters 08 and 09) -/

/-- What a coil engine keeps for one slot beside its entries, keyed engine × 4 + slot. -/
structure CoilSlot where
  /-- phase of Table 08-2, and the phase a Waiting slot came from -/
  phase : Nat := 0
  back : Nat := 0
  /-- the peak loan is requested and not granted -/
  loanPending : Bool := false
  /-- held back by the overlap check, since the trigger tick; the present wait has been deferred -/
  deferred : Bool := false
  trigAt : Nat := 0
  waited : Bool := false
  /-- PendingTrigger (R233, R235) -/
  pendingTrig : Bool := false
  trips : Nat := 0
  latched : Bool := false
  /-- triggers are refused until this tick after a trip (R238) -/
  pauseUntil : Nat := 0
  /-- Limited as last reported (R237) -/
  limited : Bool := false
  regFault : Bool := false
  /-- the tick since which every update has been out of tolerance; that of the last qualifying sample, or of the phase's entry,
  the end of a hold or a set-point below 50 mA since (R229) -/
  outSince : Option Nat := none
  qualAt : Nat := 0
  dither : Bool := false
  /-- the grant tick of the present Boost; its TtpMin is evaluated -/
  boostAt : Nat := 0
  early : Bool := false
  /-- the tick of the crossing sample -/
  crossAt : Nat := 0
  /-- the tick from which EventLength counts -/
  eventAt : Nat := 0
  /-- the tick at which MinOffTime began -/
  minOffAt : Nat := 0
  /-- regulator: integ and the last duty in 1e-9, the last mean in µA -/
  integ : Int := 0
  dPrev : Int := 0
  lastM : Int := 0
  /-- the previous period had an on-phase; the next update preloads integ (R239) -/
  prevOn : Bool := true
  preload : Bool := false
  /-- the tick at which the slot entered Hold, Proportional or On (R228) -/
  enteredAt : Nat := 0
  /-- temperature rise θ in pK (R236) -/
  theta : Int := 0
  /-- energised intervals in ticks, newest first, and the start of the running one (R237) -/
  energised : List (Nat × Nat) := []
  energisedAt : Option Nat := none
  /-- samples of the last period, newest first: tick, current in counts, whether it qualifies (R227) -/
  samples : List (Nat × Int × Bool) := []
  /-- escrow holds the target cells, or a per-function reset runs (R239, R240) -/
  held : Bool := false
  deriving DecidableEq, Repr

/-- The trigger that decides for a slot in the present tick, and what it found: the slot, the acceptance of its target's cells, the
entries it may write, and the coil cell's loan and request (R223). -/
structure CoilTrig where
  /-- 0 Ledger, 1 schedule, 2 input -/
  rank : Nat := 0
  on : Bool := false
  slot : CoilSlot := {}
  cells : List (Nat × Cell) := []
  /-- index, sub-index and value -/
  entries : List (Nat × Nat × Nat) := []
  loan : Option (Nat × Loan) := none
  request : Option Loan := none
  deriving DecidableEq, Repr

/-- What a loop engine and its generator keep beside their entries (chapter 09). Positions are signed 48.16 numbers,
the rest Q16, all as raw integers (R255). -/
structure Loop where
  /-- EngineState (Table 09-2) -/
  st : Nat := 0
  applied : Nat := 0
  modePending : Bool := false
  /-- the next boundary resumes under R260: a granted start, or a per-function reset -/
  resumeNext : Bool := false
  y : Int := 0
  /-- the Counter value last seen (R250) -/
  count : Nat := 0
  /-- earlier values of y, newest first -/
  ys : List Int := []
  vMeas : Int := 0
  vPrev : Int := 0
  p : Int := 0
  v : Int := 0
  a : Int := 0
  arrived : Bool := false
  u : Int := 0
  integ : Int := 0
  err : Int := 0
  outSat : Bool := false
  frozen : Bool := false
  errSat : Bool := false
  fbSat : Bool := false
  stale : Bool := false
  lagging : Bool := false
  tracking : Bool := false
  /-- the tick since which Lagging has read 1, and |e| has exceeded TrackTolerance, at every boundary -/
  lagSince : Option Nat := none
  lagTold : Bool := false
  trackSince : Option Nat := none
  /-- the tick of the last committed ExternalFeedback -/
  extAt : Nat := 0
  /-- the tick at which the output of the last boundary is issued (R249) -/
  issueAt : Option Nat := none
  /-- writes of the engine's RW entries at the latest tick: entry, tick and the value before (R261) -/
  recent : List (Nat × Nat × Nat) := []
  deriving DecidableEq, Repr

/-! ### Field inputs (chapter 10) -/

/-- What an input channel keeps beside its entries. -/
structure Input where
  /-- the comparator's level, which holds between the thresholds (R274) -/
  comp : Bool := false
  /-- the debounce candidate: tick and bank timestamp of its first sample, and its level (R278) -/
  cand : Option (Nat × Nat × Bool) := none
  /-- the candidate has held for Debounce and waits for its acceptance tick -/
  ready : Bool := false
  /-- a level has been accepted since power-up, bank reset or configuration (R279) -/
  known : Bool := false
  /-- the tick at which the running wire-break phase began -/
  breakAt : Option Nat := none
  /-- consecutive results of Wire broken -/
  broken : Nat := 0
  /-- the live count, raw 32 bits, and a CounterLoad waiting for its bank slot (R122, R285) -/
  count : Nat := 0
  load : Option Nat := none
  /-- the bank timestamp of the last change of the count, captured into CounterEdgeTime with the count (R120) -/
  edgeTime : Nat := 0
  /-- the counts captured at the last sample sets, newest first (R122, R248) -/
  captured : List Nat := []
  /-- the level of the last accepted edge -/
  edge : Bool := false
  /-- the last edge of a pair, kept at track A: module time, whether it was on A, and the count before it (R284) -/
  lastEdge : Option (Nat × Bool × Nat) := none
  /-- Sleep: the latched reference level and the polls that have differed from it (R290) -/
  wakeRef : Bool := false
  wakePolls : Nat := 0
  deriving DecidableEq, Repr

/-- The event of a change-of-state record (R287, R288). -/
structure Cos where
  /-- an event is queued in the Vault -/
  queued : Bool := false
  levels : Nat := 0
  changed : Nat := 0
  /-- EventTime of the earliest undelivered change, none where every change is delivered -/
  eventTime : Option Nat := none
  supply : Nat := 0
  changes : Nat := 0
  /-- acceptance time and tick of the latest change -/
  time : Nat := 0
  tick : Nat := 0
  deriving DecidableEq, Repr

/-! ### Sequencer engines and contexts (chapters 11 and 12) -/

/-- What waits in a context's receive queue (R333): a message's octets, or the event of a change-of-state record, whose
value is taken at delivery (R288). -/
structure Rx where
  msg : List Byte := []
  cos : Option Nat := none
  chain : Chain := {}
  deriving DecidableEq, Repr

/-- A mailbox request in progress (R331): the operation, the address of its block, the evaluated response, and whether
the context has stopped meanwhile. -/
structure Mailbox where
  op : Nat
  addr : Nat
  /-- the posting waits for its store loan -/
  storing : Bool := false
  discard : Bool := false
  deriving DecidableEq, Repr

/-- One hardware context (Tables 11-1, 11-2, 12-5, R340). -/
structure Ctx where
  g : Vector Word 8 := Vector.replicate 8 0
  sp : Word := 0
  pc : BitVec 13 := 0
  z : Bool := false
  n : Bool := false
  c : Bool := false
  v : Bool := false
  inTrap : Bool := false
  inRepeat : Bool := false
  debug : Bool := false
  cause : Nat := 0
  double : Bool := false
  trapPc : BitVec 13 := 0
  trapInfo : Word := 0
  trapFlags : BitVec 4 := 0
  repRem : Word := 0
  timeHi : Word := 0
  cycleHi : Word := 0
  censusSel : Nat := 0
  /-- 0 Stopped, 1 Running, 3 Halted by debug, 4 Faulted -/
  st : Nat := 0
  /-- it has run since it entered Active -/
  started : Bool := false
  /-- inside wait: the register and the mask, with the tick it began -/
  waiting : Option (Nat × Nat × Nat) := none
  /-- inside a path load: the register and the address -/
  stalled : Option (Nat × Nat) := none
  /-- pending events but MESSAGE (Table 12-6) -/
  events : Nat := 0
  timer : Word := 0
  armed : Bool := false
  pathResult : Nat := 0
  ownResult : Nat := 0
  lrspAddr : Nat := 0
  /-- LSTATUS: status, position, Done -/
  lStatus : Nat := 0
  lPosition : Nat := 0
  lDone : Bool := false
  mailbox : Option Mailbox := none
  /-- an ownership request decided and not yet told: its OWNRESULT status and channel -/
  ownReq : Option (Nat × Nat) := none
  rx : List Rx := []
  deriving DecidableEq, Repr

/-- A store waiting in an engine's path queue (Table 12-2). -/
structure PathStore where
  ctx : Nat
  addr : Nat
  value : Nat
  deriving DecidableEq, Repr

/-- A store waiting in an engine's buffer of shared stores: byte address in shared memory, size in octets, value. -/
structure SharedStore where
  addr : Nat
  size : Nat
  value : Nat
  deriving DecidableEq, Repr

/-- The census of an engine (R351): CensusState, its start, its end tick and its counters; the counters of cycles and
ticks follow from the start. Every engine's start-up census runs from power-up. -/
structure Census where
  kind : Nat := 1
  running : Bool := true
  startTick : Nat := 0
  startTime : Nat := 0
  until_ : Nat := 1000000
  endTick : Nat := 0
  endTime : Nat := 0
  counts : NatMap Nat := []
  deriving DecidableEq, Repr

/-- What a Fororn engine keeps beside its entries. -/
structure Eng where
  paths : List PathStore := []
  shared : List SharedStore := []
  /-- program words whose fetch, and data bytes whose read, cannot be corrected; set by no command -/
  fetchBad : List Nat := []
  dataBad : List Nat := []
  /-- the tick from which the cycle counter counts -/
  cycleBase : Nat := 0
  /-- issue slots used since the last tick -/
  used : Nat := 0
  /-- the tagging unit: its LFSR, the instructions until the next selection -/
  lfsr : Nat := 0xACE1
  tagIn : Nat := 0
  census : Census := {}
  deriving DecidableEq, Repr

/-- The open program load (R336, R337). -/
structure ProgLoad where
  owner : Writer
  tz96 : Bool
  /-- staged words, keyed by word address; an unlisted word is 0 -/
  words : NatMap Nat := []
  full : Bool := false
  /-- words staged, up to the highest -/
  top : Nat := 0
  /-- LoadTarget at Begin -/
  target : Nat
  deriving DecidableEq, Repr

/-! ### Field buses (chapter 14) -/

/-- A CAN frame waiting to be sent (R395), with its item in the Vault. -/
structure CanItem where
  frame : CanFrame
  chain : Chain
  /-- the session whose transfer it belongs to (R78), none for every other frame -/
  session : Option Nat := none
  deriving DecidableEq, Repr

/-- A hardware transmit slot's frame: the order of its loading, and ClashRun (R401). -/
structure CanSlot where
  item : CanItem
  order : Nat
  clashRun : Nat := 0
  deriving DecidableEq, Repr

/-- A received CAN frame waiting for the gateway: queue, frame, time of its end of frame (R402, R403). -/
structure CanRx where
  queue : Nat
  frame : CanFrame
  time : Nat
  chain : Chain
  deriving DecidableEq, Repr

/-- A CAN controller beside its entries. -/
structure Can where
  /-- all classes, each first in, first out -/
  txq : List CanItem := []
  slots : NatMap (Option CanSlot) := []
  loads : Nat := 0
  /-- the slot whose frame is on the bus -/
  attempt : Option Nat := none
  rxq : List CanRx := []
  tec : Nat := 0
  rec_ : Nat := 0
  busOff : Bool := false
  recovering : Bool := false
  integrating : Bool := false
  alone : Bool := false
  transceiver : Bool := false
  /-- the segment sleeps (chapter 15), or will at the end of the attempt in progress -/
  asleep : Bool := false
  sleepAsked : Bool := false
  deriving DecidableEq, Repr

/-- A LIN channel beside its entries. -/
structure Lin where
  /-- the running table, 0 when the schedule stands; the slot that runs next; the tick at which the present slot ends -/
  table : Nat := 0
  slot : Nat := 0
  slotEnd : Nat := 0
  /-- a selection that waits for the end of the slot -/
  select : Option Nat := none
  sleepAsked : Bool := false
  /-- frame entries whose FrameData has been written; has been written since its last transmission -/
  written : List Nat := []
  fresh : List Nat := []
  /-- the frame entry whose response is awaited or sent -/
  awaiting : Option Nat := none
  /-- associated entries to poll after a collision -/
  polls : List Nat := []
  /-- consecutive NoResponse faults by frame entry -/
  missed : NatMap Nat := []
  busSleep : Bool := false
  busHeld : Bool := false
  /-- the segment sleeps (chapter 15), or will when its go-to-sleep frame ends; the table its schedule resumes with -/
  asleep : Bool := false
  netSleep : Bool := false
  resume : Nat := 0
  deriving DecidableEq, Repr

/-- A T1S segment beside its entries. -/
structure T1s where
  beaconLost : Bool := false
  phyFault : Bool := false
  /-- the start of the collision window and the collisions in it -/
  windowAt : Option Nat := none
  inWindow : Nat := 0
  deriving DecidableEq, Repr

/-- An ISO 15765-2 channel (R78): a transfer in reception (length, octets so far, next sequence number, N_Cr deadline), one
in transmission (octets left, next sequence number, waiting for a flow control until a tick, frames left in the block, STmin
in µs, earliest tick of the next frame). Messages that wait for their turn are items of the Vault. -/
structure IsoTp where
  need : Nat := 0
  got : List Byte := []
  rxSn : Nat := 0
  rxBy : Option Nat := none
  rest : List Byte := []
  txSn : Nat := 0
  /-- the Vault's number of the message whose transfer is in progress -/
  item : Option Nat := none
  /-- a flow control of the module still has to be queued -/
  owesFlow : Bool := false
  fcBy : Option Nat := none
  block : Option Nat := none
  stMin : Nat := 0
  nextAt : Nat := 0
  tc : Nat := 3
  /-- the session of the transfer in progress -/
  session : Option Nat := none
  deriving DecidableEq, Repr

/-! ### Sleep and wake (chapter 15) -/

/-- A round that the module runs on its own ring (R426): mask, depth, its start, the members still to answer, the first
called, and whether it answers a CALL of the parent ring, or was started by RoundStart. -/
structure Round where
  mask : Nat
  depth : Nat
  began : Nat
  left : List Nat
  child : Bool := false
  started : Bool := false
  deriving DecidableEq, Repr

/-- A round the module has consented to: as steward of its own ring or as a member of the parent ring, its number, mask and
depth, the tick of the consent, the steward's node address, and SealEnd once sealed. -/
structure Bound where
  own : Bool
  round : Nat
  mask : Nat
  depth : Nat
  at_ : Nat
  node : Nat
  sealEnd : Option Nat := none
  /-- a RoundStart drives the round -/
  started : Bool := false
  deriving DecidableEq, Repr

/-- What wakes the module: kind and instance of Table 15-3, the networks it wakes, its module time. -/
structure Wakeup where
  kind : Nat
  inst : Nat
  nets : Nat
  time : Nat
  deriving DecidableEq, Repr

/-- A handle input as AON reads it (R434): its baseline in thousandths of 0.1 pF, none before the first reading, and the
consecutive readings above it by Threshold. -/
structure CapInput where
  base : Option Nat := none
  run : Nat := 0
  deriving DecidableEq, Repr

/-- The module's part in the tally rings. -/
structure Tally where
  /-- consent depth (R425) -/
  depth : Nat := 0
  /-- Round of the last own round, and the last Round seen on the parent ring -/
  ownRound : Nat := 0
  parentRound : Nat := 0
  run : Option Round := none
  /-- the CALL being answered by a child round: its Round, mask, depth and steward -/
  called : Option (Nat × Nat × Nat × Nat) := none
  bound : Option Bound := none
  /-- PowerStateRequest, RoundStart drives the present round -/
  requested : Bool := false
  /-- the start of a retry (R427) -/
  retryAt : Option Nat := none
  /-- an entry begun at SealEnd: its depth -/
  entering : Option Nat := none
  /-- uplinks whose TC10 sleep request is not acknowledged, since the tick -/
  tc10 : List (Nat × Nat) := []
  /-- a wake latched and unserved -/
  latched : Option Wakeup := none
  /-- networks whose WAKE has still to be sent -/
  owed : Nat := 0
  /-- the sleeping networks -/
  sleeping : Nat := 0
  /-- WAKE_OUT is high until this tick -/
  wakeOut : Option Nat := none
  deriving DecidableEq, Repr

/-! ### The access engine (chapter 16) -/

/-- Where an exchange with a key stands (R443): PROOF awaited; RANGE_POLL or RANGE_FINAL on its way with the times taken so
far; RESULT awaited. Anchor times are in units of 15.65 ps. -/
inductive ExchangeStep
  | proof
  | pollSent
  | resp (t1 : Nat)
  | finalSent (t1 t2 : Nat)
  | result (t1 t2 t3 : Nat)
  deriving DecidableEq, Repr

/-- A Single reply of an enrolled key: reply slot, token slot, Nt. -/
structure KeyReply where
  slot : Nat
  token : Nat
  nt : Nat
  deriving DecidableEq, Repr

/-- A running exchange: the key, Nm, the tick of its CHALLENGE, its step. -/
structure Exchange where
  key : KeyReply
  nm : Nat
  at_ : Nat
  step : ExchangeStep := .proof
  deriving DecidableEq, Repr

/-- Where an access request stands: its segment or anchor wakes until a tick; the LF loan is requested; the burst runs since
a tick; the reply slots run since E; exchanges. -/
inductive AccessStep
  | waking (by_ : Nat)
  | loan
  | burst (since : Nat)
  | replies (e : Nat)
  | exchanging (x : Exchange)
  deriving DecidableEq, Repr

/-- The request in service (R442 to R449). -/
structure AccessRun where
  zone : Nat
  command : Bool
  step : AccessStep
  polls : Nat := 0
  pollId : Nat := 0
  /-- good and failed frames of the reply slots of this poll -/
  replies : List KeyReply := []
  collided : List Nat := []
  /-- replies whose exchanges have not begun -/
  left : List KeyReply := []
  hadSingle : Bool := false
  /-- qualified keys: distance, token slot, Ks -/
  qualified : List (Nat × Nat × Nat) := []
  beyond : Bool := false
  noRight : Bool := false
  failed : Bool := false
  deriving DecidableEq, Repr

/-- A running MemoryRequest (R453). -/
structure MemoryRun where
  token : Nat
  block : Nat
  write : Bool
  anchor : Nat
  ks : Nat
  at_ : Nat
  deriving DecidableEq, Repr

/-- A key's last GRANTED exchange: tick, Ks, zone. -/
structure Grant where
  at_ : Nat
  ks : Nat
  zone : Nat
  deriving DecidableEq, Repr

/-- The access engine beside its entries. `keys`, `failures` and `lockedTill` are the strongroom's. -/
structure AccessEng where
  run : Option AccessRun := none
  /-- pending touches: handle input and tick -/
  touches : List (Nat × Nat) := []
  memory : Option MemoryRun := none
  keys : NatMap Nat := []
  grants : NatMap (Option Grant) := []
  /-- ticks of the failed attempts of the last 60 s, newest first -/
  failures : List Nat := []
  lockedTill : Option Nat := none
  /-- anchors present, with the tick of the last STATUS frame -/
  present : NatMap (Option Nat) := []
  /-- antennas whose last burst stayed below half of LfCurrent -/
  lfWeak : List Nat := []
  /-- a per-function reset runs -/
  resetting : Bool := false
  deriving DecidableEq, Repr

/-! ### Field update (chapter 18) -/

/-- One block of 4,096 octets of a part: a block of the firmware programmed at manufacture, literal octets, or a fill. -/
inductive Block
  | factory (type inst block : Nat)
  | data (l : List Byte)
  | fill (v : Nat)
  deriving DecidableEq, Repr

/-- A part of a firmware bank: its type and instance, length, blocks and recorded digest. -/
structure Part where
  type : Nat
  inst : Nat
  length : Nat
  blocks : List Block
  digest : Nat
  deriving DecidableEq, Repr

/-- A firmware bank beside the parts programmed at manufacture, which it holds while `factory`. -/
structure FwBank where
  factory : Bool := true
  parts : List Part := []
  version : Nat := 0
  deriving DecidableEq, Repr

/-- A StageData write that waits for its loan or its burst (R498). -/
structure StageJob where
  reply : Reply
  writer : Writer
  writes : List Write
  /-- the burst runs -/
  running : Bool := false
  /-- it is done (true), or its loan was declined, while Ledger service is absent (R26) -/
  held : Option Bool := none
  deriving DecidableEq, Repr

/-- An activation in progress (R505): its stage 2 to 5, the failure found as (code, part index, FailedPart), and whether the
boot record has been written. -/
structure Activation where
  stage : Nat
  failure : Option (Nat × Nat × Nat) := none
  committed : Bool := false
  deriving DecidableEq, Repr

/-- The update engine beside its entries. -/
structure Update where
  /-- staged octets; an unlisted one is 0 -/
  staging : List Host.Cell := []
  job : Option StageJob := none
  /-- Finish has begun the check of the manifest -/
  checking : Bool := false
  /-- build: a burst runs under its loan; the loan is requested; it is requested again at a tick -/
  bursting : Bool := false
  asked : Bool := false
  retryAt : Option Nat := none
  bankA : FwBank := {}
  bankB : FwBank := { factory := false }
  /-- the bank that runs: 0 A, 1 B -/
  bank : Nat := 0
  /-- the inactive bank holds a complete build -/
  built : Bool := false
  activation : Option Activation := none
  deriving DecidableEq, Repr

/-! ### Supplies, clocks and reset (chapter 19) -/

/-- Supplies and clocks as the module sees them. -/
structure Supply where
  /-- mV -/
  ka : Nat := 13500
  vloga : Nat := 13500
  vlogb : Nat := 13500
  kaLow : Bool := false
  aLow : Bool := false
  bLow : Bool := false
  logicLow : Bool := false
  /-- a logic loss that AON has latched (R522) -/
  brownout : Bool := false
  /-- RESET_N is held low -/
  reset : Bool := false
  onBackup : Bool := false
  rtcOk : Bool := true
  sensorBad : Bool := false
  /-- the tick since which the mismatch condition of the boardnet mode holds; it has been told -/
  mismatchAt : Option Nat := none
  mismatchTold : Bool := false
  deriving DecidableEq, Repr

/-! ### The whole module -/

/-- The state of the module. -/
structure State where
  /-- the ordering code: TZ-512-CA, with the access engine, or TZ-512-C (R1) -/
  ca : Bool := true
  /-- module time in ns (R10) -/
  now : Nat := 0
  /-- module ticks of 1 µs since the start; durations run on them (R69) -/
  ticks : Nat := 0
  /-- raw values of the entries, keyed index × 256 + sub-index; an unlisted entry holds its default -/
  ledger : NatMap Nat := []
  /-- the parameter store in MRAM: stored values of persistent entries, and the function IDs with a stored
  configuration (R42, R52) -/
  stored : NatMap Nat := []
  storedFns : List Nat := []
  jobs : List Job := []
  sessions : NatMap Session := []
  openers : List Opener := []
  published : List Published := []
  /-- Ledger service is absent: a takeover or an activation (R26) -/
  blank : Bool := false
  cells : NatMap Cell := []
  banks : NatMap Bank := []
  gangs : NatMap Gang := []
  sources : NatMap Source := []
  supervisor : Supervisor := {}
  teller : Teller := {}
  /-- the function whose per-function reset runs (R476) -/
  fnReset : Option Nat := none
  /-- Isolated functions whose escrow has expired (R48) -/
  isoExpired : List Nat := []
  /-- the status of the last request evaluated, and what the module has sent, newest first -/
  answer : Answer := ⟨.ok, 0xFF⟩
  out : List Sent := []
  /-- draws made from the module's random source and from the open values (Config.random, Config.free) -/
  rng : Nat := 0
  free : Nat := 0
  /-- the power state without escrow and limp: 0 Off, 1 Sleep, 2 Standby, 3 Run (Table 02-14) -/
  power : Nat := 3
  /-- the tick of the first entry of the bank-wide escrows now running (R488) -/
  escrowFirst : Option Nat := none
  coils : NatMap CoilSlot := []
  /-- the triggers of the present tick, keyed as the slots (R223) -/
  coilTrigs : NatMap CoilTrig := []
  loops : NatMap Loop := []
  inputs : NatMap Input := []
  cos : NatMap Cos := []
  ctxs : NatMap Ctx := []
  engines : NatMap Eng := []
  /-- data memory, keyed engine × 16,384 + byte address; shared sequencer memory by byte address; program memory, keyed
  engine × 8,192 + word address; the stored images (R337); an unlisted byte or word is 0 -/
  dmem : List Host.Cell := []
  smem : List Host.Cell := []
  pmem : NatMap Nat := []
  storedImages : NatMap Nat := []
  /-- the holder of each lock + 1 (R335) -/
  locks : NatMap Nat := []
  load : Option ProgLoad := none
  loadOk : Bool := false
  /-- items of the egress queues, in the order of arrival (R370), and the number of the next -/
  vault : List VItem := []
  vaultNext : Nat := 0
  /-- coins drawn from the shared pool, and by each class (R362) -/
  poolDrawn : Nat := 0
  classPool : NatMap Nat := []
  ports : NatMap Port := []
  fdb : List FdbEntry := []
  streams : NatMap Stream := []
  /-- frames delivered behind P10 whose records the gateway has not taken (R405), with their numbers in the Vault and their
  classes -/
  gateway : List (Nat × Nat × EthFrame) := []
  /-- octets of egress demand that the Vault has still to read beyond its capacity, in 10 kbit; the tick of that account; the
  port that last took a turn (R370, R377) -/
  readOwed : Nat := 0
  readAt : Nat := 0
  readTurn : Nat := 11
  /-- what slewing has still to add to module time, in ns (R69); consecutive sync messages within 1,000 ns, and the tick of
  the last one (R548) -/
  slew : Int := 0
  syncGood : Nat := 0
  syncAt : Nat := 0
  cans : NatMap Can := []
  lins : NatMap Lin := []
  t1ss : NatMap T1s := []
  /-- ISO-TP channels: 0 to 63 the BLL channels, 64 + 256 × controller + device those of relays (R417) -/
  iso : NatMap IsoTp := []
  /-- 1 + the relay tag of the latest relay to each device, keyed bus kind × 65,536 + bus × 256 + device (Table 14-11) -/
  relayTags : NatMap Nat := []
  tally : Tally := {}
  /-- the handle inputs CAP0 to CAP7 -/
  caps : NatMap CapInput := []
  access : AccessEng := {}
  update : Update := {}
  supply : Supply := {}
  /-- commands waiting, first in, first out -/
  pending : List Instr := []
  deriving DecidableEq, Repr

/-- The module right after reset: a factory-fresh module in Run, nothing stored, every entry at its default.
DESIGN CHOICE: notes/assumptions/5.md. DESIGN CHOICE: notes/assumptions/6.md. DESIGN CHOICE: notes/assumptions/7.md. -/
def State.reset : State := {}

end Sys2Proof.Machine
end

