-- ==== Sys2Proof/Machine/Entries.lean ====
section
/-! DEFINITION. The index map of the Ledger: which group an index names, which rows a group has, what an entry's default
is and which functions own it (R34, R35, R45, R557, Tables 02-1, 02-6). -/

namespace Sys2Proof.Machine

/-- The index map (Table 02-1), with the indices that the owning chapters allocate; `ca` for a TZ-512-CA. -/
def LGroup.ofIndex (ca : Bool) (i : Nat) : Option LGroup :=
  if i < 0x1000 then none
  else if i = 0x1000 then some .identity
  else if i < 0x1100 then none
  else if i < 0x1180 then some (.session (i - 0x1100))
  else if i = 0x1180 then some .sessionCtl
  else if i = 0x1181 then some .keySlots
  else if i = 0x1182 then some .proxy
  else if i = 0x1183 then some .bllCan
  else if i = 0x1200 then some .time
  else if 0x1300 ≤ i ∧ i < 0x4000 then (if i = 0x1300 then some .power else if i < 0x1304 then some (.supply (i - 0x1300)) else none)
  else if i < 0x4000 then none
  else if i < 0x4200 then some (.chanCfg (i - 0x4000))
  else if i < 0x4400 then some (.chanStatus (i - 0x4200))
  else if i < 0x4600 then some (.chanDiag (i - 0x4400))
  else if i < 0x4800 then some (.chanMeas (i - 0x4600))
  else if i < 0x4840 then some (.gang (i - 0x4800))
  else if i < 0x4900 then none
  else if i < 0x4910 then some (.bank (i - 0x4900))
  else if i < 0x4A00 then none
  else if i = 0x4A00 then some .teller
  else if i < 0x4A09 then some (.tellerBanks (i - 0x4A00))
  else if i < 0x4A0C then none
  else if i < 0x4A10 then some (.tellerBanks (i - 0x4A00))
  else if i < 0x4A80 then none
  else if i < 0x4B00 then some (.loan (i - 0x4A80))
  else if i < 0x4B05 then some (.tellerQueue (i - 0x4B00))
  else if i < 0x4C00 then none
  else if i < 0x4C40 then some (.coil (i - 0x4C00))
  else if i < 0x4D00 then none
  else if i < 0x4D30 then some (.loop (i - 0x4D00))
  else if i < 0x4D80 then none
  else if i < 0x4DB0 then some (.profile (i - 0x4D80))
  else if i < 0x4E00 then none
  else if i < 0x4E40 then some (.inputProfile (i - 0x4E00))
  else if i = 0x4E80 then some .bankInput
  else if i = 0x4E81 then some .wakeInput
  else if 0x4E82 ≤ i ∧ i < 0x4E86 then some (.counterLoad (i - 0x4E82))
  else if 0x4E86 ≤ i ∧ i < 0x4E8A then some (.quadErrors (i - 0x4E86))
  else if i < 0x4F00 then none
  else if i < 0x4F80 then some (.cos (i - 0x4F00))
  else if i < 0x5000 then none
  else if i < 0x5020 then some (.engine (i - 0x5000))
  else if i < 0x5100 then none
  else if i < 0x5180 then some (.context (i - 0x5100))
  else if i = 0x5200 then some .progLoad
  else if i < 0x5400 then none
  else if i < 0x5420 then some (.perf (i - 0x5400))
  else if i < 0x5480 then none
  else if i < 0x54A0 then some (.census (i - 0x5480))
  else if i < 0x6000 then none
  else if i < 0x600C then some (.port (i - 0x6000))
  else if i < 0x6100 then none
  else if i < 0x6140 then some (.vault (i - 0x6100))
  else if i < 0x6180 then some (.stream (i - 0x6140))
  else if i < 0x61C0 then some (.vlan (i - 0x6180))
  else if i < 0x6200 then none
  else if i < 0x6220 then some (.trafficClass (i - 0x6200))
  else if i < 0x6300 then none
  else if i < 0x6308 then some (.gate (i - 0x6300))
  else if i < 0x6400 then none
  else if i < 0x6410 then some (.can (i - 0x6400))
  else if i < 0x6500 then none
  else if i < 0x6508 then some (.lin (i - 0x6500))
  else if i < 0x6600 then none
  else if i < 0x6606 then some (.t1s (i - 0x6600))
  else if i < 0x6800 then none
  else if i < 0x6806 then some (.sleep (i - 0x6800))
  else if i < 0x7000 then none
  else if i < 0x7100 then
    if ca = false then none
    else if i = 0x7000 then some .access
    else if 0x7010 ≤ i ∧ i < 0x7030 then some (.keySlot (i - 0x7010))
    else if 0x7030 ≤ i ∧ i < 0x7048 then some (.accessZone (i - 0x7030))
    else none
  else if i < 0x7400 then none
  else if i = 0x7400 then some (.auditCtl 0)
  else if 0x7440 ≤ i ∧ i < 0x7458 then some (.auditCtl (i - 0x7400))
  else if i < 0x7600 then none
  else if i < 0x7603 then some (.escrow (i - 0x7600))
  else if i < 0x7C00 then none
  else if i = 0x7C00 then some .update
  else if i = 0x7E00 then some .fnReset
  else if i < 0x8000 then none
  else if i < 0xA000 then some (.source (i - 0x8000))
  else if 0xC000 ≤ i ∧ i < 0x10000 then some (.customer (i - 0xC000))
  else none

/-- The default class of an Audit source, none for a reserved ID (Tables 04-15, 05-12, 07-11, 17-1, 17-12 and the source
tables of the other chapters): 0 Notice, 1 Degrade, 2 Isolate, 3 Safe. -/
def sourceClass (id : Nat) : Option Nat :=
  let pick (l : List Nat) (k : Nat) : Option Nat := l[k]?
  if id < 0x1000 then pick [0, 0, 0, 0, 1, 1] (id % 8)
  else if id < 0x1100 then pick [0, 0, 3, 0, 1, 0, 1, 2] (id % 16)
  else if id < 0x1200 then
    if id < 0x1109 then pick [0, 1, 0, 0, 1, 0, 0, 0, 1] (id - 0x1100)
    else if 0x1110 ≤ id ∧ id < 0x1130 then some 0
    else none
  else if id < 0x1300 then pick [0, 0, 1, 0] (id % 4)
  else if id < 0x13C0 then pick [0, 1, 0, 1] (id % 4)
  else if id < 0x1400 then none
  else if id < 0x1480 then some 2
  else if id < 0x1500 then pick [0, 2, 0] (id % 4)
  else if id < 0x1560 then pick [0, 0, 0, 0, 1, 1, 0] (id % 8)
  else if id < 0x1565 then pick [0, 1, 0, 0, 0] (id - 0x1560)
  else if id < 0x1600 then none
  else if id < 0x1680 then pick [1, 0, 0, 1, 0, 1] (id % 8)
  else if id < 0x16C0 then pick [0, 0, 1, 0] (id % 8)
  else if id < 0x16D8 then pick [0, 0, 1] (id % 4)
  else if 0x1700 ≤ id ∧ id < 0x1800 then
    if id < 0x1705 then pick [0, 0, 1, 0, 0] (id - 0x1700) else if 0x1710 ≤ id ∧ id < 0x1714 then some 0 else none
  else if 0x1800 ≤ id ∧ id < 0x1900 then
    if id < 0x1805 then pick [0, 1, 0, 0, 1] (id - 0x1800)
    else if 0x1808 ≤ id ∧ id < 0x1814 then some 1
    else none
  else if 0x1A00 ≤ id ∧ id < 0x1B00 then pick [0, 0, 1, 1, 1, 0] (id - 0x1A00)
  else if 0x1B00 ≤ id ∧ id < 0x1C00 then pick [0, 0, 0, 1, 1, 1, 0, 1, 0] (id - 0x1B00)
  else if 0x1900 ≤ id ∧ id < 0x1A00 then
    if id < 0x1905 then pick [0, 0, 0, 1, 0] (id - 0x1900)
    else if 0x1910 ≤ id ∧ id < 0x1920 then some 0
    else if 0x1920 ≤ id ∧ id < 0x1930 then some 1
    else if 0x1980 ≤ id then some 0
    else none
  else none

/-- The rows of a group (R34): the entry tables of the owning chapters. -/
def LGroup.rows : LGroup → List Row
  | .identity => identityRows
  | .session _ => sessionRows
  | .sessionCtl => sessionCtlRows
  | .keySlots => keySlotRows
  | .proxy => proxyRows
  | .bllCan => bllCanRows
  | .time => timeRows
  | .power => powerRows
  | .supply i => match i with | 1 => supplyRows | 2 => clockRows | _ => debugRows
  | .chanCfg _ => chanCfgRows
  | .chanStatus _ => chanStatusRows
  | .chanDiag _ => chanDiagRows
  | .chanMeas _ => chanMeasRows
  | .gang _ => gangRows
  | .bank _ => bankRows
  | .teller => tellerRows
  | .tellerBanks i => 
    match i with
    | 1 => teller1Rows | 2 => teller2Rows | 3 => teller3Rows | 4 => teller4Rows | 5 => teller5Rows | 6 => teller6Rows
    | 7 => teller7Rows | 8 => teller8Rows | _ => loanTermsRows
  | .loan _ => loanRows
  | .tellerQueue i => if i = 0 then queueRows else queueRecordRows
  | .coil _ => coilRows
  | .loop _ => loopRows
  | .profile _ => profileRows
  | .inputProfile p => inputProfileRows (p = 0)
  | .bankInput => bankInputRows
  | .wakeInput => wakeInputRows
  | .counterLoad _ => counterLoadRows
  | .quadErrors _ => quadErrorRows
  | .cos _ => cosRows
  | .engine _ => engineRows
  | .context _ => contextRows
  | .progLoad => progLoadRows
  | .perf _ => perfRows
  | .census _ => censusRows
  | .port p => portRows p
  | .vault i => if i = 0 then vaultRows else if i = 1 then egressReserveRows else if i = 2 then egressInUseRows else []
  | .stream _ => streamRows
  | .vlan _ => vlanRows
  | .trafficClass i => if i < 8 then trafficClassRows else []
  | .gate _ => gateRows
  | .can _ => canRows
  | .lin _ => linRows
  | .t1s _ => t1sRows
  | .sleep i => match i with | 0 => sleepRows | 1 => ringMemberRows | 2 => segmentNetworkRows | 3 => canWakeRows | 4 => wakeSourceRows | _ => wakeRecordRows
  | .access => accessRows
  | .keySlot i => if i < 16 then keySlotEntryRows else if i < 24 then zoneRows else []
  | .accessZone i => if i = 0 then memoryRows else if 16 ≤ i ∧ i < 24 then anchorRows else []
  | .auditCtl i => if i = 0 then auditRows else auditMapRows
  | .escrow i => match i with | 0 => escrowRows | 1 => limpRows | _ => supervisorRows
  | .update => updateRows
  | .fnReset => fnResetRows
  | .source id => if (sourceClass id).isSome then sourceRows else []
  | .customer _ => []

/-- The highest sub-index that a list of rows uses. -/
def Row.highest (rs : List Row) : Nat := rs.foldl (fun a r => max a (r.lo + r.cnt - 1)) 0

/-- HighestSubIndex of a group: sub-index 0x00 of every group (R34). -/
def LGroup.highest (g : LGroup) : Nat := Row.highest g.rows

/-- The row of a sub-index in a list of rows. -/
def Row.find (rs : List Row) (j : Nat) : Option Row := rs.find? fun r => decide (r.lo ≤ j ∧ j < r.lo + r.cnt)

/-- The row of HighestSubIndex (R34). -/
def Row.highestSub : Row := ⟨0, 1, "HighestSubIndex", .u8, .ro, .observe, 0, true, .any, false⟩

/-- The row of an entry by its group; a group without entries has none. -/
def LGroup.row (g : LGroup) (j : Nat) : Option Row :=
  if j = 0 then (if g.rows.isEmpty then none else some Row.highestSub) else Row.find g.rows j

/-- What an entry of a group holds at power-up with nothing stored (R42): its row's default, or the value its chapter
gives for its instance. -/
def LGroup.default (g : LGroup) (j : Nat) : Nat :=
  match g with
  | .source id => if j = 2 then 4 + (sourceClass id).getD 0 else ((LGroup.source id).row j).elim 0 (·.dflt)
  | .context c =>
    if j = 5 then 0x1000 * (c % 4 + 1) else if j = 6 then 0x1000 * (c % 4) + 0x0C00 else ((LGroup.context c).row j).elim 0 (·.dflt)
  | .port p =>
    if j = 0x0A ∨ j = 0x17 then (if p = 0 then j / 0x17 + 1 else j / 0x17)
    else if j = 0x04 then Config.macAddress p
    else if j = 0x13 then Config.macAddress p + p * 2 ^ 48
    else ((LGroup.port p).row j).elim 0 (·.dflt)
  | .vault i =>
    if i = 1 then (if j < 3 then 4096 else if j < 9 then 1024 else if j = 9 then 256 else if j = 10 then 16384 else 8192)
    else ((LGroup.vault i).row j).elim 0 (·.dflt)
  | .trafficClass i =>
    if j = 1 then (if i = 7 then 8192 else 1024)
    else if j = 2 then (if i = 7 then 8192 else 32768)
    else if j = 3 then [1000000, 500000, 200000, 100000, 50000, 20000, 10000, 2000].getD i 0
    else ((LGroup.trafficClass i).row j).elim 0 (·.dflt)
  | .vlan v => if v = 0 then (if j = 1 then 1 else if j = 0 then 3 else 0x0EFF) else ((LGroup.vlan v).row j).elim 0 (·.dflt)
  | g => (g.row j).elim 0 (·.dflt)

/-- What an unlisted entry of the ledger holds. -/
def Ledger.dflt (i j : Nat) : Nat := (LGroup.ofIndex true i).elim 0 (·.default j)

/-- The function whose group an index is (Table 02-6). -/
def LGroup.fn? : LGroup → Option Fn
  | .bank b => some ⟨1, b⟩
  | .coil e => some ⟨2, e⟩
  | .loop e => some ⟨3, e⟩
  | .engine e => some ⟨4, e⟩
  | .context c => some ⟨5, c⟩
  | .can k => some ⟨6, k⟩
  | .lin k => some ⟨7, k⟩
  | .t1s k => some ⟨8, k⟩
  | .port p => some ⟨9, p⟩
  | .access => some ⟨0x0A, 0⟩
  | .teller => some ⟨0x0B, 0⟩
  | .session s => some ⟨0x0C, s⟩
  | _ => none

end Sys2Proof.Machine
end

