-- ==== Sys2Proof/Machine/Ops.lean ====
section
/-! DEFINITION. The named operations on the state: entries, per-instance records, time, function states, the outcome of a
command. Every other definition reads and writes the state through these. -/

namespace Sys2Proof.Machine

namespace State

/-! ### Entries -/

/-- The raw value an entry holds. -/
def rd (s : State) (i j : Nat) : Nat := Map.get (Ledger.dflt i j) s.ledger (i * 256 + j)

/-- The state with a raw value in an entry. -/
def wr (s : State) (i j v : Nat) : State := { s with ledger := Map.put (Ledger.dflt i j) s.ledger (i * 256 + j) v }

/-- One bit of an entry. -/
def rdBit (s : State) (i j n : Nat) : Bool := bitOf (s.rd i j) n

/-- The state with one bit of an entry set to `b`. -/
def wrBit (s : State) (i j n : Nat) (b : Bool) : State := s.wr i j (setBit (s.rd i j) n b)

/-- A field of an entry. -/
def rdField (s : State) (i j lsb w : Nat) : Nat := field (s.rd i j) lsb w

/-- The state with a field of an entry replaced. -/
def wrField (s : State) (i j lsb w v : Nat) : State := s.wr i j (setField (s.rd i j) lsb w v)

/-- A counter entry advanced by one; it stops at the largest U32 (R53, R101, R488). -/
def inc (s : State) (i j : Nat) : State := s.wr i j (satAdd u32max (s.rd i j) 1)

/-- A counter entry advanced by `d`, stopping at `top`. -/
def incBy (s : State) (i j top d : Nat) : State := s.wr i j (satAdd top (s.rd i j) d)

/-- Every entry of a list of (index, sub-index) pairs set to 0. -/
def zero (s : State) (l : List (Nat × Nat)) : State := l.foldl (fun s p => s.wr p.1 p.2 0) s

/-! ### Records -/

/-- The record of a cell. -/
def cell (s : State) (n : Nat) : Cell := Map.get {} s.cells n

/-- The state with a cell's record changed. -/
def modCell (s : State) (n : Nat) (f : Cell → Cell) : State := { s with cells := Map.modify {} s.cells n f }

/-- The state with the records of several cells changed. -/
def modCells (s : State) (l : List Nat) (f : Cell → Cell) : State := l.foldl (fun s n => s.modCell n f) s

/-- The record of a bank. -/
def bank (s : State) (b : Nat) : Bank := Map.get {} s.banks b

/-- The state with a bank's record changed. -/
def modBank (s : State) (b : Nat) (f : Bank → Bank) : State := { s with banks := Map.modify {} s.banks b f }

/-- The record of a gang. -/
def gang (s : State) (g : Nat) : Gang := Map.get {} s.gangs g

/-- The state with a gang's record changed. -/
def modGang (s : State) (g : Nat) (f : Gang → Gang) : State := { s with gangs := Map.modify {} s.gangs g f }

/-- The record of an Audit source. -/
def source (s : State) (id : Nat) : Source := Map.get {} s.sources id

/-- The state with an Audit source's record changed. -/
def modSource (s : State) (id : Nat) (f : Source → Source) : State :=
  { s with sources := Map.modify {} s.sources id f }

/-- The record of a session. -/
def session (s : State) (k : Nat) : Session := Map.get {} s.sessions k

/-- The state with a session's record changed. -/
def modSession (s : State) (k : Nat) (f : Session → Session) : State :=
  { s with sessions := Map.modify {} s.sessions k f }

/-- The Teller's record changed. -/
def modTeller (s : State) (f : Teller → Teller) : State := { s with teller := f s.teller }

/-! ### Time -/

/-- Whether a duration of `w` ticks that began at tick `t` has elapsed. -/
def elapsed (s : State) (t w : Nat) : Bool := decide (t + w ≤ s.ticks)

/-! ### Functions -/

/-- FunctionState of a function (R45): 0 Unconfigured, 1 Configure, 2 Active, 3 Isolated, 4 Safe. -/
def fn (s : State) (f : Fn) : Nat := s.rd f.group 1

/-- The state with a FunctionState set. -/
def setFn (s : State) (f : Fn) (v : Nat) : State := s.wr f.group 1 v

/-- A function is Active. -/
def active (s : State) (f : Fn) : Bool := s.fn f = 2

/-- LastRefusal of a function: the entry and the status of its latest refused FunctionState write (R45). -/
def setRefusal (s : State) (f : Fn) (i j : Nat) (st : Status) : State :=
  s.wr f.group 2 (i + j * 65536 + st.code * 2 ^ 24)

/-! ### What leaves the module -/

/-- The state with one more item sent. -/
def send (s : State) (x : Sent) : State := { s with out := x :: s.out }

/-- A fresh draw of the module's random source. -/
def draw (s : State) : Nat × State := (Config.random s.rng, { s with rng := s.rng + 1 })

/-- A fresh value the manual leaves open. -/
def open_ (s : State) : Nat × State := (Config.free s.free, { s with free := s.free + 1 })

/-! ### The outcome of a command -/

/-- A command touches neither the queue of waiting commands nor the count of ticks, and module time never decreases
(R69). DEDUCED: notes/assumptions/13.md. -/
def keep (s t : State) : State := { t with pending := s.pending, now := max s.now t.now, ticks := s.ticks }

end State

end Sys2Proof.Machine
end

