-- ==== Sys2Proof/Machine/Audit.lean ====
section
/-! DEFINITION. The Audit unit's counting: occurrences, windows, severity, escalation and grace (R461 to R472,
Tables 17-1, 17-2, 17-4). The reactions that a grace window ends in are in Functions.lean. -/

namespace Sys2Proof.Machine

/-- Where the Isolate and Safe reactions of a source act, and among which sources it escalates (R462, Table 17-1). -/
inductive Target
  | channel (n : Nat)
  | fn (f : Fn)
  | module
  deriving DecidableEq, Repr

/-- The target of a source (Table 17-1). -/
def Audit.target (id : Nat) : Target :=
  if id < 0x1000 then .channel (id / 8)
  else if id < 0x1100 then .fn ⟨1, (id - 0x1000) / 16⟩
  else if id < 0x1200 then .fn ⟨0x0B, 0⟩
  else if id < 0x1300 then .fn ⟨2, (id - 0x1200) / 4⟩
  else if id < 0x1400 then .fn ⟨3, (id - 0x1300) / 4⟩
  else if id < 0x1480 then .fn ⟨5, id - 0x1400⟩
  else if id < 0x1500 then .fn ⟨4, (id - 0x1480) / 4⟩
  else if id < 0x1560 then .fn ⟨9, (id - 0x1500) / 8⟩
  else if id < 0x1600 then .module
  else if id < 0x1680 then .fn ⟨6, (id - 0x1600) / 8⟩
  else if id < 0x16C0 then .fn ⟨7, (id - 0x1680) / 8⟩
  else if id < 0x1700 then .fn ⟨8, (id - 0x16C0) / 4⟩
  else if id < 0x1800 then .module
  else if id < 0x1900 then .fn ⟨0x0A, 0⟩
  else if id < 0x1910 then .module
  else if id < 0x1920 then .fn ⟨1, id - 0x1910⟩
  else if id < 0x1930 then .fn ⟨1, id - 0x1920⟩
  else if 0x1980 ≤ id ∧ id < 0x1A00 then .fn ⟨0x0C, id - 0x1980⟩
  else .module

/-- The source IDs of a function's domain, ascending. -/
def Audit.sourcesOf (f : Fn) : List Nat :=
  let run (a n : Nat) := (List.range n).map (a + ·)
  match f.cls with
  | 1 => run (0x1000 + f.inst * 16) 16 ++ [0x1910 + f.inst, 0x1920 + f.inst]
  | 2 => run (0x1200 + f.inst * 4) 4
  | 3 => run (0x1300 + f.inst * 4) 4
  | 4 => run (0x1480 + f.inst * 4) 4
  | 5 => [0x1400 + f.inst]
  | 6 => run (0x1600 + f.inst * 8) 8
  | 7 => run (0x1680 + f.inst * 8) 8
  | 8 => run (0x16C0 + f.inst * 4) 4
  | 9 => run (0x1500 + f.inst * 8) 8
  | 0x0A => run 0x1800 256
  | 0x0B => run 0x1100 256
  | _ => [0x1980 + f.inst]

/-- The grace time of a class in ms (R469, Table 17-4). -/
def Audit.grace (s : State) (cls : Nat) : Nat := s.rd 0x7400 cls

/-- Threshold N of a source (Table 17-6). -/
def Audit.threshold (s : State) (id : Nat) : Nat := s.rdField (0x8000 + id) 2 2 8

/-- SourceWindow of a source in ticks (R464). -/
def Audit.window (s : State) (id : Nat) : Nat := s.rd (0x8000 + id) 3 * 1000

/-- R471: a source of the domain stands Unacknowledged with applied class `c` when `id` is taken. Those that become Severe
at this tick are taken in ascending order: from `id` on, each still counts as it was before, re-armed (R473) or not. -/
def Audit.escalates (s : State) (id c : Nat) : Bool :=
  s.sources.any fun p => decide (Audit.target p.1 = Audit.target id) &&
    if p.2.severeAt = some s.ticks ∧ id ≤ p.1 then decide (p.2.prior = some c) else p.2.unack && decide (p.2.applied = c)

/-- R469, R471: the class that a source severed at this tick applies, its own or the next one, and its grace window. -/
def Audit.judge (id : Nat) (s : State) : State :=
  let r := s.source id
  let c := r.applied - b01 r.escalated
  let e := decide (c < 3) && Audit.escalates s id c
  let a := c + b01 e
  let s := if e && !r.escalated then s.inc 0x7400 9 else s
  s.modSource id fun r => { r with
    escalated := e, applied := a, graceEnd := if a = 0 then none else some (s.ticks + Audit.grace s a * 1000) }

/-- The sources of a domain that became Severe at this tick, from `id` on, and wait for their reaction. -/
def Audit.sameTick (s : State) (id : Nat) : List Nat :=
  (s.sources.filter fun p => decide (id ≤ p.1 ∧ p.2.severeAt = some s.ticks ∧ Audit.target p.1 = Audit.target id)
    && p.2.unack && !p.2.reacted).map (·.1)

/-- A source becomes Severe: its class is fixed, escalated where R471 asks, and its grace window opens (R469). Sources of its
domain that became Severe earlier in this tick and have a higher ID are judged again after it. -/
def Audit.sever (id : Nat) (s : State) : State :=
  let c := s.rdField (0x8000 + id) 2 0 2
  let s := s.modSource id fun r => { r with
    severe := true, unack := true, escalated := false, applied := c, windowAt := none, count := 0, reacted := false,
    severeAt := some s.ticks, prior := if r.unack then some r.applied else none }
  (Audit.sameTick s id).foldl (fun s k => Audit.judge k s) s

/-- The window count of a source that is not Severe (R464). DESIGN CHOICE: notes/assumptions/175.md. -/
def Audit.count (id : Nat) (s : State) : State :=
  let r := s.source id
  let n := match r.windowAt with
    | some t => if s.ticks < t + Audit.window s id then r.count + 1 else 1
    | none => 1
  let t := if n = 1 then s.ticks else r.windowAt.getD s.ticks
  if Audit.threshold s id ≤ n then Audit.sever id s
  else s.modSource id fun r => { r with windowAt := some t, count := n }

/-- ReportingProfile BankSupply silences the channel sources of a bank (R289). -/
def Audit.silenced (s : State) (id : Nat) : Bool := decide (id < 0x1000) && decide (s.rd 0x4E80 (0x21 + id / 256) = 1)

/-- One occurrence of a source reaches the Audit (R463): at most one per tick is counted. A reserved ID counts
nothing. -/
def Audit.raise (id : Nat) (s : State) : State :=
  if (sourceClass id).isNone ∨ (s.source id).lastAt = some s.ticks ∨ Audit.silenced s id then s
  else
    let s := (s.inc (0x8000 + id) 4).modSource id fun r => { r with sticky := true, lastAt := some s.ticks }
    if (s.source id).severe then s else Audit.count id s

/-- An occurrence where a condition has begun. -/
def Audit.raiseIf (c : Bool) (id : Nat) (s : State) : State := if c then Audit.raise id s else s

/-- The class-C sources that read Severe, as SevereSources counts them. -/
def Audit.severeCount (s : State) : Nat := s.sources.countP (·.2.severe)

/-- UnacknowledgedSources. -/
def Audit.unackCount (s : State) : Nat := s.sources.countP (·.2.unack)

/-- The lowest-numbered source of a function's domain whose Sticky bit is set (R47). -/
def Audit.stickyOf (s : State) (f : Fn) : Option Nat := (Audit.sourcesOf f).find? fun id => (s.source id).sticky

/-- R473: a per-function reset re-arms the sources of its function's domain. -/
def Audit.rearm (f : Fn) (s : State) : State :=
  (Audit.sourcesOf f).foldl (fun s id => s.modSource id fun r => { r with
    severe := false, graceEnd := none, escalated := false, windowAt := none, count := 0, severeAt := none }) s

end Sys2Proof.Machine
end

