-- ==== Sys2Proof/Machine/Structures.lean ====
section
/-! DEFINITION. Which cells belong together: gangs, H-bridges and coil groups (R55, R124 to R132, R168 to R170, R177), and
what a channel's configuration says. -/

namespace Sys2Proof.Machine

/-- Every index and raw value listed in the ledger in sub-index `j` of indices `lo` to `hi`, ascending. -/
def State.listed (s : State) (lo hi j : Nat) : List (Nat × Nat) :=
  s.ledger.filterMap fun p => if lo ≤ p.1 / 256 ∧ p.1 / 256 ≤ hi ∧ p.1 % 256 = j then some (p.1 / 256, p.2) else none

/-! ### Gangs -/

/-- A gang's declared members, bank positions ascending (Table 06-2). A declaration that runs past position 31 names no cell
there; the bank does not become Active with it (R169). -/
def GangConfig.members (v : Nat) : List Nat :=
  ((List.range (field v 9 4)).map fun i => field v 4 5 + i).filter (· < 32)

/-- A gang's reserve position (Table 06-2); none where the field reads 0 or points outside positions 0 to 31. -/
def GangConfig.reserve (v : Nat) : Option Nat :=
  match field v 13 2 with
  | 1 => if field v 4 5 = 0 then none else some (field v 4 5 - 1)
  | 2 => if field v 4 5 + field v 9 4 < 32 then some (field v 4 5 + field v 9 4) else none
  | _ => none

/-- Every channel that a GangConfig value declares, members first; none with Enable 0 (R168). -/
def GangConfig.cells (v : Nat) : List Nat :=
  if bitOf v 15 then (GangConfig.members v ++ (GangConfig.reserve v).toList).map (field v 0 4 * 32 + ·) else []

/-- The enabled gangs as (gang, GangConfig). -/
def State.gangList (s : State) : List (Nat × Nat) :=
  ((s.listed 0x4800 0x483F 1).map fun p => (p.1 - 0x4800, p.2)).filter fun p => bitOf p.2 15

/-- The enabled gang a channel belongs to, as member or reserve. -/
def State.gangOf (s : State) (n : Nat) : Option (Nat × Nat) :=
  s.gangList.find? fun p => (GangConfig.cells p.2).contains n

/-- The lowest declared member of a gang, as a channel. -/
def GangConfig.lowest (v : Nat) : Nat := field v 0 4 * 32 + field v 4 5

/-- The channels of a gang that switch, positions ascending: declared members not isolated, and the reserve once it is in use
(R170). -/
def State.activeMembers (s : State) (g v : Nat) : List Nat :=
  let r := s.gang g
  let reserve := if r.reserveIn then (GangConfig.reserve v).toList else []
  let ms := if field v 13 2 = 1 then reserve ++ GangConfig.members v else GangConfig.members v ++ reserve
  (ms.filter fun p => !r.isolated.contains p).map (field v 0 4 * 32 + ·)

/-- The channel through which a channel's unit is commanded: the lowest declared member of its gang, or itself. -/
def State.head (s : State) (n : Nat) : Nat := (s.gangOf n).elim n fun p => GangConfig.lowest p.2

/-- The channels that switch under the command of channel `n`: its gang's active members, or itself (R170). -/
def State.unit (s : State) (n : Nat) : List Nat := (s.gangOf n).elim [n] fun p => s.activeMembers p.1 p.2

/-- The lowest channel that switches under the command of channel `n`: the lowest active member of its gang, or itself
(R172). -/
def State.lead (s : State) (n : Nat) : Nat := (s.unit n).headD n

/-- The channels that keep the command and the protection state of the unit of `n`: those that switch, and the lowest declared
member, through which the gang is commanded and read also while it is isolated (R170, R171). -/
def State.crew (s : State) (n : Nat) : List Nat :=
  let h := s.head n
  if (s.unit n).contains h then s.unit n else h :: s.unit n

/-- Every channel of the gang of `n`, isolated ones and the reserve included, or itself. -/
def State.unitAll (s : State) (n : Nat) : List Nat := (s.gangOf n).elim [n] fun p => GangConfig.cells p.2

/-! ### H-bridges and coil groups -/

/-- The enabled H-bridges of a bank as (LegA, LegB, DeadTime), channels (Table 04-11). -/
def State.bridges (s : State) (b : Nat) : List (Nat × Nat × Nat) :=
  (List.range 16).filterMap fun k =>
    let v := s.rd (0x4900 + b) (0x10 + k)
    if bitOf v 24 then some (b * 32 + field v 0 5, b * 32 + field v 8 5, field v 16 5) else none

/-- The enabled returns of a CoilGroup value, bank positions (Table 04-12). -/
def CoilGroup.returns (v : Nat) : List Nat :=
  [(8, 13), (14, 19), (20, 25), (26, 31)].filterMap fun p => if bitOf v p.2 then some (field v p.1 5) else none

/-- The enabled coil groups of a bank as (supply, returns), channels. -/
def State.coilGroups (s : State) (b : Nat) : List (Nat × List Nat) :=
  (List.range 8).filterMap fun k =>
    let v := s.rd (0x4900 + b) (0x20 + k)
    if bitOf v 5 then some (b * 32 + field v 0 5, (CoilGroup.returns v).map (b * 32 + ·)) else none

/-- The cells that a value of HBridge or CoilGroup of a bank declares, a gang with all its members and its reserve; none with
Enable 0 (R124). -/
def State.declared (s : State) (b j v : Nat) : List Nat :=
  let l :=
    if 0x10 ≤ j ∧ j < 0x20 then (if bitOf v 24 then [field v 0 5, field v 8 5] else [])
    else if 0x20 ≤ j ∧ j < 0x28 then (if bitOf v 5 then field v 0 5 :: CoilGroup.returns v else [])
    else []
  l.flatMap fun p => s.unitAll (b * 32 + p)

/-- The H-bridge a channel is a leg of, its gang counted. -/
def State.bridgeOf (s : State) (n : Nat) : Option (Nat × Nat × Nat) :=
  let h := s.head n
  (s.bridges (n / 32)).find? fun p => p.1 = h ∨ p.2.1 = h

/-- The coil group a channel is part of, its gang counted. -/
def State.coilGroupOf (s : State) (n : Nat) : Option (Nat × List Nat) :=
  let h := s.head n
  (s.coilGroups (n / 32)).find? fun p => p.1 = h ∨ p.2.contains h

/-- The cells that change owner together with channel `n` (R55). -/
def State.structure_ (s : State) (n : Nat) : List Nat :=
  match s.bridgeOf n, s.coilGroupOf n with
  | some (a, b, _), _ => s.unitAll a ++ s.unitAll b
  | none, some (p, rs) => s.unitAll p ++ rs
  | none, none => s.unitAll n

/-- The code that names a channel's structure to the Teller (Table 07-2). DESIGN CHOICE: notes/assumptions/53.md. -/
def State.requester (s : State) (n : Nat) : Nat :=
  match s.bridgeOf n with
  | some (a, _, _) => a
  | none => s.head n

/-- The heads whose outputs a requester's loan covers: both legs of a bridge, or the unit alone. -/
def State.loanHeads (s : State) (r : Nat) : List Nat :=
  match s.bridgeOf r with
  | some (a, b, _) => [a, b]
  | none => [r]

/-- Every channel that shares the protection state of `n`: its gang, and both legs of a bridge (R149, R171). -/
def State.shared (s : State) (n : Nat) : List Nat := (s.loanHeads (s.requester n)).flatMap s.crew

/-- CellStatus Structure of a channel (Table 04-7, R170). -/
def State.structureCode (s : State) (n : Nat) : Nat :=
  let active := (s.unit n).contains n
  match s.bridgeOf n, s.coilGroupOf n, s.gangOf n with
  | some _, _, none => 3
  | some _, _, some _ => if active then 3 else if GangConfig.members ((s.gangOf n).elim 0 (·.2)) |>.contains (n % 32) then 1 else 2
  | none, some (p, _), none => if p = n then 4 else 5
  | none, some _, some _ => if active then 4 else if GangConfig.members ((s.gangOf n).elim 0 (·.2)) |>.contains (n % 32) then 1 else 2
  | none, none, some (_, v) => if (GangConfig.members v).contains (n % 32) then 1 else if active then 1 else 2
  | none, none, none => 0

/-! ### A channel's configuration (Table 04-4, Table 05-1, Table 06-4) -/

namespace Chan

/-- CellOwner (Table 02-10). -/
def owner (s : State) (n : Nat) : Nat := s.rd (0x4000 + n) 1
/-- CellMode (Table 04-1). -/
def mode (s : State) (n : Nat) : Nat := s.rd (0x4000 + n) 2
/-- CellCommand, the committed command (Table 04-2). -/
def command (s : State) (n : Nat) : Nat := s.rd (0x4000 + n) 3
/-- PwmDuty. -/
def duty (s : State) (n : Nat) : Nat := s.rd (0x4000 + n) 4
/-- LoadClass (Table 04-3). -/
def loadClass (s : State) (n : Nat) : Nat := s.rd (0x4000 + n) 5
/-- SafeCommand. -/
def safeCommand (s : State) (n : Nat) : Nat := s.rd (0x4000 + n) 6
/-- CurrentLimit in mA. -/
def currentLimit (s : State) (n : Nat) : Nat := s.rd (0x4000 + n) 0x10
/-- InrushLimit in mA, CurrentLimit where it reads 0. -/
def inrushLimit (s : State) (n : Nat) : Nat :=
  if s.rd (0x4000 + n) 0x1B = 0 then currentLimit s n else s.rd (0x4000 + n) 0x1B
/-- PwmPeriod in µs. -/
def pwmPeriod (s : State) (n : Nat) : Nat := s.rd (0x4000 + n) 0x18
/-- SoftStartTime in µs. -/
def softStart (s : State) (n : Nat) : Nat := s.rd (0x4000 + n) 0x1D * 1000
/-- SoftStartTime + InrushTime in ticks (R183). -/
def window (s : State) (n : Nat) : Nat := (s.rd (0x4000 + n) 0x1D + s.rd (0x4000 + n) 0x1C) * 1000
/-- The bank of a channel (R7). -/
def bank (n : Nat) : Nat := n / 32

/-- A command code that a mode permits (Table 04-2). -/
def permits (mode cmd : Nat) : Bool :=
  match mode with
  | 1 => [0, 1, 3, 4, 5].contains cmd
  | 2 => [0, 2, 3, 4, 5].contains cmd
  | 3 => [0, 1, 2, 3, 4, 5].contains cmd
  | _ => [0, 5].contains cmd

/-- A command that conducts: ON_HS, ON_LS or PWM. -/
def conducts (cmd : Nat) : Bool := cmd = 1 ∨ cmd = 2 ∨ cmd = 3

/-- A load class whose turn-on is heavy (Table 04-3). -/
def heavy (cls : Nat) : Bool := cls = 1 ∨ cls = 2 ∨ cls = 3

/-- A lamp (Table 04-3). -/
def lamp (cls : Nat) : Bool := cls = 1 ∨ cls = 2

end Chan

/-- The phase offset φ of a channel in µs: PwmPhase, or the one its bank assigned (R179, R181). -/
def Chan.phase (s : State) (n : Nat) : Nat :=
  let h := s.head n
  if s.rdBit (0x4000 + h) 0x1A 2 then ((s.bank (h / 32)).phases.find? (·.1 = h % 32)).elim 0 (·.2)
  else s.rd (0x4000 + h) 0x19 * Chan.pwmPeriod s h / 65536

/-- The dead time of a cell in ns (R104). -/
def Chan.deadTime (s : State) (n : Nat) : Nat := (s.bridgeOf n).elim 500 fun p => p.2.2 * 100

/-- The ns that remain until the next period start of a channel, 0 at the start itself (R179). -/
def Chan.toStart (s : State) (n : Nat) : Nat :=
  let p := Chan.pwmPeriod s (s.head n) * 1000
  (p + Chan.phase s n * 1000 % p - s.now % p) % p

/-- The time of a bank's timestamp counter: module time with its alignment error (R127). -/
def State.stamp (s : State) (b : Nat) : Nat := ((s.now : Int) + signed 32 (s.rd (0x4900 + b) 0x0A)).toNat

/-- 12 V or 24 V boardnet: BoardnetMode reads 1 for 24 V. -/
def State.volt24 (s : State) : Bool := s.rd 0x1300 5 = 1

end Sys2Proof.Machine
end

