-- ==== Sys2Proof/Machine/Teller.lean ====
section
/-! DEFINITION. The Teller: requests, the queue in its total order, budgets, the scan, grants and ends of loans (chapter 07,
R189 to R216). What a grant or a decline does to the client is in Clients.lean. -/

namespace Sys2Proof.Machine

namespace Teller

/-! ### Loans and the queue -/

/-- The loans in flight, by slot. -/
def inFlight (t : Teller) : List Loan := t.loans.filterMap (·.2)

/-- The loan of a requester in flight. -/
def loanOf (t : Teller) (r : Nat) : Option Loan := (inFlight t).find? (·.requester = r)

/-- The queued request of a requester. -/
def requestOf (t : Teller) (r : Nat) : Option Loan := t.queue.find? (·.requester = r)

/-- The total order of R201: priority, then receipt tick, then Ledger commits in commit order before requester codes. -/
def before (a b : Loan) : Bool :=
  if a.priority ≠ b.priority then a.priority < b.priority
  else if a.arrival ≠ b.arrival then a.arrival < b.arrival
  else if a.rank ≠ b.rank then a.rank < b.rank
  else a.seq < b.seq

/-- Insertion into the queue in its total order. -/
def insert (a : Loan) : List Loan → List Loan
  | [] => [a]
  | b :: r => if before a b then a :: b :: r else b :: insert a r

/-- The tick at which a loan ends (R189). -/
def Loan.endTick (l : Loan) : Nat := l.grantTick + l.duration

/-- The lowest free slot (R214). -/
def freeSlot (t : Teller) : Option Nat := (List.range 128).find? fun k => (Map.get none t.loans k).isNone

/-! ### Currents and projections -/

/-- The values, newest first, that belong to the sample sets taken in [now − 1 ms, now) (R194). -/
def lastMs {α : Type} (s : State) (l : List α) : List α :=
  let t := s.teller.sampleAt
  (l.drop (t.filter fun a => decide (s.ticks ≤ a)).length).take
    (t.filter fun a => decide (a < s.ticks ∧ s.ticks ≤ a + 1000)).length

/-- The mean of a cell's current samples of the last 1 ms, in mA (R194). -/
def meanMa (s : State) (n : Nat) : Int :=
  let l := lastMs s (s.cell n).curs
  if l.isEmpty then 0 else l.sum * 625 / (100 * (l.length : Int))

/-- The channels that a loan covers: the reserve cell alone during a takeover, otherwise the unit that its requester names, both
legs for a bridge (Table 07-2). -/
def covers (s : State) (l : Loan) : List Nat :=
  if 512 ≤ l.requester then []
  else if l.kind = 4 then [l.requester]
  else (s.loanHeads l.requester).flatMap s.unit

/-- The channels whose cells belong to a loan in flight (R194). -/
def loaned (s : State) : List Nat := (inFlight s.teller).flatMap (covers s)

/-- The positive and the negative sum of the free currents of a bank, in mA (R194). -/
def freeSums (s : State) (b : Nat) : Nat × Nat :=
  let l := loaned s
  (List.range 32).foldl (fun a p =>
    let n := b * 32 + p
    if l.contains n then a
    else
      let i := meanMa s n
      if 0 ≤ i then (a.1 + i.toNat, a.2) else (a.1, a.2 + (-i).toNat)) (0, 0)

/-- I_free of a bank: the larger of the two sums (R194). DESIGN CHOICE: notes/assumptions/50.md. -/
def iFree (s : State) (b : Nat) : Nat := max (freeSums s b).1 (freeSums s b).2

/-- I_proj of a bank at tick `t` (R194). -/
def iProj (s : State) (b t : Nat) : Nat :=
  iFree s b + ((inFlight s.teller).map fun l => if l.budget = b ∧ t < Loan.endTick l then l.amount else 0).sum

/-- Insertion into a rising list of ticks. -/
def insertTick (a : Nat) : List Nat → List Nat
  | [] => [a]
  | b :: r => if a ≤ b then a :: b :: r else b :: insertTick a r

/-- The time from now on during which I′(t) exceeds 32 A, none where it never ends (R195). -/
def futureExcess (s : State) (b amount duration : Nat) : Option Nat :=
  let ends := (inFlight s.teller).filterMap fun l =>
    if l.budget = b ∧ s.ticks < Loan.endTick l then some (Loan.endTick l) else none
  let marks := ends.foldr insertTick [s.ticks + duration]
  let exceeds (t : Nat) : Bool := 32000 < iProj s b t + (if t < s.ticks + duration then amount else 0)
  let (last, total) := marks.foldl (fun (p, acc) m => (m, if exceeds p then acc + (m - p) else acc)) (s.ticks, 0)
  if exceeds last then none else some total

/-- ExcessUsed of a bank: ticks of the last 100 ms at which its projection exceeded 32 A (R195).
DESIGN CHOICE: notes/assumptions/66.md. -/
def excessUsed (s : State) (b : Nat) : Nat :=
  ((Map.get [] s.teller.excess b).map fun p =>
    min p.2 s.ticks - max p.1 (s.ticks - 100000)).sum

/-- The Allowances of a bank's loans that still count, in nW (R196). -/
def counted (s : State) (b : Nat) : Nat :=
  ((inFlight s.teller).map fun l => if l.budget = b ∧ l.counted then l.allowance else 0).sum

/-- P_proj of a bank in nW (R196). -/
def pProj (s : State) (b : Nat) : Int := Map.get 0 s.teller.pf b + (counted s b : Nat)

/-- The module's projected dissipation in nW (R197). -/
def pModule (s : State) : Int := ((List.range 16).map (pProj s)).sum

/-- C(T) in units of 0.1 W, T in units of 0.1 °C (R197). -/
def derated (t : Int) : Nat :=
  if t ≤ 850 then 800 else if 1250 ≤ t then 0 else (800 - (t - 850) * 2).toNat

/-- The effective module ceiling in 0.1 W (R197). -/
def moduleCeiling (s : State) : Nat := min (s.rd 0x4A00 6) (derated (signed 16 (s.rd 0x4A00 9)))

/-- The mean logic current of the last 1 ms in mA (R198). -/
def logicMean (s : State) : Nat :=
  let l := lastMs s s.teller.logicMa
  if l.isEmpty then 0 else l.sum / l.length

/-- The projected battery current in mA (R198). -/
def battery (s : State) : Nat :=
  ((List.range 16).map fun b => (freeSums s b).1).sum + ((inFlight s.teller).map (·.amount)).sum + logicMean s

/-- The projected logic loans in mA (R199). -/
def logicLoans (s : State) : Nat := ((inFlight s.teller).map fun l => if l.budget = 16 then l.amount else 0).sum

/-! ### Checks -/

/-- The budgets of Table 07-3. -/
inductive Budget
  | supply (b : Nat) | excess (b : Nat) | dissipation (b : Nat) | module | battery | logic
  deriving DecidableEq, Repr

/-- The budgets a request is charged against (Table 07-3). -/
def budgets (l : Loan) : List Budget :=
  if l.budget = 16 then [.battery, .logic]
  else [.supply l.budget, .excess l.budget, .dissipation l.budget, .module, .battery]

/-- Whether a request fails the check of a budget (R194 to R199). -/
def lacks (s : State) (l : Loan) : Budget → Bool
  | .supply b => decide (s.rd 0x4A01 (1 + b) < iProj s b s.ticks + l.amount)
  | .excess b =>
    match futureExcess s b l.amount l.duration with
    | none => true
    | some 0 => false
    | some e => decide (s.rd 0x4A02 (1 + b) * 1000 < excessUsed s b + e)
  | .dissipation b => decide ((s.rd 0x4A03 (1 + b) * 1000000 : Nat) < pProj s b + (l.allowance : Nat) ∨
      1400 ≤ signed 16 (s.rd (0x4900 + b) 7))
  | .module => decide ((moduleCeiling s * 100000000 : Nat) < pModule s + (l.allowance : Nat))
  | .battery => decide (s.rd 0x4A00 5 * 1000 < battery s + l.amount)
  | .logic => decide (s.rd 0x4A00 7 < logicLoans s + l.amount)

/-- The failing budgets of a request (R202). -/
def lack (s : State) (l : Loan) : List Budget := (budgets l).filter (lacks s l)

/-- R200: a request that could not fit even with nothing else drawn. -/
def oversize (s : State) (l : Loan) : Bool :=
  if l.budget = 16 then decide (s.rd 0x4A00 7 < l.amount ∨ s.rd 0x4A00 5 * 1000 < l.amount)
  else decide (s.rd 0x4A01 (1 + l.budget) < l.amount ∨ s.rd 0x4A00 5 * 1000 < l.amount ∨
    s.rd 0x4A03 (1 + l.budget) * 1000000 < l.allowance ∨ s.rd 0x4A00 6 * 100000000 < l.allowance)

/-! ### Requests -/

/-- A request joins those whose clients must react to DECLINED. -/
def decline (l : Loan) (s : State) : State := s.modTeller fun t => { t with declined := t.declined ++ [l] }

/-- R205: a request enters the queue, or the full queue declines it or its last request. -/
def enqueue (l : Loan) (s : State) : State :=
  let q := s.teller.queue
  let s :=
    if q.length < 512 then s.modTeller fun t => { t with queue := insert l t.queue }
    else
      let s := Audit.raise 0x1101 s
      match q.getLast? with
      | some z =>
        if before l z then
          decline z ((s.inc 0x4A08 3).modTeller fun t => { t with queue := insert l t.queue.dropLast })
        else decline l s
      | none => s
  if s.rd 0x4A08 7 < s.teller.queue.length then s.wr 0x4A08 7 s.teller.queue.length else s

/-- R191 to R205: the Teller receives a request. `commit` says that a Ledger commit raised it. A second request of a
requester that holds a loan or a request is counted and refused with STATE (R192). -/
def request (l : Loan) (commit : Bool) (s : State) : State × Status :=
  let l := { l with
    arrival := s.ticks, receivedAt := s.now,
    rank := if commit then 0 else 1, seq := if commit then s.teller.seq else l.requester }
  let s := s.modTeller fun t => { t with seq := t.seq + 1 }
  if s.teller.resetting then (s.modTeller fun t => { t with held := t.held ++ [l] }, .ok)
  else if (loanOf s.teller l.requester).isSome ∨ (requestOf s.teller l.requester).isSome then
    (Audit.raise 0x1103 (s.inc 0x4A08 4), .state)
  else if oversize s l then (decline l (Audit.raise 0x1104 (s.inc 0x4A08 5)), .ok)
  else (enqueue l s, .ok)

/-- A request whose refusal with STATE (R192) reaches the requester as a decline. DESIGN CHOICE: notes/assumptions/147.md. -/
def ask (l : Loan) (commit : Bool) (s : State) : State :=
  let r := request l commit s
  if r.2 = .ok then r.1 else r.1.modTeller fun t => { t with declined := t.declined ++ [l] }

/-- R111, R189: a requester withdraws its queued request, which is neither declined nor counted (R204). -/
def withdraw (r : Nat) (s : State) : State :=
  s.modTeller fun t => { t with
    queue := t.queue.filter (·.requester ≠ r), held := t.held.filter (·.requester ≠ r) }

/-- R189: a loan ends. -/
def giveBack (r : Nat) (s : State) : State :=
  s.modTeller fun t => { t with loans := t.loans.filter fun p => p.2.elim true (·.requester ≠ r) }

/-- The priority and patience of a terms value (Table 07-8). -/
def terms (v : Nat) : Nat × Nat := (field v 0 3, field v 4 10)

/-- LoanTerms of a channel (R207, R212). -/
def loanTerms (s : State) (n : Nat) : Nat × Nat := terms (s.rd (0x4A0C + n / 128) (1 + n % 128))

/-- The milliohms in a channel's path, a gang's share divided among its active members, times 1,000 (R196). -/
def pathMilli (s : State) (n : Nat) (cmd : Nat) : Nat :=
  let low := Chan.mode s n = 2 ∨ (Chan.mode s n = 3 ∧ cmd = 2)
  (if low then 21000 else 28000) / max 1 (s.unit n).length

/-- The on-resistance in the path of a requester's loan, in mΩ × 1,000 (R196): an H-bridge has one switch of each
kind. -/
def resistance (s : State) (r : Nat) (cmd : Nat) : Nat :=
  match s.bridgeOf r with
  | some (a, b, _) =>
    let (h, l) := if Chan.command s a = 2 then (b, a) else (a, b)
    28000 / max 1 (s.unit h).length + 21000 / max 1 (s.unit l).length
  | none => pathMilli s r cmd

/-- A channel's loan request with its computed fields (R190, R196). -/
def channelLoan (s : State) (r kind amount duration priority patience ohms : Nat) : Loan :=
  { requester := r, kind := kind, budget := r / 32, amount := amount, allowance := amount * amount * ohms / 1000,
    duration := duration, priority := priority, patience := patience,
    arrival := s.ticks, rank := 1, seq := r, receivedAt := s.now }

/-- A logic-supply loan request (kinds 6 to 8, Table 07-4). -/
def logicLoan (s : State) (r kind amount duration termsValue : Nat) : Loan :=
  { requester := r, kind := kind, budget := 16, amount := amount, allowance := 0, duration := duration,
    priority := (terms termsValue).1, patience := (terms termsValue).2,
    arrival := s.ticks, rank := 1, seq := r, receivedAt := s.now }

/-! ### Observed values -/

/-- QueueRecord of a queued request (Table 07-10). -/
def record (s : State) (l : Loan) : Nat :=
  l.requester + l.priority * 2 ^ 16 + b01 l.skipped * 2 ^ 19 + l.kind * 2 ^ 20 + l.budget * 2 ^ 24
    + min l.amount 65535 * 2 ^ 32 + (l.arrival + l.patience * 1000 - s.ticks) / 1000 * 2 ^ 48

/-- R195: the present tick enters ExcessUsed of a bank where its projection, as it stands at the end of the tick, exceeds 32 A;
ticks older than 100 ms leave. -/
def noteExcess (s : State) (b : Nat) : State :=
  let l := (Map.get [] s.teller.excess b).filter fun p => decide (s.ticks < p.2 + 100000)
  let l := if 32000 < iProj s b s.ticks then
      match l with
      | (a, z) :: r => if z = s.ticks then (a, s.ticks + 1) :: r else (s.ticks, s.ticks + 1) :: (a, z) :: r
      | [] => [(s.ticks, s.ticks + 1)]
    else l
  s.modTeller fun t => { t with excess := Map.put [] t.excess b l }

/-- The tick ends: every bank's projection is noted (R195). -/
def noteTick (s : State) : State := (List.range 16).foldl noteExcess s

/-- R216: BANK_DISSIPATION, MODULE_CEILING and BATTERY_CAP each raise one occurrence as their condition begins. -/
def watch (s : State) : State :=
  let tooHot b := decide ((s.rd 0x4A03 (1 + b) * 1000000 : Nat) < pProj s b ∨ 1400 ≤ signed 16 (s.rd (0x4900 + b) 7))
  let hot := (List.range 16).filter tooHot
  let s := hot.foldl (fun s b => Audit.raiseIf (!s.teller.banksOver.contains b) (0x1110 + b) s) s
  let m := decide ((moduleCeiling s * 100000000 : Nat) < pModule s)
  let s := Audit.raiseIf (m && !s.teller.moduleOver) 0x1105 s
  let c := decide (s.rd 0x4A00 5 * 1000 < battery s)
  let s := Audit.raiseIf (c && !s.teller.batteryOver) 0x1106 s
  s.modTeller fun t => { t with banksOver := hot, moduleOver := m, batteryOver := c }

/-! ### The scan (R202) -/

/-- R204: the requests whose patience has run out are declined before any grant of the tick. -/
def expire (s : State) : State :=
  let late := s.teller.queue.filter fun l => s.elapsed l.arrival (l.patience * 1000)
  late.foldl (fun s l =>
    decline l (Audit.raise 0x1100 ((s.modTeller fun t => { t with queue := t.queue.filter (·.requester ≠ l.requester) }).inc
      0x4A08 2))) s

/-- A request is granted into the lowest free slot (R202, R214). -/
def grant (l : Loan) (slot : Nat) (s : State) : State :=
  let s := s.modTeller fun t => { t with
    queue := t.queue.filter (·.requester ≠ l.requester),
    loans := Map.put none t.loans slot (some { l with
      grantTick := s.ticks, grantTime := s.now, counted := decide (l.budget < 16), skipped := false }) }
  let s := s.inc 0x4A08 1
  if s.rd 0x4A08 8 < s.ticks - l.arrival then s.wr 0x4A08 8 (s.ticks - l.arrival) else s

/-- What the scan has done so far: the state, the blocked budgets and the granted loans. -/
structure Scan where
  state : State
  blocked : List Budget := []
  /-- budgets that requests lack behind the 128th loan, where the scan has ended -/
  beyond : List Budget := []
  granted : List Loan := []

/-- A queued request replaced by its updated record. -/
def update (l : Loan) (s : State) : State :=
  s.modTeller fun t => { t with queue := t.queue.map fun x => if x.requester = l.requester then l else x }

/-- One request of the scan: skipped where its budgets are blocked, granted where every budget fits and a slot is free,
otherwise it blocks the budgets it lacks (R202, R203). With 128 loans in flight none is granted; what the request would meet
decides its Skipped (R215) and TABLE_FULL. -/
def consider (x : Scan) (l : Loan) : Scan :=
  let s := x.state
  if (inFlight s.teller).length = 128 then
    let fs := lack s l
    let shut := (budgets l).any (x.blocked ++ x.beyond).contains
    let sk := shut || !fs.isEmpty
    let s := update { l with toldFull := l.toldFull || !sk, skipped := sk } s
    { x with
      state := if sk || l.toldFull then s else Audit.raise 0x1102 (s.inc 0x4A08 6),
      beyond := if shut then x.beyond else x.beyond ++ fs }
  else if (budgets l).any x.blocked.contains then { x with state := update { l with skipped := true } s }
  else
    match lack s l, freeSlot s.teller with
    | [], some slot => { x with state := grant l slot s, granted := x.granted ++ [l] }
    | fs, _ =>
      let e := fs.any fun b => b = .excess l.budget
      let g := fs.any fun b => b = .logic
      let s := Audit.raiseIf (e && !l.toldExcess) (0x1120 + l.budget) s
      let s := Audit.raiseIf (g && !l.toldLogic) 0x1107 s
      { x with
        state := update { l with skipped := true, toldExcess := l.toldExcess || e, toldLogic := l.toldLogic || g } s,
        blocked := x.blocked ++ fs }

/-- Step 2 of the scan over the queue in its total order. -/
def grants (s : State) : Scan :=
  let x := s.teller.queue.foldl consider { state := s }
  { x with state := x.state.modTeller fun t => { t with
      batteryBlocked := x.blocked.contains .battery, moduleBlocked := x.blocked.contains .module,
      logicBlocked := x.blocked.contains .logic } }

/-- The whole scan of a tick: patience, then grants while the Teller is Active (R202, R209). The granted loans are returned so
that their clients begin. -/
def scan (s : State) : Scan :=
  let s := expire (watch s)
  if s.active ⟨0x0B, 0⟩ ∧ !s.teller.resetting then grants s else { state := s }

end Teller

end Sys2Proof.Machine
end

