-- ==== Sys2Proof/Machine/Cells.lean ====
section
/-! DEFINITION. How a command reaches a cell: acceptance at its commit, the loan of a heavy turn-on, the bank's command
slot, and what CellStatus shows (R104 to R116, R129, R133 to R135, R170, R177). -/

namespace Sys2Proof.Machine

namespace Cells

/-! ### What the pin shows -/

/-- The output is on: an ON command, or PWM in either phase. -/
def conducting (c : Cell) : Bool := Chan.conducts c.drive

/-- The commanded switch conducts: an ON command, or the on-phase of PWM. Off-phases count neither as conduction nor as Limiting,
and give no qualifying samples (R142, R560). -/
def onNow (c : Cell) : Bool := c.drive = 1 ∨ c.drive = 2 ∨ (c.drive = 3 ∧ c.onPhase)

/-- The switch that a drive asks for in a mode: 1 high side, 2 low side, 0 none (Tables 04-1, 04-2). A HalfBridge cell under PWM
switches nothing before its first period start (R182). -/
def target (mode : Nat) (c : Cell) : Nat :=
  if c.drive = 1 ∨ c.drive = 2 then c.drive
  else if c.drive = 3 then
    if c.onPhase then (if mode = 2 ∨ c.lowSide then 2 else 1) else if mode = 3 ∧ !c.fresh then 2 else 0
  else 0

/-- The switch that conducts at this instant, 0 none. Both are off for the dead time after the other one opened, and a HalfBridge
off-phase ends one dead time before the next period start (R104, R180). -/
def side (s : State) (n : Nat) : Nat :=
  let c := s.cell n
  let t := target (Chan.mode s n) c
  if t ≠ c.opened ∧ c.opened ≠ 0 ∧ s.now < c.openedAt + Chan.deadTime s n then 0
  else if c.drive = 3 ∧ !c.onPhase ∧ 0 < Chan.toStart s n ∧ Chan.toStart s n < Chan.deadTime s n then 0
  else t

/-- A switch conducts at this instant; `hs` asks for the high side. -/
def switchOn (s : State) (n : Nat) (hs : Bool) : Bool := side s n = if hs then 1 else 2

/-- The running times of a cell brought up to tick `t` (R142, R146): 10 ms of conduction without Limiting return the accumulated
Limiting to zero. -/
def tally (t : Nat) (c : Cell) : Cell :=
  let d := if onNow c then t - c.limFrom else 0
  let clear := if c.prot = 1 then c.clearAcc else c.clearAcc + d
  { c with
    limFrom := t, clearAcc := clear, runAcc := c.runAcc + d,
    limAcc := if c.prot = 1 ∧ c.winTo = 0 then c.limAcc + d else if 10000 ≤ clear then 0 else c.limAcc }

/-- AppliedCommand: the command code the cell executes, OFF where protection keeps it off (R559, Table 04-7). -/
def applied (c : Cell) : Nat :=
  if 2 ≤ c.prot then 0 else if c.frozen then 4 else if c.soft then c.want else c.drive

/-- ProtectionState of a cell as it reads (R143, R171). -/
def protection (s : State) (n : Nat) : Nat := (s.cell n).prot

/-- CellStatus (Table 04-7). -/
def status (s : State) (n : Nat) : Nat :=
  let c := s.cell n
  let o := Chan.owner s n
  applied c + b01 c.loanPending * 2 ^ 3 + b01 c.loanDeclined * 2 ^ 4 + b01 c.hsOn * 2 ^ 5 + b01 c.lsOn * 2 ^ 6
    + b01 (c.prot = 1) * 2 ^ 7 + b01 c.thermalOff * 2 ^ 8 + b01 (c.prot = 4) * 2 ^ 9 + b01 c.inputLevel * 2 ^ 10
    + b01 (o = 0xF000) * 2 ^ 11 + b01 (o = 0xF100) * 2 ^ 12 + b01 c.proven * 2 ^ 13
    + b01 ((s.bank (n / 32)).supplyOff || decide ((s.bank (n / 32)).supplyMv < 4500)) * 2 ^ 14
    + b01 c.curSat * 2 ^ 15 + b01 c.voltSat * 2 ^ 16 + s.structureCode n * 2 ^ 17 + c.prot * 2 ^ 20

/-- CompactStatus, the TZ-96 status byte (R115). -/
def compact (s : State) (n : Nat) : Nat :=
  let c := s.cell n
  b01 (side s n ≠ 0) + b01 (c.prot = 1 || c.thermalOff || c.prot = 4) * 2 + b01 (c.prot = 1) * 4 + b01 c.thermalOff * 8

/-! ### Switching -/

/-- The output of channel `n` begins to conduct: the Allowance of its loan counts from here to the first sample 1 ms later
(R196). -/
def began (n : Nat) (s : State) : State :=
  let r := s.requester n
  (s.modCell n fun c => { c with conductSince := s.ticks }).modTeller fun t => { t with loans := t.loans.map fun p =>
    (p.1, p.2.map fun x =>
      if (if x.kind = 4 then x.requester = n else x.requester = r) ∧ x.conductAt = none then { x with conductAt := some s.ticks } else x) }

/-- The switch of a LoadClass 4 cell opens into its load, whose energy the clamp takes: LastClampTime is the conduction time of the
clamp, which the manual does not give (R150, R151). DESIGN CHOICE: notes/assumptions/146.md.
DESIGN CHOICE: notes/assumptions/64.md. -/
def clamp (n : Nat) (s : State) : State :=
  if Chan.loadClass s n = 4 ∧ Chan.mode s n ≠ 3 then
    let r := s.open_
    r.2.wr (0x4400 + n) 0x0C (min 65535 r.1)
  else s

/-- A cell's record changes its drive or its PWM phase. Where another switch than before is asked for, the opened one is noted for
the dead time (R104), the clamp event of an opening switch is recorded (R150), and a change that a command caused is timed on the
bank's clock (R116); the edges of running PWM are no such change. -/
def change (n : Nat) (f : Cell → Cell) (s : State) : State :=
  let c := tally s.ticks (s.cell n)
  let d := f c
  let old := target (Chan.mode s n) c
  let new := target (Chan.mode s n) d
  if old = new then s.modCell n fun _ => d
  else
    let edge := c.drive = 3 ∧ d.drive = 3 ∧ !c.fresh
    let since := if c.drive = 3 ∧ !c.onPhase ∧ d.drive = 3 then s.now - Chan.deadTime s n else s.now
    let s := s.modCell n fun _ => { d with
      fresh := false, opened := if old = 0 then d.opened else old, openedAt := if old = 0 then d.openedAt else since,
      changedAt := if edge then d.changedAt else s.ticks,
      turnedOff := if new = 0 then some s.ticks else d.turnedOff }
    let s := if edge then s else
      (s.wr (0x4200 + n) 4 (s.stamp (n / 32))).wr (0x4200 + n) 5 (min u32max ((s.ticks - c.committedAt) * 1000))
    let s := if new = 0 then clamp n s else s
    if old = 0 ∧ !edge then began n s else s

/-- The record of a cell whose output takes a drive. A conducting output that goes over to PWM keeps its switch on until its next
period start (R182); a turn-off ends the inrush window and the running times (R142, R146, R183). -/
def driven (d duty tick nextStart : Nat) (c : Cell) : Cell :=
  let on := conducting c
  let c := { c with
    onPhase := decide (d = 3) && on && (c.drive != 3 || c.onPhase),
    lowSide := decide (d = 3) && (if c.drive = 3 then c.lowSide else decide (c.drive = 2)),
    fresh := decide (d = 3) && (c.drive != 3 || c.fresh),
    onEnd := if d = 3 ∧ on ∧ c.drive ≠ 3 then nextStart else c.onEnd,
    offAt := if d = 0 then (if c.drive = 0 then c.offAt else some tick) else none,
    proven := c.proven && d != 5,
    cycleAt := if c.drive = d then c.cycleAt else none, pulling := c.pulling && c.drive == d,
    drive := d, duty := duty }
  if Chan.conducts d then (if on then c else { c with limAcc := 0, clearAcc := 0, runAcc := 0 })
  else { c with limAcc := 0, clearAcc := 0, runAcc := 0, winFrom := 0, winTo := 0, soft := false, belowOnce := false, retrying := false }

/-- A cell's output takes a drive. -/
def switch1 (n d duty : Nat) (s : State) : State :=
  change n (driven d duty s.ticks (s.now + Chan.pwmPeriod s (s.head n) * 1000)) s

/-- The outputs of several cells take a drive together. DESIGN CHOICE: notes/assumptions/49.md. -/
def switchTo (l : List Nat) (d duty : Nat) (s : State) : State := l.foldl (fun s n => switch1 n d duty s) s

/-- R189: the loan of a requester ends once every output it covers is off, and so does that of a takeover whose reserve is off. -/
def returnIfOff (n : Nat) (s : State) : State :=
  let r := s.requester n
  let s := if ((s.loanHeads r).flatMap s.unit).any fun m => conducting (s.cell m) then s else Teller.giveBack r s
  match s.gangOf n with
  | some (_, v) => (GangConfig.reserve v).elim s fun p =>
      let m := field v 0 4 * 32 + p
      if conducting (s.cell m) then s else Teller.giveBack m s
  | none => s

/-- RetriesUsed of a unit's cells set (Table 05-10). -/
def setRetries (l : List Nat) (v : Nat) (s : State) : State := l.foldl (fun s n => s.wr (0x4400 + n) 2 v) s

/-! ### Loans of turn-ons -/

/-- The number of active members of the unit of a channel, 1 for a single cell. -/
def members (s : State) (n : Nat) : Nat := max 1 (s.unit n).length

/-- Amount and duration of a motor start (R253): the loop engine's, or ActiveMembers × CurrentLimit for 100 ms. -/
def motorTerms (s : State) (n : Nat) : Nat × Nat :=
  let o := Chan.owner s n
  if o / 256 = 3 then (s.rd (0x4D00 + o % 256) 9, s.rd (0x4D00 + o % 256) 0x0A * 1000)
  else (members s n * Chan.currentLimit s n, 100000)

/-- The request of a heavy turn-on, or of a recovery after SupplyOff or escrow: kind 0 or 1, and kind 5 for a load class
whose turn-on is not heavy (R183, R206, R253, Table 07-4). -/
def turnOnLoan (s : State) (n cmd : Nat) : Loan :=
  let r := s.requester n
  let t := Teller.loanTerms s r
  let ohms := Teller.resistance s r cmd
  let cls := Chan.loadClass s n
  if Chan.lamp cls then
    Teller.channelLoan s r 0 (members s n * Chan.inrushLimit s n) (Chan.window s n) t.1 t.2 ohms
  else if cls = 3 then
    let m := motorTerms s n
    Teller.channelLoan s r 1 m.1 m.2 t.1 t.2 ohms
  else Teller.channelLoan s r 5 (members s n * Chan.currentLimit s n) 10000 t.1 t.2 ohms

/-- The request of a protection retry (R145, R171). -/
def retryLoan (s : State) (n : Nat) : Loan :=
  let r := s.requester n
  Teller.channelLoan s r 3 (members s r * Chan.currentLimit s r) 10000 (Teller.loanTerms s r).1
    (min (s.rd (0x4000 + r) 0x13) 1000) (Teller.resistance s r (Chan.command s r))

/-- A turn-on that gets no loan leaves the output off, with LoanDeclined set until the next conducting command (R111); a cell in
limp asks again after 100 ms (R485). -/
def declineTurnOn (n : Nat) (s : State) : State :=
  let s := s.modCells (s.unitAll n) fun c => { c with
    loanPending := false, loanDeclined := true, want := if c.drive = 5 then 5 else 0 }
  if Chan.owner s n = 0xF100 then s.modCell n fun c => { c with limpRetry := some (s.ticks + 100000) } else s

/-- A turn-on loan is requested and LoanPending shows; a leg of a bridge whose loan is already asked waits with it. A request that
the Teller refuses with STATE (R192) is taken as declined. DESIGN CHOICE: notes/assumptions/147.md. -/
def askTurnOn (n cmd : Nat) (commit : Bool) (s : State) : State :=
  let l := turnOnLoan s n cmd
  let s := s.modCells (s.crew n) fun c => { c with loanPending := true }
  if (s.bridgeOf n).isSome ∧ (Teller.requestOf s.teller l.requester).isSome then s
  else
    let r := Teller.request l commit s
    if r.2 = .ok then r.1 else declineTurnOn n r.1

/-! ### Acceptance of a command -/

/-- A command is put on its way to its bank (R129). -/
def push (n cmd duty : Nat) (granted : Bool) (s : State) : State :=
  s.modBank (n / 32) fun b => { b with
    queue := b.queue ++ [{ chan := n, cmd := cmd, duty := duty, at_ := s.ticks, granted := granted }] }

/-- Another leg of the same bridge still waits for the bridge's loan. -/
def otherWaits (s : State) (n : Nat) : Bool :=
  (s.loanHeads (s.requester n)).any fun h => decide (h ≠ n) && (s.cell h).loanPending

/-- R111, R164: OFF or FLOAT withdraws a waiting request; during SupplyOff it acts on the pre-empted state. -/
def acceptOff (n cmd : Nat) (s : State) : State :=
  let wait := otherWaits s n
  let low := decide ((s.cell n).prot = 5)
  let s := s.modCells (s.crew n) fun c => { c with
    cmd := cmd, want := cmd, loanPending := false, loanDeclined := false, committedAt := s.ticks }
  let s := if wait then s else Teller.withdraw (s.requester n) s
  let s := if low then
      setRetries (s.shared n) 0 (s.modCells (s.shared n) fun c => { c with
        preempted := if 2 ≤ c.preempted ∧ c.preempted ≤ 4 then 0 else c.preempted })
    else s
  push n cmd 0 false s

/-- R107, R111, R146: HOLD_LAST freezes the drive as it stands at its commit: what waits on its way to the bank no longer reaches
the cell, and an output that stands off withdraws a waiting request. DESIGN CHOICE: notes/assumptions/51.md. -/
def acceptHold (n : Nat) (s : State) : State :=
  let off := !(s.unit n).any fun m => conducting (s.cell m)
  let wait := otherWaits s n
  let s := s.modBank (n / 32) fun b => { b with queue := b.queue.filter fun q => decide (q.chan ≠ n) }
  let s := s.modCells (s.crew n) fun c => { c with
    cmd := 4, frozen := true, loanPending := false, loanDeclined := false, committedAt := s.ticks,
    want := if off then (if c.drive = 5 then 5 else 0) else if Chan.conducts c.want then c.want else c.drive }
  let s := if off && !wait then returnIfOff n (Teller.withdraw (s.requester n) s) else s
  push n 4 0 false s

/-- The turn-on of a unit waits for the temperature of its cells: a gang's active members apply a command together (R141, R170).
DESIGN CHOICE: notes/assumptions/148.md. -/
def waitsHeat (s : State) (n : Nat) : Bool :=
  ((s.unit n).any fun m => (s.cell m).thermalOff) && !(s.unit n).any fun m => conducting (s.cell m)

/-- The retry loan of a unit whose spacing has passed is requested; where the Teller refuses it with STATE (R192), the spacing
restarts as at a decline. -/
def askRetry (n : Nat) (commit : Bool) (s : State) : State :=
  let r := Teller.request (retryLoan s n) commit (s.modCells (s.shared n) fun c => { c with prot := 3 })
  if r.2 = .ok then r.1 else r.1.modCells (s.shared n) fun c => { c with prot := 2, tripAt := s.ticks }

/-- R110, R111, R146: a conducting command is driven at the next bank slot, waits for its loan, replaces a waiting one,
or stays committed while protection keeps the cell off. A heavy turn-on that follows an OFF still on its way to the bank asks its
loan at that slot, where the OFF has returned the earlier one. -/
def acceptOn (n cmd duty : Nat) (commit : Bool) (s : State) : State :=
  let c := s.cell n
  let s := s.modCells (s.crew n) fun c => { c with
    cmd := cmd, want := cmd, wantDuty := duty, loanDeclined := false, committedAt := s.ticks }
  if c.prot = 3 ∧ (Teller.requestOf s.teller (s.requester n)).isNone then askRetry n commit s
  else if 2 ≤ c.prot ∧ c.prot ≤ 5 then s
  else if waitsHeat s n then s
  else if c.loanPending then s
  else if !Chan.conducts c.want ∧ Chan.heavy (Chan.loadClass s n) then
    if (Teller.loanOf s.teller (s.requester n)).isNone then askTurnOn n cmd commit s
    else if (s.loanHeads (s.requester n)).any fun h => decide (h ≠ n) && Chan.conducts (s.cell h).want then push n cmd duty false s
    else s.modCells (s.crew n) fun c => { c with loanPending := true }
  else push n cmd duty false s

/-- A committed command of the unit whose head is `n`. -/
def accept (n cmd duty : Nat) (commit : Bool) (s : State) : State :=
  if cmd = 4 then acceptHold n s
  else if Chan.conducts cmd then acceptOn n cmd duty commit s
  else acceptOff n cmd s

/-- A PwmDuty committed while PWM is commanded is used from the next period (R108); HOLD_LAST leaves it unapplied
(R107). -/
def acceptDuty (n duty : Nat) (s : State) : State :=
  if (s.cell n).cmd = 4 then s
  else s.modCells (s.crew n) fun c => { c with wantDuty := duty }

/-! ### The bank's command slot -/

/-- A committed conducting command of a unit that has come back to Normal is driven: a heavy turn-on asks its loan, any other goes
to the bank. -/
def drive (n : Nat) (s : State) : State :=
  let c := s.cell n
  if Chan.heavy (Chan.loadClass s n) then askTurnOn n c.want false s else push n c.want c.wantDuty false s

/-- OFF or FLOAT at its slot: Limiting and every tripped state become Normal, for both legs of a bridge, and RetriesUsed returns to
0 (R144, R146, R149). The output takes the command during SupplyOff too (R164), and an output that protection had turned off enters
OFF here (R155). A turn-on committed since asks its loan, and the other leg of a tripped bridge follows its own command. -/
def applyOff (n cmd : Nat) (s : State) : State :=
  let l := s.unit n
  let others := (s.loanHeads (s.requester n)).filter fun h =>
    decide (h ≠ n ∧ 2 ≤ (s.cell h).prot ∧ (s.cell h).prot ≤ 4) && Chan.conducts (s.cell h).want && !(s.cell h).loanPending
  let trippedAll := decide (2 ≤ (s.cell n).prot ∧ (s.cell n).prot ≤ 4)
  let s := (setRetries (s.shared n) 0 s).modCells (if trippedAll then s.shared n else s.crew n) fun c =>
    { tally s.ticks c with prot := if c.prot = 5 then 5 else if c.prot = 6 ∧ cmd = 0 then 6 else 0,
                           cut := if conducting c then some (s.ticks, if c.prot = 1 then some (tally s.ticks c).limAcc else none) else c.cut }
  let s := (switchTo l cmd 0 (s.modCells (s.crew n) fun c => { c with frozen := false })).modCells l fun c => { c with
    offAt := if cmd = 0 then some (c.offAt.getD s.ticks) else c.offAt }
  let s := if cmd = 5 then s.modCells (s.unitAll n) fun c => { c with proven := false } else s
  let s := returnIfOff n s
  let c := s.cell n
  let s := if c.loanPending ∧ Chan.conducts c.want ∧ (Teller.requestOf s.teller (s.requester n)).isNone then
      askTurnOn n c.want false s else s
  others.foldl (fun s h => drive h s) s

/-- A conducting command at its slot, which aborts a running proof (R144, R156); protection that keeps a cell off stands. -/
def applyOn (n cmd duty : Nat) (s : State) : State :=
  let l := (s.unit n).filter fun m => !(s.cell m).thermalOff
  let c := s.cell n
  let s := s.modCells (s.crew n) fun c => { c with frozen := false, prot := if c.prot = 6 then 0 else c.prot }
  if (2 ≤ c.prot ∧ c.prot ≤ 5) ∨ waitsHeat s n ∨ !Chan.conducts c.want then s
  else
    let soft := Chan.lamp (Chan.loadClass s n) && decide (Chan.softStart s n ≠ 0) &&
      decide (s.ticks < c.winFrom + Chan.softStart s n ∧ c.winTo ≠ 0 ∧ cmd ≠ 3)
    (switchTo l (if soft then 3 else cmd) (if soft then 0 else duty) s).modCells (s.crew n) fun c => { c with soft := soft }

/-- A cell of a conducting gang takes the gang's drive alone: the reserve of a takeover, or a member that has cooled. Under PWM its
first on-phase is that of the next period (R175, R182). -/
def join (n : Nat) (s : State) : State :=
  match (s.unit n).find? fun m => decide (m ≠ n) && conducting (s.cell m) with
  | some m =>
    let c := s.cell m
    if (s.cell n).thermalOff ∨ (2 ≤ (s.cell n).prot ∧ (s.cell n).prot ≤ 5) ∨ conducting (s.cell n) then s
    else (switch1 n c.drive c.duty s).modCell n fun x => { x with
      frozen := c.frozen, soft := c.soft, winFrom := c.winFrom, winTo := c.winTo }
  | none => s

/-- One command at its slot. -/
def applyCmd (q : BankCmd) (s : State) : State :=
  if q.join then join q.chan s
  else if q.cmd = 4 then s.modCells (s.crew q.chan) fun c => { c with frozen := true }
  else if Chan.conducts q.cmd then applyOn q.chan q.cmd q.duty s
  else applyOff q.chan q.cmd s

/-- One queued command: a failed check leaves the cell as it is, and the sender resends once (R129). -/
def slotOne (b : Nat) (corrupt : List Nat) (q : BankCmd) (s : State) : State :=
  if corrupt.contains q.chan then
    let s := s.inc (0x4900 + b) 0x0B
    if q.resent then Audit.raise (0x1000 + b * 16 + 7) s
    else s.modBank b fun r => { r with queue := r.queue ++ [{ q with resent := true }] }
  else applyCmd q s

/-- The bank's command slot: every queued command is checked and applied together (R129). -/
def slot (b : Nat) (corrupt : List Nat) (s : State) : State :=
  let q := (s.bank b).queue
  q.foldl (fun s x => slotOne b corrupt x s) (s.modBank b fun r => { r with queue := [] })

/-! ### Whether a command may be written (R59) -/

/-- A unit's LoadClass 5 cell without a valid freewheel proof (R157). -/
def unproven (s : State) (n cmd : Nat) : Bool :=
  Chan.conducts cmd && decide (Chan.loadClass s n = 5) && !(s.cell n).proven

/-- STATE conditions of a command or duty write of a channel (R50, R125, R157, R170, R557). -/
def stateOk (s : State) (n cmd : Nat) : Bool :=
  let f := s.fn ⟨1, n / 32⟩
  decide (s.head n = n) && (if f = 0 then cmd = 5 else f = 1 ∨ f = 2)
    && !((s.cell n).dirty && decide (cmd ≠ 0 ∧ cmd ≠ 5)) && !unproven s n cmd

end Cells

end Sys2Proof.Machine
end

