-- ==== Sys2Proof/Machine/Store.lean ====
section
/-! DEFINITION. The parameter store: kind 6 bursts, one at a time, of functions and of single persistent entries (R42, R43,
R53, R213, R192). -/

namespace Sys2Proof.Machine

namespace Store

/-- The requester code of the parameter store (Table 07-2). -/
def code : Nat := 0x1000

/-- A burst's loan is requested or runs. -/
def busy (s : State) : Bool := s.jobs.any fun j => j.phase = .requested ∨ j.phase = .storing

/-- The first job in a list that waits and is due moves to `requested`; true where one did. -/
def begin1 (t : Nat) : List Job → List Job × Bool
  | [] => ([], false)
  | j :: r =>
    match j.phase with
    | .waiting a =>
      if a ≤ t then ({ j with phase := .requested } :: r, true)
      else let x := begin1 t r; (j :: x.1, x.2)
    | _ => let x := begin1 t r; (j :: x.1, x.2)

/-- A request for the store that got no loan is made again after 100 ms (R213). -/
def later (s : State) : State :=
  { s with jobs := s.jobs.map fun j => if j.phase = .requested then { j with phase := .waiting (s.ticks + 100000) } else j }

/-- The next waiting job asks its loan (kind 6, Table 07-4); the store holds one request at a time, and one that the Teller refuses
with STATE is made again (R192). `commit` says that a Ledger commit raises the request (R201). -/
def ask (commit : Bool) (s : State) : State :=
  if busy s then s
  else
    let x := begin1 s.ticks s.jobs
    if x.2 then
      let r := Teller.request (Teller.logicLoan s code 6 300 2000 (s.rd 0x4A07 1)) commit { s with jobs := x.1 }
      if r.2 = .ok then r.1 else later r.1
    else s

/-- The next waiting job asks its loan at another instant than a commit. -/
def kick (s : State) : State := ask false s

/-- R213: committed persistent entries are stored by a burst; their values apply from the commit. -/
def persist (locs : List (Nat × Nat)) (s : State) : State :=
  if locs.isEmpty then s
  else ask true { s with jobs := s.jobs ++
    [{ kind := .entries (locs.map fun p => p.1 * 256 + p.2), phase := .waiting s.ticks }] }

/-- The value of an entry that is stored: for a CellOwner that reads escrow or limp the remembered owner (R53). -/
def current (s : State) (i j : Nat) : Nat :=
  let v := s.rd i j
  if 0x4000 ≤ i ∧ i < 0x4200 ∧ j = 1 ∧ 0xF000 ≤ v then (s.cell (i - 0x4000)).remembered else v

/-- The value of an entry enters the parameter store; a default needs no place there. -/
def save (loc : Nat) (s : State) : State :=
  { s with stored := Map.put (Ledger.dflt (loc / 256) (loc % 256)) s.stored loc (current s (loc / 256) (loc % 256)) }

/-- The stored value of an entry, its default where none is stored (R42). -/
def value (s : State) (i j : Nat) : Nat := Map.get (Ledger.dflt i j) s.stored (i * 256 + j)

end Store

end Sys2Proof.Machine
end

