-- ==== Sys2Proof/Machine/Escrow.lean ====
section
/-! DEFINITION. Owners other than the Ledger, engines and contexts: escrow's hold of cells, reconciliation, the SafeCommand
and limp (R25, R48, R53, R56, R467, R477 to R487, R559). -/

namespace Sys2Proof.Machine

namespace Escrow

/-- CellOwner passes to a code that is stored (R53). -/
def setOwner (n o : Nat) (s : State) : State := Store.persist [(0x4000 + n, 1)] (s.wr (0x4000 + n) 1 o)

/-- The cells an engine or context owns, as CellOwner shows it or as it is remembered (R56). -/
def cellsOf (s : State) (o : Nat) : List Nat :=
  ((s.listed 0x4000 0x41FF 1).filter fun p => p.2 = o).map (·.1 - 0x4000)

/-- The code that names a function as owner, 0 for a function that cannot own cells (Table 02-10). -/
def ownerCode (f : Fn) : Nat := if f.cls = 2 ∨ f.cls = 3 ∨ f.cls = 5 then f.id else 0

/-- The cells escrow holds for an owner. -/
def heldFor (s : State) (o : Nat) : List Nat :=
  (cellsOf s 0xF000).filter fun n => (s.cell n).remembered = o

/-- Escrow takes a cell at its present command; a cell that escrow or limp already owns stays as it is (R56, R478).
DESIGN CHOICE: notes/assumptions/56.md. -/
def hold1 (h : Hold) (n : Nat) (s : State) : State :=
  let o := Chan.owner s n
  if o = 0xF000 ∨ o = 0xF100 then s
  else (s.wr (0x4000 + n) 1 0xF000).modCell n fun c => { c with
    remembered := o, hold := h, heldAt := s.ticks, holdFor := s.rd 0x7600 1 }

/-- Escrow takes several cells. -/
def hold (h : Hold) (l : List Nat) (s : State) : State := l.foldl (fun s n => hold1 h n s) s

/-- The channels of a bank. -/
def bankCells (b : Nat) : List Nat := (List.range 32).map (b * 32 + ·)

/-- A bank-wide escrow begins: its cells are held, commands on their way are dropped, and the escrow entries record it
(Table 17-8, R488). DESIGN CHOICE: notes/assumptions/54.md. -/
def enterBank (h : Hold) (b : Nat) (s : State) : State :=
  if (s.bank b).escrow ≠ .none then s
  else
    let first := (List.range 16).all fun k => (s.bank k).escrow = .none
    let cause := match h with | .heartbeat => 1 | .planned => 2 | _ => 3
    let banks := if first then 0 else s.rdField 0x7600 0x0A 0 16
    let s := hold h (bankCells b) s
    let s := s.modBank b fun r => { r with
      escrow := h, escrowAt := s.ticks, escrowFor := s.rd 0x7600 1, queue := r.queue.filter (·.granted) }
    let s := s.inc 0x7600 8
    let s := { s with escrowFirst := if first then some s.ticks else s.escrowFirst }
    s.wr 0x7600 0x0A (setField banks b 1 1 + cause * 65536)

/-- A bank leaves its bank-wide escrow; with the last one LastEscrowDuration is written. -/
def leaveBank (b : Nat) (s : State) : State :=
  let s := s.modBank b fun r => { r with escrow := .none }
  if (List.range 16).all fun k => (s.bank k).escrow = .none then
    let s := s.wr 0x7600 0x0B (min u32max (s.ticks - s.escrowFirst.getD s.ticks))
    { s with escrowFirst := none }
  else s

/-- The remembered owner takes a cell back (R56, R480). A cell that would return to an owner while its bank is
Unconfigured stays with the Ledger (R125). -/
def restore (n : Nat) (s : State) : State :=
  let o := if s.fn ⟨1, n / 32⟩ = 0 then 0 else (s.cell n).remembered
  (s.wr (0x4000 + n) 1 o).modCell n fun c => { c with hold := .none, remembered := 0 }

/-- R25, R480: the head of a unit is compared with the Ledger's committed values. A turn-on goes through a loan; a tripped
cell keeps its protection state. -/
def compare (n : Nat) (s : State) : State :=
  let c := s.cell n
  let cmd := Chan.command s n
  let duty := Chan.duty s n
  let lead := s.cell (s.lead n)
  if 2 ≤ c.prot ∧ c.prot ≤ 4 then s.modCells (s.crew n) fun c => { c with cmd := cmd, want := if Chan.conducts cmd then cmd else c.want }
  else if Cells.applied lead = cmd ∧ (cmd ≠ 3 ∨ lead.duty = duty) then s.modCells (s.crew n) fun c => { c with cmd := cmd }
  else if Chan.conducts cmd ∧ !Cells.conducting lead ∧ (Teller.loanOf s.teller (s.requester n)).isNone then
    if Cells.unproven s n cmd then s
    else
      Cells.askTurnOn n cmd false (s.modCells (s.crew n) fun c => { c with
        cmd := cmd, want := cmd, wantDuty := duty, loanDeclined := false, committedAt := s.ticks })
  else Cells.accept n cmd duty false s

/-- R480: a unit's cells return to their owners, and its head is compared with the Ledger's committed values. -/
def reconcile (n : Nat) (s : State) : State := compare n ((s.unitAll n).foldl (fun s m => restore m s) s)

/-- The heads of the units among a list of cells. -/
def heads (s : State) (l : List Nat) : List Nat := l.filter fun n => s.head n = n

/-- Cells held for one cause return by reconciliation. -/
def giveBack (h : Hold) (l : List Nat) (s : State) : State :=
  let held := l.filter fun n => (s.cell n).hold = h ∧ Chan.owner s n = 0xF000
  (heads s held).foldl (fun s n => reconcile n s) s

/-- R559: a unit takes its SafeCommand under the Ledger's ownership; the command is committed at this tick. A SafeCommand
that would turn on an unproven LoadClass 5 cell leaves it OFF (R157). -/
def safe (n : Nat) (s : State) : State :=
  let cmd := Chan.safeCommand s n
  let s := (s.unitAll n).foldl (fun s m =>
    (setOwner m 0 s).modCell m fun c => { c with hold := .none, remembered := 0, limpRetry := none }) s
  let s := s.wr (0x4000 + n) 3 cmd
  Cells.accept n (if Cells.unproven s n cmd then 0 else cmd) (Chan.duty s n) false s

/-- Every unit among a list of cells takes its SafeCommand. -/
def safeAll (l : List Nat) (s : State) : State := (heads s l).foldl (fun s n => safe n s) s

/-! ### Limp -/

/-- The enabled limp entries as (channel, input, HighCommand, LowCommand) (Table 17-11). -/
def limpEntries (s : State) : List (Nat × Nat × Nat × Nat) :=
  (List.range 128).filterMap fun k =>
    let v := s.rd 0x7601 (1 + k)
    if bitOf v 20 then some (field v 0 9, field v 9 5, field v 14 3, field v 17 3) else none

/-- The enabled entry that names a channel. -/
def limpEntry (s : State) (n : Nat) : Option (Nat × Nat × Nat × Nat) := (limpEntries s).find? (·.1 = n)

/-- The command an entry's input asks for (R485). -/
def limpCommand (s : State) (e : Nat × Nat × Nat × Nat) : Nat := if s.rdBit 0x7600 4 e.2.1 then e.2.2.1 else e.2.2.2

/-- A limp cell takes a command: a heavy turn-on obtains its loan, an unproven LoadClass 5 cell stays OFF (R157, R485). -/
def limpApply (n cmd : Nat) (s : State) : State :=
  let s := s.modCell n fun c => { c with limpCmd := cmd, limpRetry := none }
  Cells.accept n (if Cells.unproven s n cmd then 0 else cmd) (Chan.duty s n) false s

/-- The cells limp owns. -/
def limpCells (s : State) : List Nat := cellsOf s 0xF100

/-- A unit passes to limp (R481, R486); the first cell of its bank raises LIMP. -/
def limp (n : Nat) (s : State) : State :=
  match limpEntry s n with
  | none => s
  | some e =>
    let first := (limpCells s).all fun m => m / 32 ≠ n / 32
    let s := (s.unitAll n).foldl (fun s m =>
      let o := Chan.owner s m
      (s.wr (0x4000 + m) 1 0xF100).modCell m fun c => { c with
        hold := .none, remembered := if o = 0xF000 ∨ o = 0xF100 then c.remembered else o }) s
    let s := Audit.raiseIf first (0x1920 + n / 32) s
    limpApply n (limpCommand s e) s

/-- R486: with LhenMode 1 and LHEN at 1, every named cell not yet in limp passes to limp in Standby, Run and Escrow, cells
already in limp or not. DEDUCED: notes/assumptions/167.md. -/
def force (s : State) : State :=
  if s.rd 0x7600 2 = 1 ∧ s.rd 0x7600 5 = 1 ∧ (s.power = 2 ∨ s.power = 3) then
    (limpEntries s).foldl (fun s e => if Chan.owner s e.1 = 0xF100 then s else limp e.1 s) s
  else s

/-- LhenForcing (R486). -/
def forcing (s : State) : Bool := decide (s.rd 0x7600 2 = 1 ∧ s.rd 0x7600 5 = 1) && !(limpCells s).isEmpty

/-- LimpStatus (Table 17-10). -/
def limpStatus (s : State) : Nat :=
  ((List.range 16).map fun b => if (limpCells s).any fun n => n / 32 = b then 2 ^ b else 0).sum + b01 (forcing s) * 65536

/-- PowerState as it reads: Limp while limp owns a cell, Escrow while a bank-wide escrow runs (R478, R487). -/
def powerState (s : State) : Nat :=
  if s.power < 2 then s.power
  else if !(limpCells s).isEmpty then 5
  else if (List.range 16).any fun b => (s.bank b).escrow ≠ .none then 4
  else s.power

/-! ### Expiry -/

/-- R481: a unit at the expiry of a heartbeat-lost or planned escrow: limp where an enabled entry names it and LHEN reads
1, otherwise its SafeCommand. -/
def expireUnit (h : Hold) (n : Nat) (s : State) : State :=
  if (h = .heartbeat ∨ h = .planned) ∧ (limpEntry s n).isSome ∧ s.rd 0x7600 5 = 1 then limp n s else safe n s

/-- A bank-wide escrow expires: every cell it still holds is handled, and ESCROW_EXPIRED is raised (R481).
DESIGN CHOICE: notes/assumptions/57.md. -/
def expireBank (b : Nat) (s : State) : State :=
  let h := (s.bank b).escrow
  let held := (bankCells b).filter fun n => (s.cell n).hold = h ∧ Chan.owner s n = 0xF000
  let s := (heads s held).foldl (fun s n => expireUnit h n s) s
  Audit.raise (0x1910 + b) ((leaveBank b s).inc 0x7600 9)

/-- The earliest tick at which an escrow entered at `t` may expire: 0.90 × EscrowTime (R479). -/
def earliest (t ms : Nat) : Nat := t + ms * 900

/-- The latest tick by which an escrow entered at `t` expires: 1.14 × EscrowTime (R479). -/
def latest (t ms : Nat) : Nat := t + ms * 1140

/-- A bank ends its bank-wide escrow of one cause: by reconciliation, or by an expiry that had to fall first (R479, R480). -/
def endBank (h : Hold) (b : Nat) (s : State) : State :=
  let r := s.bank b
  if r.escrow ≠ h then s
  else if latest r.escrowAt r.escrowFor < s.ticks then expireBank b s
  else leaveBank b (giveBack h (bankCells b) s)

/-- The hold of a structure's cells expires: they take their SafeCommand (R48, R467, Table 17-8). -/
def expireCells (l : List Nat) (s : State) : State :=
  let b := (l.head?.getD 0) / 32
  Audit.raise (0x1910 + b) (safeAll l s)

end Escrow

end Sys2Proof.Machine
end

