-- ==== Sys2Proof/Machine/Protection.lean ====
section
/-! DEFINITION. The cell's own protection: limiting, trips, retries, supply loss, freewheel proofs and load diagnostics
(chapter 05, R140 to R167). -/

namespace Sys2Proof.Machine

namespace Protect

/-! ### Limiting -/

/-- Ticks accumulated in Limiting up to now (R142): off-phases and the inrush window do not count. -/
def accumulated (s : State) (n : Nat) : Nat := (Cells.tally s.ticks (s.cell n)).limAcc

/-- The limit in force in mA: InrushLimit while the window is open (R184); at a logic supply below 6 V a setting above 6.00 A acts
as 6.00 A (Table 20-4). -/
def limit (s : State) (n : Nat) : Nat :=
  let setting := if (s.cell n).winTo ≠ 0 then Chan.inrushLimit s n else Chan.currentLimit s n
  if max s.supply.vloga s.supply.vlogb < 6000 then min setting 6000 else setting

/-- R140: a cell in Normal whose limited switch conducts enters Limiting; under PWM that is the switch of the on-phase. -/
def engage (n : Nat) (s : State) : State :=
  if (s.cell n).prot = 0 ∧ Cells.onNow (s.cell n) ∧ Cells.side s n ≠ 0 then
    s.modCell n fun c => { Cells.tally s.ticks c with prot := 1, clearAcc := 0, belowOnce := false }
  else s

/-- R560: a qualifying sample of a limiting cell: the limited switch conducts, which under PWM it does in the on-phases alone. The
second of two in a row below the limit with the limiter released ends Limiting. -/
def limitSample (n : Nat) (count : Int) (limiter : Bool) (s : State) : State :=
  let c := s.cell n
  if c.prot = 1 ∧ Cells.onNow c ∧ Cells.side s n ≠ 0 then
    let below := !limiter && decide (count.natAbs * 625 < limit s n * 100)
    if below ∧ c.belowOnce then
      (s.inc (0x4400 + n) 4).modCell n fun c => { Cells.tally s.ticks c with prot := 0, clearAcc := 0, belowOnce := false }
    else s.modCell n fun c => { c with belowOnce := below }
  else s

/-! ### Trips and retries -/

/-- The head whose retry settings govern a channel: LegA of a bridge, the lowest declared member of a gang (R149, R171). -/
def governor (s : State) (n : Nat) : Nat := s.requester n

/-- Every cell that shares the protection state of a channel (R149, R171). -/
def shared (s : State) (n : Nat) : List Nat := s.shared n

/-- BATb has been below 4.5 V for 50 µs at this tick: SupplyOff has precedence over whatever else reaches a cell in it (R147,
R163). -/
def supplyDue (s : State) (b : Nat) : Bool :=
  let r := s.bank b
  r.supplyOff || (decide (r.supplyMv < 4500) && s.elapsed r.bandAt 50)

/-- What a trip of cell `n` records: TripCount, LastTripTime, LastTripCurrent, LastTrip, and OVERCURRENT or THERMAL (R144). -/
def tripRecord (n : Nat) (limiting : Bool) (kind : Nat) (current : Int) (s : State) : State :=
  Audit.raise (n * 8 + if limiting then 0 else 1)
    ((((s.inc (0x4400 + n) 3).wr (0x4400 + n) 5 (s.stamp (n / 32))).wr (0x4400 + n) 6 (rawOf 16 current)).wrField
      (0x4400 + n) 1 8 2 kind)

/-- R177: a trip while the takeover request of its gang stands withdraws it, and the imbalance timer restarts; a request that
follows a declined one is made again as the gang next conducts (R176). -/
def dropTakeover (n : Nat) (s : State) : State :=
  match s.gangOf n with
  | some (k, v) =>
    if (s.gang k).pending ∧ !(s.gang k).reserveIn then
      (((GangConfig.reserve v).toList.foldl (fun s p => Teller.withdraw (field v 0 4 * 32 + p) s) s)).modGang k fun r =>
        { r with pending := false, failing := none, candidate := none, heldFor := 0,
                 retryAt := if r.failing.isNone then some s.ticks else none }
    else s
  | none => s

/-- R144: a trip. The tripping cell records it and raises OVERCURRENT or THERMAL; every cell that shares its protection
state turns off; a takeover request is withdrawn (R177). A trip that SupplyOff pre-empts raises nothing (R147). -/
def trip (n : Nat) (limiting : Bool) (kind : Nat) (current : Int) (s : State) : State :=
  let l := shared s n
  let off := l.filter fun m => Cells.conducting (s.cell m)
  if supplyDue s (n / 32) then Cells.switchTo off 0 0 s
  else
    let g := governor s n
    let next := if s.rd (0x4400 + g) 2 < s.rd (0x4000 + g) 0x12 then 2 else 4
    let s := tripRecord n limiting kind current s
    let s := Cells.switchTo off 0 0 s
    let s := s.modCells l fun c => { c with
      prot := next, tripAt := s.ticks, tripLimiting := limiting, offAt := none, loanPending := false }
    dropTakeover n (Cells.returnIfOff n s)

/-- The owner has turned the conducting cell off at this very tick, with its accumulated Limiting where it limited (R147). -/
def cutNow (s : State) (n : Nat) : Option (Option Nat) :=
  match (s.cell n).cut with
  | some (t, a) => if t = s.ticks ∧ (s.cell n).prot = 0 ∧ !supplyDue s (n / 32) then some a else none
  | none => none

/-- R141, R147: the junction reaches 175 °C. At the tick of an owner's turn-off the trip still raises its occurrence; at the tick of
a trip by LimitDwell the thermal shutdown is the one recorded. -/
def shutdown (n : Nat) (current : Int) (s : State) : State :=
  let c := s.cell n
  let s := s.modCell n fun c => { c with thermalOff := true, hot := true }
  if Cells.conducting c ∧ c.prot ≤ 1 then trip n (c.prot = 1) (if c.prot = 1 then 1 else 3) current s
  else if (c.prot = 2 ∨ c.prot = 4) ∧ c.tripAt = s.ticks ∧ c.tripLimiting ∧ s.rdField (0x4400 + n) 1 8 2 = 2 then
    s.wrField (0x4400 + n) 1 8 2 1
  else match cutNow s n with
    | some a => tripRecord n a.isSome (if a.isSome then 1 else 3) current (s.modCell n fun c => { c with cut := none })
    | none => s

/-- R141: the junction has fallen to 160 °C. A committed conducting command of a cell in Normal is driven, a heavy turn-on
through its loan; a cell of a gang that conducts joins it. -/
def recover (n : Nat) (s : State) : State :=
  let c := s.cell n
  if c.thermalOff then
    let s := s.modCell n fun c => { c with thermalOff := false, hot := false }
    let h := s.head n
    let w := s.cell h
    if (s.unit n).contains n ∧ w.prot = 0 ∧ Chan.conducts w.want then
      if (s.unit n).any fun m => Cells.conducting (s.cell m) then Cells.join n s
      else if w.loanPending ∨ Cells.waitsHeat s h then s
      else Cells.drive h s
    else s
  else s

/-- R142, R147: the accumulated Limiting has reached LimitDwell; at the tick of an owner's turn-off the trip still raises its
occurrence. -/
def dwell (n : Nat) (current : Int) (s : State) : State :=
  let d := s.rd (0x4000 + n) 0x11
  if (s.cell n).prot = 1 ∧ d ≠ 0 ∧ (s.cell n).winTo = 0 ∧ d * 1000 ≤ accumulated s n then trip n true 2 current s
  else match cutNow s n with
    | some (some a) =>
      if d ≠ 0 ∧ d * 1000 ≤ a then tripRecord n true 2 current (s.modCell n fun c => { c with cut := none }) else s
    | _ => s

/-- The junction of a cell is at or below 160 °C as its comparator and its latest temperature sample show (Table 05-4).
DEDUCED: notes/assumptions/149.md. -/
def cool (s : State) (n : Nat) : Bool := !(s.cell n).hot && decide (signed 16 (s.rd (0x4600 + n) 5) ≤ 1600)

/-- Spacing has elapsed, the junction is cool and the committed command conducts (Table 05-4). -/
def retryDue (s : State) (n : Nat) : Bool :=
  let c := s.cell n
  decide (c.prot = 2 ∧ governor s n = n) && s.elapsed c.tripAt (s.rd (0x4000 + n) 0x13 * 1000) &&
    ((shared s n).all fun m => cool s m) &&
    ((s.loanHeads n).any fun h => Chan.conducts (s.cell h).want && decide ((s.cell h).cmd ≠ 4))

/-- R144, R145: RetryWait becomes RetryLoan and the retry loan is requested. -/
def retry (n : Nat) (s : State) : State := if retryDue s n then Cells.askRetry n false s else s

/-- The grant of a retry loan: the cells return to Normal and the newest conducting command is driven (R111, R144). -/
def retryGranted (r : Nat) (s : State) : State :=
  let l := shared s r
  let used := s.rd (0x4400 + r) 2 + 1
  if (s.cell r).prot = 3 then
    let s := Cells.setRetries l used (s.modCells l fun c => { c with prot := 0, retrying := true })
    (s.loanHeads r).foldl (fun s h =>
      let c := s.cell h
      if Chan.conducts c.want then Cells.push h c.want c.wantDuty true s else s) s
  else Teller.giveBack r s

/-- The decline of a retry loan: RetryWait again, and the spacing restarts; no retry is consumed (R145). -/
def retryDeclined (r : Nat) (s : State) : State :=
  s.modCells (shared s r) fun c => if c.prot = 3 then { c with prot := 2, tripAt := s.ticks } else c

/-- R146: after 1 s of conduction without a trip RetriesUsed returns to 0, for every cell that shares it. -/
def retriesReset (n : Nat) (s : State) : State :=
  if Cells.conducting (s.cell n) ∧ 1000000 ≤ (Cells.tally s.ticks (s.cell n)).runAcc then Cells.setRetries (shared s n) 0 s else s

/-! ### Supply -/

/-- The one cell of a unit on which the off-state and open-load checks run: the lowest active member (R172). -/
def diagnosed (s : State) (n : Nat) : Bool := (s.unit n).head? = some n

/-- R172: the load diagnostics of a cell end with the flags of `bits` at 0. -/
def quiet (n : Nat) (bits : List Nat) (s : State) : State :=
  let s := (s.modCell n fun c => { c with stuckAcc := none, openOnAcc := none, openCycles := 0, wired := [] }).wr
    (0x4400 + n) 7 0xFFFF
  bits.foldl (fun s k => s.wrBit (0x4400 + n) 1 k false) s

/-- R172: in every cell of a gang but its lowest active member OpenOn, OpenOff, StuckHigh and WiredOr read 0. -/
def quietAll (g : Nat) (s : State) : State :=
  let v := s.rd (0x4800 + g) 1
  ((GangConfig.cells v).filter fun n => decide (n / 32 = field v 0 4) && !diagnosed s n).foldl (fun s n => quiet n [0, 1, 2, 3, 7] s) s

/-- R163: every cell of a bank whose supply is low turns off and remembers its state; BROWNOUT once the supply had been
up. Waiting requests stand, loans in flight are returned (R189). -/
def supplyOff (b : Nat) (s : State) : State :=
  let r := s.bank b
  if r.supplyOff ∨ 4500 ≤ r.supplyMv then s
  else
    let s := (Escrow.bankCells b).foldl (fun s n =>
      let c := s.cell n
      let s := Cells.switch1 n (if c.drive = 5 then 5 else 0) 0 s
      s.modCell n fun x => { x with
        prot := 5, preempted := if c.prot = 5 then c.preempted else if c.prot = 6 then 0 else c.prot, offAt := none }) s
    let s := (Escrow.bankCells b).foldl (fun s n => Cells.returnIfOff n s) s
    let s := s.modBank b fun r => { r with supplyOff := true, brownout := r.brownout || r.reached }
    Audit.raiseIf r.reached (0x1000 + b * 16) s

/-- R164: one unit after SupplyOff, according to the state it pre-empted. -/
def resume (n : Nat) (s : State) : State :=
  let c := s.cell n
  let l := s.unitAll n
  if c.preempted = 4 then s.modCells l fun c => { c with prot := 4 }
  else if c.preempted = 2 ∨ c.preempted = 3 then
    (Teller.withdraw (governor s n) s).modCells l fun c => { c with prot := 2, tripAt := s.ticks }
  else
    let s := s.modCells l fun c => { c with prot := 0, offAt := if c.cmd = 0 then some s.ticks else none }
    if Chan.conducts c.cmd ∧ !Cells.unproven s n c.cmd then
      if c.loanPending then s
      else Cells.askTurnOn n c.cmd false (s.modCells (s.crew n) fun x => { x with want := c.cmd, loanDeclined := false })
    else s

/-- R164: BATb has been above 6.5 V for 100 µs. -/
def supplyBack (b : Nat) (s : State) : State :=
  let r := s.bank b
  if r.supplyOff ∧ 6500 < r.supplyMv ∧ s.elapsed r.highAt 100 ∧ !r.unpowered then
    let s := s.modBank b fun r => { r with supplyOff := false, reached := true }
    (Escrow.heads s (Escrow.bankCells b)).foldl (fun s n => resume n s) s
  else s

/-- R168, R177: a gang re-forms from its declaration, the earlier one being `old`: the OpenOn flags that isolation set clear, a
takeover request is withdrawn, and every declared member is active with the reserve standing by. -/
def reform (g old : Nat) (s : State) : State :=
  let b := field old 0 4 * 32
  let s := (GangConfig.reserve old).toList.foldl (fun s p => Teller.withdraw (b + p) s) s
  let s := (s.gang g).isolated.foldl (fun s q => s.wrBit (0x4400 + b + q) 1 0 false) s
  quietAll g (s.modGang g fun _ => {})

/-- R165: the bank logic resets below 3.0 V; protection states, RetriesUsed and proofs are lost, and gangs re-form
(R177). -/
def powerLoss (b : Nat) (s : State) : State :=
  let r := s.bank b
  if r.unpowered ∨ 3000 ≤ r.supplyMv then s
  else
    let s := (Escrow.bankCells b).foldl (fun s n =>
      let s := Cells.setRetries [n] 0 (Cells.switch1 n 0 0 s)
      let s := if (s.cell n).loanPending then Teller.withdraw (s.requester n) s else s
      s.modCell n fun c => { c with
        prot := 5, preempted := 0, proven := false, thermalOff := false, hot := false, frozen := false,
        loanPending := false, offAt := none }) s
    let s := (Escrow.bankCells b).foldl (fun s n => Cells.returnIfOff n s) s
    let s := s.gangList.foldl (fun s p => if field p.2 0 4 = b then reform p.1 p.2 s else s) s
    s.modBank b fun r => { r with
      unpowered := true, supplyOff := true, aligned := false, reached := false, queue := [], phases := r.phases }

/-- R165: the bank logic returns 100 µs after BATb has risen above 6.5 V: it realigns, and every cell is reconciled with its committed command. -/
def powerBack (b : Nat) (s : State) : State :=
  let r := s.bank b
  if r.unpowered ∧ 6500 < r.supplyMv ∧ s.elapsed r.highAt 100 then
    let s := s.modBank b fun r => { r with unpowered := false, supplyOff := false, reached := true }
    let s := s.modCells (Escrow.bankCells b) fun c => { c with prot := 0, offAt := some s.ticks }
    (Escrow.heads s (Escrow.bankCells b)).foldl (fun s n => Escrow.compare n s) s
  else s

/-- The FieldSupply band of a supply voltage in mV: 0 absent, 1 low, 2 present (R289). -/
def band (mv : Nat) : Nat := if mv < 4500 then 0 else if mv < 8000 then 1 else 2

/-- The condition of SUPPLY_ABSENT: BATb below 4.5 V while a cell of the bank is commanded other than OFF or FLOAT (Table
04-15). -/
def absent (s : State) (b : Nat) : Bool :=
  decide ((s.bank b).supplyMv < 4500) && (Escrow.bankCells b).any fun n => decide (Chan.command s n ≠ 0 ∧ Chan.command s n ≠ 5)

/-- SUPPLY_ABSENT of a bank is raised as its condition begins, by the supply or by a command (R136). -/
def watchAbsent (b : Nat) (s : State) : State :=
  let a := absent s b
  if a = (s.bank b).absentTold then s
  else (Audit.raiseIf a (0x1000 + b * 16 + 5) s).modBank b fun r => { r with absentTold := a }

/-- SUPPLY_ABSENT of every bank. -/
def watchAbsentAll (s : State) : State := (List.range 16).foldl (fun s b => watchAbsent b s) s

/-- BATb crosses a threshold: SUPPLY_ABSENT as its state begins (Table 04-15); what BankStatus shows follows the supply, and no
freewheel proof runs on below 8 V (R155). -/
def supplyLevel (b mv : Nat) (s : State) : State :=
  let s := s.modBank b fun r => { r with
    supplyMv := mv, bandAt := if band mv = band r.supplyMv then r.bandAt else s.ticks,
    highAt := if 6500 < r.supplyMv then r.highAt else s.ticks,
    reached := r.reached || (decide (6500 ≤ mv) && !r.unpowered), overVoltage := r.overVoltage && decide (32000 < mv) }
  let s := if mv < 8000 then s.modCells ((Escrow.bankCells b).filter fun n => (s.cell n).prot = 6) fun c => { c with prot := 0 } else s
  watchAbsent b s

/-- OVERVOLTAGE: BATb above 32 V for 1 ms raises the source as the state begins (R136, Table 04-15). -/
def overvoltage (b mv : Nat) (s : State) : State :=
  let s := supplyLevel b mv s
  let c := decide (32000 < mv) && !(s.bank b).unpowered
  let s := Audit.raiseIf (c && !(s.bank b).overVoltage) (0x1000 + b * 16 + 3) s
  s.modBank b fun r => { r with overVoltage := c }

/-- The alignment error of a bank in ns. -/
def alignment (s : State) (b : Nat) : Int := signed 32 (s.rd (0x4900 + b) 0x0A)

/-- A bank at `err` ns from module time is aligned: within 50 ns of module time, and of every bank that is aligned (R127). -/
def aligns (s : State) (b : Nat) (err : Int) : Bool :=
  decide (err.natAbs ≤ 50) && (List.range 16).all fun k =>
    decide (k = b) || !(s.bank k).aligned || decide ((err - alignment s k).natAbs ≤ 50)

/-- TIME_ALIGNED: the bank's clock stands `err` ns from module time, of which it stays within 1 µs before its alignment, so that
two banks differ by at most 2 µs; beyond 50 ns after it was aligned ALIGN_LOST begins (R127, Table 04-15).
DESIGN CHOICE: notes/assumptions/65.md. -/
def timeAligned (b : Nat) (err : Int) (s : State) : State :=
  if (s.bank b).unpowered ∨ (s.bank b).resetting then s
  else
    let err := if (s.bank b).aligned then err else max (-1000) (min 1000 err)
    let fits := aligns s b err
    let s := s.wr (0x4900 + b) 0x0A (rawOf 32 (satSigned 32 err))
    let far := decide (50 < err.natAbs)
    let lost := far && ((s.bank b).aligned || (s.bank b).alignLost)
    let s := Audit.raiseIf (lost && !(s.bank b).alignLost) (0x1000 + b * 16 + 4) s
    s.modBank b fun r => { r with aligned := r.aligned || fits, alignLost := lost }

/-- CLOCK_FAULT: the measured bank clock; outside 36 MHz to 44 MHz for 10 ms it is a fault, told as it begins (R479). -/
def clockFault (b hz : Nat) (s : State) : State :=
  if (s.bank b).unpowered then s
  else
    let s := s.wr (0x4900 + b) 9 (min hz u32max)
    let bad := decide (hz < 36000000 ∨ 44000000 < hz)
    let s := Audit.raiseIf (bad && !(s.bank b).clockFault) (0x1000 + b * 16 + 2) s
    s.modBank b fun r => { r with clockFault := bad }

/-! ### Freewheel proof (R152 to R157) -/

/-- The state in which a proof may run: the command OFF, in Normal, with the bank supply at 8 V or more (R155). -/
def proofReady (s : State) (n : Nat) : Bool :=
  let c := s.cell n
  decide (Chan.loadClass s n = 5 ∧ s.head n = n ∧ c.cmd = 0 ∧ (s.cell (s.lead n)).drive = 0 ∧ c.prot = 0 ∧
    8000 ≤ (s.bank (n / 32)).supplyMv)

/-- A proof is due: asked for, 5 ms after an entry to OFF, or 60 s after the last one began (R155). -/
def proofDue (s : State) (n : Nat) : Bool :=
  let c := s.cell (s.lead n)
  (s.cell n).proofAsked || (match c.offAt, c.proofAt with
    | some o, some p => if o ≤ p then s.elapsed p 60000000 else s.elapsed o 5000
    | some o, none => s.elapsed o 5000
    | none, _ => false)

/-- R155: the proof starts; `proofAt` is the tick of it. DESIGN CHOICE: notes/assumptions/61.md. -/
def proofStart (n : Nat) (s : State) : State :=
  if proofReady s n && proofDue s n then
    s.modCells (s.crew n) fun c => { c with
      prot := 6, proofFrom := s.ticks, proofAt := some s.ticks, proofAsked := false, pulling := false, drops25 := [], drops50 := [] }
  else s

/-- The drop that a proof measures on a cell at a sample, in 10 mV (Table 05-6). -/
def drop (s : State) (n : Nat) : Int :=
  let pin := (s.cell n).pins.headD 0
  if Chan.mode s n = 1 then -pin
  else match s.coilGroupOf n with
    | some (p, rs) => if rs.contains n then pin - (s.cell (s.lead p)).pins.headD 0 else pin - ((s.bank (n / 32)).supplyMv / 10 : Nat)
    | none => pin - ((s.bank (n / 32)).supplyMv / 10 : Nat)

/-- R152: a sample of a running proof enters the measurement of its step in the last 200 µs of the step. -/
def proofSample (n : Nat) (s : State) : State :=
  let c := s.cell n
  let t := s.ticks - c.proofFrom
  if c.prot ≠ 6 ∨ s.lead n ≠ n then s
  else if 800 ≤ t ∧ t < 1000 then s.modCell n fun c => { c with drops25 := (drop s n :: c.drops25).take 10 }
  else if 1800 ≤ t ∧ t < 2000 then s.modCell n fun c => { c with drops50 := (drop s n :: c.drops50).take 10 }
  else s

/-- V50 and V25 in mV pass (R153). -/
def proofPasses (v25 v50 : Int) : Bool := decide (300 ≤ v50 ∧ v50 ≤ 1100 ∧ 0 ≤ v50 - v25 ∧ v50 - v25 ≤ 100)

/-- A flag of DiagnosticFlags set; a source of the channel is raised as it goes from 0 to 1 (R167). -/
def flag (n bit : Nat) (v : Bool) (kind : Nat) (s : State) : State :=
  let old := s.rdBit (0x4400 + n) 1 bit
  Audit.raiseIf (v && !old) (n * 8 + kind) (s.wrBit (0x4400 + n) 1 bit v)

/-- R152, R153: the proof ends 2 ms after its start, its two steps measured as the means of their last ten samples, and sets or
clears FreewheelProven; a gang's result holds for every member and the reserve. Where no ten samples of a step have come, the
command's own value in mV is its drop. DESIGN CHOICE: notes/assumptions/61.md. -/
def proofComplete (n : Nat) (v25 v50 : Int) (s : State) : State :=
  let c := s.cell (s.lead n)
  if c.prot = 6 ∧ c.proofFrom + 2000 ≤ s.ticks ∧ s.head n = n then
    let v25 := if c.drops25.length = 10 then c.drops25.sum else v25
    let v50 := if c.drops50.length = 10 then c.drops50.sum else v50
    let ok := proofPasses v25 v50
    let short := decide (v50 < 300)
    let l := s.unitAll n
    let s := s.modCells l fun c => { c with prot := if c.prot = 6 then 0 else c.prot, proven := ok }
    l.foldl (fun s m =>
      let s := flag m 5 short 3 (flag m 4 (!ok && !short) 3 s)
      (((s.wr (0x4400 + m) 8 (min 65535 (v50.toNat / 10))).wr (0x4400 + m) 9 (min 65535 (v25.toNat / 10))).wr
        (0x4400 + m) 0x0A s.now).wr (0x4400 + m) 0x0D 0) s
  else s

/-! ### Load diagnostics (R158 to R161, R172) -/

/-- DiagnosticsPaused (R158, R162). -/
def paused (s : State) (n : Nat) : Bool :=
  let c := s.cell n
  let mv := (s.bank (n / 32)).supplyMv
  !(s.active ⟨1, n / 32⟩ && decide (8000 ≤ mv ∧ mv ≤ 32000 ∧ c.drive ≠ 5 ∧ c.prot ≠ 5 ∧ c.prot ≠ 6 ∧
    c.changedAt + 1000 ≤ s.ticks))

/-- DiagnosticFlags as it reads (Table 05-11). -/
def flags (s : State) (n : Nat) : Nat := setBit (s.rd (0x4400 + n) 1) 6 (paused s n)

/-- How the off-state cycle pulls a pin: 0 up, 1 down, 2 not at all (Tables 05-2, 05-7); a bridge leg has its own. -/
def pull (s : State) (n : Nat) : Nat :=
  match Chan.mode s n with
  | 1 => 0
  | 2 => 1
  | 3 => s.rdField (0x4000 + n) 0x16 3 2
  | _ => 2

/-- R159: an off-state cycle begins its pull phase. -/
def cycle (n : Nat) (s : State) : State :=
  let c := s.cell n
  let due : Bool := match c.cycleAt with
    | some t => s.elapsed t (s.rd (0x4000 + n) 0x17 * 10000)
    | none => true
  let both := !((s.loanHeads (s.requester n)).flatMap s.unit).any fun m => Cells.conducting (s.cell m)
  if c.drive = 0 ∧ due ∧ s.rdBit (0x4000 + n) 0x16 0 ∧ !paused s n ∧ diagnosed s n ∧
      (if (s.bridgeOf n).isSome then both else decide (pull s n ≠ 2)) then
    s.modCell n fun c => { c with cycleAt := some s.ticks, pulling := true }
  else s

/-- The pin reads open at the end of the pull phase; pins in mV (Table 05-7). -/
def readsOpen (s : State) (n : Nat) (pin partner : Int) : Bool :=
  if (s.bridgeOf n).isSome then decide ((if s.volt24 then 4000 else 2000) ≤ pin - partner)
  else if pull s n = 1 then decide (pin * 2 ≤ ((s.bank (n / 32)).supplyMv : Int))
  else decide ((if s.volt24 then 6000 else 3000) ≤ pin)

/-- WIRED_OR by read-back holds for a cell, which then reports it in place of STUCK_HIGH or OPEN_OFF (R160). -/
def wiredRead (c : Cell) : Bool := c.wired.any fun w => !w.byCurrent

/-- R159: the end of the pull phase. Two open cycles in a row set OpenOff, on both legs of a bridge; one that is not open
clears it. Where the conditions of R158 have failed meanwhile, the cycle gives no result. -/
def evaluate (n : Nat) (pin partner : Int) (s : State) : State :=
  let c := s.cell n
  if c.pulling ∧ c.cycleAt.elim false (fun t => s.elapsed t 1000) then
    if paused s n then s.modCell n fun c => { c with pulling := false }
    else
      let o := readsOpen s n pin partner
      let l := match s.bridgeOf n with
        | some (a, b, _) => [a, b]
        | none => [n]
      let k := if o then c.openCycles + 1 else 0
      let s := s.modCell n fun c => { c with pulling := false, openCycles := k }
      l.foldl (fun s m =>
        if !o then flag m 1 false 3 s
        else if 2 ≤ k ∧ !wiredRead (s.cell m) then flag m 1 true 3 s else s) s
  else s

/-- R159: STUCK_HIGH has held in every qualifying sample for 5 ms. -/
def stuckConfirm (n : Nat) (s : State) : State :=
  if (s.cell n).stuckAcc.elim false (fun a => decide (5000 ≤ a)) ∧ !wiredRead (s.cell n) ∧ !paused s n then flag n 2 true 4 s else s

/-- R159: the current has stayed below OpenOnThreshold in every qualifying sample for OpenOnTime. -/
def openOnConfirm (n : Nat) (s : State) : State :=
  if (s.cell n).openOnAcc.elim false (fun a => decide (s.rd (0x4000 + n) 0x15 * 1000 ≤ a)) ∧ !paused s n then flag n 0 true 2 s else s

/-- The confirmed WIRED_OR pairs of a cell as (partner, by current), partners rising; a pair is kept by either of its cells
(R160). -/
def wiredPairs (s : State) (x : Nat) : List (Nat × Bool) :=
  (Escrow.bankCells (x / 32)).flatMap fun m =>
    (((s.cell x).wired.filter fun w => w.told && decide (w.partner = m)) ++
      (s.cell m).wired.filter fun w => w.told && decide (w.partner = x)).map fun w => (m, w.byCurrent)

/-- What a cell shows of its confirmed pairs: WIRED_OR with the lowest-numbered partner, or none (R160). -/
def showWired (x : Nat) (s : State) : State :=
  match wiredPairs s x with
  | p :: _ => (flag x 3 true 5 (s.wrBit (0x4400 + x) 1 7 p.2)).wr (0x4400 + x) 7 p.1
  | [] => ((s.wrBit (0x4400 + x) 1 3 false).wrBit (0x4400 + x) 1 7 false).wr (0x4400 + x) 7 0xFFFF

/-- The ticks for which a WIRED_OR condition holds before it is reported (Table 05-7). -/
def wiredTime (byCurrent : Bool) : Nat := if byCurrent then 1000 else 5000

/-- R160: a WIRED_OR condition of cell `n` with cell `a` has held for 5 ms by read-back, or for 1 ms by current. Both cells report
it, and by read-back the off cell no longer reports STUCK_HIGH or OPEN_OFF. -/
def wiredConfirm (a n : Nat) (s : State) : State :=
  let due (w : Wired) : Bool := decide (w.partner = a ∧ wiredTime w.byCurrent ≤ w.ticks)
  if (s.cell n).wired.any due ∧ !paused s n ∧ !paused s a then
    let read := (s.cell n).wired.any fun w => due w && !w.byCurrent
    let s := s.modCell n fun c => { c with wired := c.wired.map fun w => if due w then { w with told := true } else w }
    let s := if read then (s.wrBit (0x4400 + n) 1 1 false).wrBit (0x4400 + n) 1 2 false else s
    showWired n (showWired a s)
  else s

end Protect

end Sys2Proof.Machine
end

