-- ==== Sys2Proof/Machine/Gangs.lean ====
section
/-! DEFINITION. Gangs, reserve takeover, PWM and the inrush window (chapter 06, R168 to R187). -/

namespace Sys2Proof.Machine

namespace Gangs

/-! ### Gangs and reserve takeover (R168 to R177) -/

/-- GangConfig of a gang. -/
def config (s : State) (g : Nat) : Nat := s.rd (0x4800 + g) 1

/-- The reserve stands by: declared, not in use and not isolated. -/
def standsBy (s : State) (g : Nat) : Bool :=
  (GangConfig.reserve (config s g)).isSome && !(s.gang g).reserveIn

/-- A member is isolated and no reserve replaces it (Table 06-3). -/
def degraded (r : Gang) : Bool := decide ((if r.reserveIn && !r.pending then 1 else 0) < r.isolated.length)

/-- GangStatus (Table 06-3). -/
def status (s : State) (g : Nat) : Nat :=
  let v := config s g
  let r := s.gang g
  if bitOf v 15 then
    (s.activeMembers g v).length + b01 (r.reserveIn && !r.pending) * 2 ^ 4 + b01 (degraded r) * 2 ^ 5
      + b01 r.pending * 2 ^ 6 + b01 r.candidate.isSome * 2 ^ 7 + (r.isolated.head?.getD 0) * 2 ^ 8
  else 0

/-- R168: a committed GangConfig re-forms the gang from the old declaration `old`. -/
def reform (g old : Nat) (s : State) : State := Protect.reform g old s

/-- The takeover request of a gang (R175, kind 4 of Table 07-4). -/
def takeoverLoan (s : State) (v : Nat) : Loan :=
  let n := field v 0 4 * 32 + (GangConfig.reserve v).getD 0
  Teller.channelLoan s n 4 (Chan.currentLimit s n) 10000 0 1 (Teller.pathMilli s n (Chan.command s (GangConfig.lowest v)))

/-- The failed member turns off and is isolated; OPEN_ON is raised on its channel, and its other flags read 0 (R172, R175,
R176). -/
def isolate (g p confirmed : Nat) (s : State) : State :=
  let v := config s g
  let n := field v 0 4 * 32 + p
  let s := Cells.switch1 n 0 0 s
  let s := Protect.flag n 0 true 2 (s.modCell n fun c => { c with offAt := none })
  (Protect.quiet n [1, 2, 3, 7] s).modGang g fun r => { r with
    isolated := r.isolated ++ [p], candidate := none, heldFor := 0,
    offStamp := s.stamp (field v 0 4), latency := s.ticks - confirmed }

/-- R175 step 4: the reserve is in use. -/
def taken (g : Nat) (s : State) : State :=
  let r := s.gang g
  (((s.modGang g fun r => { r with failing := none, pending := false, retryAt := none }).inc (0x4800 + g) 4).wr
    (0x4800 + g) 5 r.offStamp).wr (0x4800 + g) 6 (min u32max r.latency)

/-- R176: the takeover loan is not to be had: the member is isolated without replacement, and the loan is asked again every
10 ms. -/
def unlent (g : Nat) (s : State) : State :=
  let s := match (s.gang g).failing with
    | some (p, t) => isolate g p t s
    | none => s
  s.modGang g fun r => { r with pending := false, failing := none, retryAt := some (s.ticks + 10000) }

/-- The takeover loan is requested; one that the Teller refuses with STATE (R192) is taken as declined. -/
def ask (g : Nat) (s : State) : State :=
  let r := Teller.request (takeoverLoan s (config s g)) false (s.modGang g fun r => { r with pending := true, retryAt := none })
  if r.2 = .ok then r.1 else unlent g r.1

/-- R175, R176: the imbalance is confirmed. A reserve that stands by asks its takeover loan; without one the member is
isolated at once. -/
def confirm (g : Nat) (s : State) : State :=
  let v := config s g
  let r := s.gang g
  match r.candidate with
  | some p =>
    if bitOf v 15 ∧ 10000 ≤ r.heldFor ∧ r.failing.isNone then
      if standsBy s g ∧ !r.pending then ask g (s.modGang g fun r => { r with failing := some (p, s.ticks), candidate := none, heldFor := 0 })
      else isolate g p s.ticks s
    else s
  | none => s

/-- R175 step 2: at the grant the reserve applies the gang's command at the next bank slot; TakeoverPending stands until the
takeover is complete. For a gang that is off the loan ends at once (R189). -/
def granted (n : Nat) (s : State) : State :=
  match s.gangOf n with
  | some (g, v) =>
    let h := GangConfig.lowest v
    let c := s.cell h
    let on := (s.unit h).any fun m => Cells.conducting (s.cell m)
    let s := s.modGang g fun r => { r with reserveIn := true }
    let s := s.modCell n fun x => { x with
      cmd := c.cmd, want := c.want, wantDuty := c.wantDuty, frozen := c.frozen, prot := if x.prot = 5 then 5 else c.prot, committedAt := s.ticks }
    if on then
      s.modBank (n / 32) fun b => { b with queue := b.queue ++ [{ chan := n, cmd := c.want, duty := c.wantDuty, at_ := s.ticks, granted := true, join := true }] }
    else
      let s := Teller.giveBack n s
      if (s.gang g).failing.isNone then taken g s else s
  | none => s

/-- R176: the takeover loan is declined. -/
def declined (n : Nat) (s : State) : State :=
  match s.gangOf n with
  | some (g, _) => unlent g s
  | none => s

/-- R175 steps 3 and 4: the failed member is released at the slot that follows the reserve's first conduction; a reserve that joins
after a declined loan is in use then. -/
def release (g : Nat) (s : State) : State :=
  let r := s.gang g
  if r.reserveIn ∧ r.pending then
    match r.failing with
    | some (p, t) => taken g (isolate g p t s)
    | none => taken g s
  else s

/-- The gangs of a bank whose reserve has begun to conduct in a takeover that is not complete. -/
def releasable (s : State) (b : Nat) : List Nat :=
  (s.gangList.filter fun p =>
    let c := s.cell (b * 32 + (GangConfig.reserve p.2).getD 0)
    decide (field p.2 0 4 = b) && (s.gang p.1).pending && (s.gang p.1).reserveIn && Cells.conducting c && (!c.fresh || c.onPhase)).map (·.1)

/-- R175: confirmation + 2 ms passes with the reserve held off by its own protection. -/
def deadline (g : Nat) (s : State) : State :=
  if (s.gang g).failing.elim false (fun p => s.elapsed p.2 2000) then release g s else s

/-- R176: the declined takeover loan is requested again while the gang conducts. -/
def retry (g : Nat) (s : State) : State :=
  let v := config s g
  if bitOf v 15 ∧ (s.gang g).retryAt.elim false (fun t => decide (t ≤ s.ticks)) ∧ standsBy s g ∧
      (s.activeMembers g v).any fun m => Cells.conducting (s.cell m) then ask g s
  else s

/-- The switch of a channel that conducts has done so for `d` µs: the present on-phase or low-side phase under PWM, else
since the last change (R159, R174, R179). -/
def steady (s : State) (n d : Nat) : Bool :=
  let c := s.cell n
  let h := s.head n
  let p := Chan.pwmPeriod s h
  if c.drive ≠ 3 ∨ c.fresh then decide (c.changedAt + d ≤ s.ticks)
  else if c.onPhase ∨ Chan.mode s n = 2 then decide (d ≤ (s.now / 1000 + p - Chan.phase s h % p) % p)
  else decide (c.onEnd + Chan.deadTime s n + d * 1000 ≤ s.now)

/-- One member's current at the last sample, in counts. -/
def last (s : State) (n : Nat) : Int := (s.cell n).curs.headD 0

/-- The conditions under which imbalance is evaluated at a sample, among them a mean of at least 250 mA (R174). Magnitudes are
compared. DESIGN CHOICE: notes/assumptions/62.md. -/
def evaluated (s : State) (g v : Nat) (ms : List Nat) : Bool :=
  let c := s.cell (ms.headD 0)
  decide (2 ≤ ms.length) && Cells.onNow c && steady s (ms.headD 0) 10 && decide (c.changedAt + 1000 ≤ s.ticks)
    && decide (c.winTo = 0) && ms.all (fun n => decide ((s.cell n).prot ≠ 1)) && (s.gang g).failing.isNone && bitOf v 15
    && decide (250 * 100 * ms.length ≤ (ms.map fun n => (last s n).natAbs).sum * 625)

/-- R174: the candidate is the member with the lowest current among those more than 35 % below the mean, the lowest
position on a tie. -/
def candidate (s : State) (ms : List Nat) : Option Nat :=
  let cur n := (last s n).natAbs
  let total := (ms.map cur).sum
  (ms.filter fun n => decide (cur n * ms.length * 100 < total * 65)).foldl (fun a n => match a with
    | some m => if cur n < cur m then some n else a
    | none => some n) none

/-- R174 at a sample instant: GangCurrent, and the candidate's timer; samples that are not evaluated hold it. -/
def sample (g v : Nat) (s : State) : State :=
  let ms := s.activeMembers g v
  let s := s.wr (0x4800 + g) 3 (rawOf 32 ((ms.map fun n => last s n * 625).sum.tdiv 100))
  if evaluated s g v ms then
    match candidate s ms with
    | some n => s.modGang g fun r =>
        if r.candidate = some (n % 32) then { r with heldFor := r.heldFor + (s.ticks - r.lastEval), lastEval := s.ticks }
        else { r with candidate := some (n % 32), heldFor := 0, lastEval := s.ticks }
    | none => s.modGang g fun r => { r with candidate := none, heldFor := 0, lastEval := s.ticks }
  else s.modGang g fun r => { r with lastEval := s.ticks }

/-! ### PWM (R179 to R185) -/

/-- R181: the phases a bank assigns when it enters Active: the cells with PhaseSpread, a gang counted once at its lowest
declared member, grouped by period and spread in position order. -/
def assignPhases (b : Nat) (s : State) : State :=
  let l := (Escrow.bankCells b).filter fun n => s.head n = n ∧ s.rdBit (0x4000 + n) 0x1A 2
  let one n :=
    let p := Chan.pwmPeriod s n
    let grp := l.filter fun m => Chan.pwmPeriod s m = p
    (n % 32, (grp.filter (· < n)).length * p / grp.length)
  s.modBank b fun r => { r with phases := l.map one }

/-- t_min of a channel in ns (Table 06-6). -/
def tMin (s : State) (n : Nat) : Nat :=
  match s.rdField (0x4000 + n) 0x1A 0 2 with
  | 0 => 2000
  | 1 => 5000
  | _ => 15000

/-- The duty of a period that starts now, out of 65,536: the soft start's ramp, or the committed duty (R108, R185);
HOLD_LAST freezes it (R107). -/
def dutyNow (s : State) (n : Nat) : Nat :=
  let c := s.cell n
  let soft := Chan.softStart s n
  let tau := s.ticks - c.winFrom
  if !c.frozen ∧ c.winTo ≠ 0 ∧ soft ≠ 0 ∧ tau < soft ∧ Chan.lamp (Chan.loadClass s n) then
    let target := if c.want = 3 then c.wantDuty else 65536
    let x := min soft (tau + Chan.pwmPeriod s n)
    if Chan.loadClass s n = 1 then target * x / soft else target * x * x / (soft * soft)
  else if c.frozen then c.duty else c.wantDuty

/-- The on-time of a period in ns (R180): rounded to whole bank-clock cycles, then the minimum phases.
DESIGN CHOICE: notes/assumptions/63.md. -/
def onTime (s : State) (n duty : Nat) : Nat :=
  let p := Chan.pwmPeriod s n * 1000
  let hz := let f := s.rd (0x4900 + n / 32) 9; if f = 0 then 40000000 else f
  let t := divRound (divRound (duty * p * hz) (65536 * 1000000000) * 1000000000) hz
  let off := tMin s n + (if Chan.mode s n = 3 then 2 * Chan.deadTime s n else 0)
  if t < tMin s n then 0 else if p < t + off then p - off else t

/-- A period starts now on the grid of module time (R179). -/
def gridNow (s : State) (n : Nat) : Bool :=
  let p := Chan.pwmPeriod s n
  decide (s.now / 1000 % p = Chan.phase s n % p)

/-- The soft start of an ON command has reached its end (R185). -/
def softOver (s : State) (n : Nat) : Bool :=
  let c := s.cell n
  c.soft && !c.frozen && decide (c.winFrom + Chan.softStart s n ≤ s.ticks)

/-- R179 to R185: a period starts; its on-phase begins with the duty committed now. A channel's unit is read at the lowest cell that
switches, also while the lowest declared member is isolated. -/
def periodStart (n : Nat) (s : State) : State :=
  let c := s.cell (s.lead n)
  let l := (s.unit n).filter fun m => (s.cell m).drive = 3
  if c.drive = 3 ∧ s.head n = n ∧ gridNow s n then
    if softOver s n then (Cells.switchTo l (s.cell n).want 0 s).modCells (s.crew n) fun c => { c with soft := false }
    else
      let d := dutyNow s n
      let t := onTime s n d
      let low := decide (Chan.mode s n = 3)
      l.foldl (fun s m => Cells.change m (fun c => { c with
        duty := d, onPhase := decide (t ≠ 0), onEnd := s.now + t, lowSide := false, fresh := c.fresh && !low }) s) s
  else s

/-- R180: the on-time of a period elapses. -/
def onEnd (n : Nat) (s : State) : State :=
  let c := s.cell (s.lead n)
  if c.drive = 3 ∧ c.onPhase ∧ c.onEnd ≤ s.now ∧ s.head n = n then
    ((s.unit n).filter fun m => (s.cell m).drive = 3).foldl (fun s m => Cells.change m (fun c => { c with onPhase := false, lowSide := false }) s) s
  else s

/-- R184: the inrush window ends: the limit returns to CurrentLimit and the loan is returned. -/
def windowEnd (n : Nat) (s : State) : State :=
  let c := s.cell n
  if c.winTo ≠ 0 ∧ c.winTo ≤ s.ticks then
    Teller.giveBack (s.requester n) (s.modCells (s.crew n) fun c => { Cells.tally s.ticks c with winTo := 0 })
  else s

end Gangs

end Sys2Proof.Machine
end

