-- ==== Sys2Proof/Machine/Measure.lean ====
section
/-! DEFINITION. Measurements: what one sample set and one temperature set do to the measurement entries, the diagnostics'
timers, the bank entries and the Teller's dissipation estimate (R117 to R123, R159, R160, R174, R184, R196, R560). -/

namespace Sys2Proof.Machine

namespace Measure

/-- The current code a cell reports: 0 in Disabled and Monitor, otherwise held within the converter's range (R118). -/
def current (s : State) (x : CellSample) : Int :=
  let m := Chan.mode s x.chan
  if m = 0 ∨ m = 8 then 0 else satSigned 12 x.current

/-- The pin voltage code, −5.00 V to 35.95 V (R119). -/
def pin (x : CellSample) : Int := max (-500) (min 3595 x.pin)

/-- The mean of the first `k` values, rounded toward zero after scaling by `mul`. -/
def mean (l : List Int) (k : Nat) (mul : Int) : Int := if k = 0 then 0 else ((l.take k).sum * mul).tdiv k

/-- One cell's sample enters its history, its measurement entries and its averages (R118 to R121). A code at an end of its range
shows as saturated (Table 04-7). In Disabled only the temperature sensor is active (Table 04-1): the sample has current 0 and no
read-back, whose entries keep their values. DESIGN CHOICE: notes/assumptions/150.md. -/
def record (x : CellSample) (s : State) : State :=
  let n := x.chan.val
  let m := Chan.mode s n
  let i := current s x
  let v := if m = 0 then (s.cell n).pins.headD 0 else pin x
  let w := 2 ^ s.rd (0x4000 + n) 9
  let hs := Cells.switchOn s n true
  let ls := Cells.switchOn s n false
  let s := s.modCell n fun c => { c with
    curs := (i :: c.curs).take 1024, pins := (v :: c.pins).take 1024, avgCount := min (c.avgCount + 1) w,
    curSat := decide (i = -2048 ∨ i = 2047), voltSat := decide (m ≠ 0 ∧ (v = -500 ∨ v = 3595)), hsOn := hs, lsOn := ls }
  let c := s.cell n
  let s := (s.wr (0x4600 + n) 1 (rawOf 16 i)).wr (0x4600 + n) 2 (rawOf 32 (mean c.curs c.avgCount 6250))
  let s := if m = 0 then s else
    (s.wr (0x4600 + n) 3 (rawOf 16 v)).wr (0x4600 + n) 4 (rawOf 16 (mean c.pins c.avgCount 1))
  s.wr (0x4600 + n) 6 s.now

/-- A write of AverageWindow restarts both averages (R121). -/
def restart (n : Nat) (s : State) : State := s.modCell n fun c => { c with avgCount := 0 }

/-- LastInrushPeak: the largest sample of the open window, by magnitude and with its sign (R118); a gang's is its members' sum,
kept at the lowest declared member (R184). -/
def peak (n : Nat) (s : State) : State :=
  let c := s.cell n
  if c.winTo ≠ 0 ∧ s.head n = n then
    let i := ((s.unit n).map fun m => (s.cell m).curs.headD 0).sum
    if c.peak.natAbs < i.natAbs then (s.modCell n fun c => { c with peak := i }).wr (0x4000 + n) 0x1F (rawOf 16 (satSigned 16 i)) else s
  else s

/-- The STUCK_HIGH timer at a sample (R159): samples of a pull phase neither count nor interrupt. -/
def stuck (n : Nat) (s : State) : State :=
  let c := s.cell n
  let m := Chan.mode s n
  if (m = 1 ∨ m = 3) ∧ c.drive = 0 ∧ s.rdBit (0x4000 + n) 0x16 1 ∧ !c.pulling ∧ !Protect.paused s n ∧
      Protect.diagnosed s n then
    if c.pins.headD 0 * 1000 > ((s.bank (n / 32)).supplyMv : Int) * 60 then
      s.modCell n fun c => { c with stuckAcc := some (c.stuckAcc.elim 0 (· + 20)) }
    else (s.modCell n fun c => { c with stuckAcc := none }).wrBit (0x4400 + n) 1 2 false
  else s

/-- The current that OPEN_ON compares, in counts: GangCurrent for a gang (R172). -/
def loadCounts (s : State) (n : Nat) : Nat := ((s.unit n).map fun m => (s.cell m).curs.headD 0).sum.natAbs

/-- The supply of the coil group whose return is channel `n` has tripped and not conducted since (R149). -/
def supplyDown (s : State) (n : Nat) : Bool :=
  match s.coilGroupOf n with
  | some (p, rs) =>
    let c := s.cell (s.lead p)
    rs.contains n && (decide (2 ≤ c.prot ∧ c.prot ≤ 4) || decide (c.tripAt ≠ 0 ∧ c.conductSince ≤ c.tripAt))
  | none => false

/-- The OPEN_ON timer at a sample that qualifies: the switch has conducted for 10 µs, outside Limiting and outside the
inrush window (R159, R172, R184); it holds while a tripped supply carries no current (R149). -/
def openOn (n : Nat) (s : State) : State :=
  let c := s.cell n
  let h := s.head n
  let t := s.rd (0x4000 + h) 0x14
  if t ≠ 0 ∧ Cells.conducting c ∧ Cells.side s n ≠ 0 ∧ c.prot = 0 ∧ c.winTo = 0 ∧
      Gangs.steady s n 10 ∧ !supplyDown s n ∧ !Protect.paused s n ∧ Protect.diagnosed s n then
    if loadCounts s n * 625 < t * 100 then s.modCell n fun c => { c with openOnAcc := some (c.openOnAcc.elim 0 (· + 20)) }
    else (s.modCell n fun c => { c with openOnAcc := none }).wrBit (0x4400 + n) 1 0 false
  else s

/-- Two cells of one bank, each the lowest active member of its unit, both with WiredOrEnable (R160, R172). -/
def comparable (s : State) (a n : Nat) : Bool :=
  decide (a ≠ n ∧ a / 32 = n / 32) && Protect.diagnosed s a && Protect.diagnosed s n && s.rdBit (0x4000 + n) 0x16 2 && s.rdBit (0x4000 + a) 0x16 2

/-- The read-back condition between conducting cell `a` and off cell `n`: their pins lie within 150 mV (Table 05-7). -/
def wiredPins (s : State) (a n : Nat) : Bool :=
  let d := (s.cell a).pins.headD 0 - (s.cell n).pins.headD 0
  decide (d.natAbs ≤ 15)

/-- The pin of `n` moved in the first sample after `a` began to conduct (Table 05-7). DESIGN CHOICE: notes/assumptions/59.md. -/
def movedWith (s : State) (a n : Nat) : Bool :=
  let c := s.cell n
  decide (s.ticks < (s.cell a).conductSince + 20 ∧ c.pins.headD 0 ≠ (c.pins.drop 1).headD (c.pins.headD 0))

/-- The current condition: opposite currents within 10 % of each other, both Limiting (Table 05-7). -/
def wiredCurrents (s : State) (a n : Nat) : Bool :=
  let i := (s.cell a).curs.headD 0
  let j := (s.cell n).curs.headD 0
  decide ((s.cell a).prot = 1 ∧ (s.cell n).prot = 1 ∧ i * j < 0 ∧ (i + j).natAbs * 10 ≤ max i.natAbs j.natAbs)

/-- The read-back condition between off cell `n` and conducting cell `a` holds (Table 05-7). -/
def wiredHolds (s : State) (a n : Nat) : Bool :=
  decide ((s.cell n).drive = 0) && decide (Cells.side s a ≠ 0) && wiredPins s a n

/-- What one sample makes of the WIRED_OR conditions of cell `n` with cell `a`: each begins, holds or ends. A sample that does not
count, for it falls into a pull phase or outside the conditions of R158 of either cell, changes none of them. -/
def wiredStep (s : State) (n a : Nat) : List Wired :=
  let old (byCurrent : Bool) : Option Wired := (s.cell n).wired.find? fun w => decide (w.partner = a ∧ w.byCurrent = byCurrent)
  let held := Protect.paused s a || (s.cell a).pulling
  let one (byCurrent begins holds : Bool) : List Wired :=
    match old byCurrent with
    | some w => if held then [w] else if holds then [{ w with ticks := w.ticks + 20 }] else []
    | none => if !held && begins then [{ partner := a, byCurrent := byCurrent }] else []
  one false (wiredHolds s a n && movedWith s a n) (wiredHolds s a n) ++ one true (wiredCurrents s a n) (wiredCurrents s a n)

/-- The WIRED_OR conditions of one cell at a sample, with every cell of its bank; one that ends is no longer reported by either
cell (R160). -/
def wired (n : Nat) (s : State) : State :=
  let c := s.cell n
  if Protect.paused s n ∨ c.pulling then s
  else
    let l := ((Escrow.bankCells (n / 32)).filter (comparable s · n)).flatMap (wiredStep s n)
    let gone := (c.wired.filter fun w => w.told && !l.any fun x => decide (x.partner = w.partner ∧ x.byCurrent = w.byCurrent)).map (·.partner)
    let s := if l = c.wired then s else s.modCell n fun c => { c with wired := l }
    if gone.isEmpty then s else (n :: gone).foldl (fun s x => Protect.showWired x s) s

/-- Everything one cell's sample does inside its bank. -/
def cellDiag (x : CellSample) (s : State) : State :=
  let n := x.chan.val
  wired n (openOn n (stuck n (peak n (Protect.proofSample n (Protect.limitSample n ((s.cell n).curs.headD 0) x.limiter s)))))

/-- The supply's sample of a bank: SupplyVoltage, SupplyCurrent and TAB_OVERCURRENT (R123, Table 04-9).
DESIGN CHOICE: notes/assumptions/60.md. -/
def supply (b mv : Nat) (s : State) : State :=
  let s := Protect.supplyLevel b mv s
  let sum := ((Escrow.bankCells b).map fun n => ((s.cell n).curs.headD 0).toNat).sum * 625
  let s := ((s.wr (0x4900 + b) 4 (min 65535 (mv / 10))).wr (0x4900 + b) 5 (sum / 100)).wr (0x4900 + b) 0x0C s.now
  let s := s.modBank b fun r => { r with supplyMa := (sum :: r.supplyMa).take 5000 }
  let l := (s.bank b).supplyMa
  let tooHigh := decide (l.length = 5000 ∧ 3200000 * 5000 < l.sum)
  let s := Audit.raiseIf (tooHigh && !(s.bank b).tabOver) (0x1000 + b * 16 + 6) s
  s.modBank b fun r => { r with tabOver := tooHigh }

/-- p_meas of a bank in nW, 62,500 nW per count of each factor (R196). -/
def dissipation (s : State) (b : Nat) : Int :=
  let u : Int := (s.rd (0x4900 + b) 4 : Int)
  ((Escrow.bankCells b).map fun n =>
    let c := s.cell n
    let i := c.curs.headD 0
    let v := c.pins.headD 0
    if 0 < i then (u - v) * i * 62500 else if i < 0 then v * (-i) * 62500 else 0).sum

/-- R196: P_f rises at once and falls with ThermalTau. -/
def estimate (b : Nat) (s : State) : State :=
  let p := dissipation s b
  let f := Map.get 0 s.teller.pf b
  s.modTeller fun t => { t with pf := Map.put 0 t.pf b (max p (f + (p - f) * 20 / ((s.rd 0x4A00 8 : Nat) : Int))) }

/-- R196: a loan's Allowance counts until the first sample at least 1 ms after its output began to conduct. -/
def uncount (s : State) : State :=
  s.modTeller fun t => { t with loans := t.loans.map fun p => (p.1, p.2.map fun l =>
    if l.conductAt.elim false (fun c => decide (c + 1000 ≤ s.ticks)) then { l with counted := false } else l) }

/-- A conversion of all 512 cells: those a set lists with its values, every other one with the codes of its sample before, and with
no current where no switch conducts, so that a set lists what has changed (R117). DESIGN CHOICE: notes/assumptions/151.md. -/
def complete (s : State) (set : List CellSample) : List CellSample :=
  (List.finRange 512).map fun (n : Fin 512) =>
    let m := Chan.mode s n
    let idle := decide (1 ≤ m ∧ m ≤ 3 ∧ Cells.side s n = 0)
    (set.find? fun x => x.chan = n).getD
      ⟨n, if idle then 0 else (s.cell n).curs.headD 0, (s.cell n).pins.headD 0, decide ((s.cell n).prot = 1)⟩

/-- The supplies of all 16 banks of a conversion, in mV. -/
def supplies (s : State) (sup : List (Fin 16 × Nat)) : List (Fin 16 × Nat) :=
  (List.finRange 16).map fun b => (b, (sup.find? fun p => p.1 = b).elim (s.bank b).supplyMv (·.2))

/-- R117: a sample set, every 20th tick: every cell's measurements and diagnostics, the banks' supplies, the gangs and the Teller's
estimates. DEDUCED: notes/assumptions/48.md. -/
def sample (set : List CellSample) (sup : List (Fin 16 × Nat)) (logicMa : Nat) (s : State) : State :=
  let all := complete s set
  let s := all.foldl (fun s x => record x s) s
  let s := (supplies s sup).foldl (fun s p => supply p.1 p.2 s) s
  let s := all.foldl (fun s x => cellDiag x s) s
  let s := s.gangList.foldl (fun s p => Gangs.sample p.1 p.2 s) s
  let s := s.modTeller fun t => { t with
    logicMa := (logicMa :: t.logicMa).take 52, sampleAt := (s.ticks :: t.sampleAt).take 52 }
  uncount ((List.range 16).foldl (fun s b => estimate b s) s)

/-- A temperature conversion of all 512 cells, in the way of `complete`. -/
def completeTemperatures (s : State) (set : List (Fin 512 × Int)) : List (Nat × Int) :=
  (List.finRange 512).map fun (n : Fin 512) => (n.val, max (-500) (min 2000
    ((set.find? fun p => p.1 = n).elim (signed 16 (s.rd (0x4600 + n) 5)) (·.2))))

/-- R117: a temperature set, every 100th tick: each cell's sensor, and the hottest and the mean of each bank's cells. -/
def temperatures (set : List (Fin 512 × Int)) (s : State) : State :=
  let all := completeTemperatures s set
  let s := all.foldl (fun s p => s.wr (0x4600 + p.1) 5 (rawOf 16 p.2)) s
  (List.range 16).foldl (fun s b =>
    let l := ((all.drop (b * 32)).take 32).map (·.2)
    (s.wr (0x4900 + b) 6 (rawOf 16 (l.foldl max (-500)))).wr (0x4900 + b) 7 (rawOf 16 (l.sum.tdiv 32))) s

end Measure

end Sys2Proof.Machine
end

