-- ==== Sys2Proof/Machine/Coil.lean ====
section
/-! DEFINITION. Coil engines: triggers, peak loans, Boost, current regulation, dither, the shared supply, the thermal and duty
limiter, trips and escrow (chapter 08, R217 to R243). Arithmetic the manual states on reals is carried in fixed point:
currents in µA, duty in 1e-9, temperature in pK, rounded down. -/

namespace Sys2Proof.Machine

/-- The record of slot `k` of coil engine `e`. -/
def State.coil (s : State) (e k : Nat) : CoilSlot := Map.get {} s.coils (e * 4 + k)

/-- The state with a coil slot's record changed. -/
def State.modCoil (s : State) (e k : Nat) (f : CoilSlot → CoilSlot) : State :=
  { s with coils := Map.modify {} s.coils (e * 4 + k) f }

namespace Coil

/-! ### Entries and targets (R217, R241, R242) -/

/-- The place of a slot entry (R242). -/
def sub (k o : Nat) : Nat := 0x10 + 0x30 * k + o

/-- A slot entry by its offset of Table 08-5. -/
def ent (s : State) (e k o : Nat) : Nat := s.rd (0x4C00 + e) (sub k o)

/-- The state with a slot entry set. -/
def set (e k o v : Nat) (s : State) : State := s.wr (0x4C00 + e) (sub k o) v

/-- A slot's counter advanced. -/
def count (e k o : Nat) (s : State) : State := s.inc (0x4C00 + e) (sub k o)

/-- LastOutcome of a slot (Table 08-7). -/
def outcome (e k v : Nat) (s : State) : State := set e k 0x21 v s

/-- The function ID of the engine as an owner. -/
def code (e : Nat) : Nat := 0x0200 + e

/-- The bank of the target. -/
def bank (s : State) (e : Nat) : Nat := s.rdField (0x4C00 + e) 3 0 4

/-- The target is a coil group. -/
def grouped (s : State) (e : Nat) : Bool := !s.rdBit (0x4C00 + e) 3 9

/-- The CoilGroup value of the target (Table 04-12). -/
def groupValue (s : State) (e : Nat) : Nat := s.rd (0x4900 + bank s e) (0x20 + s.rdField (0x4C00 + e) 3 4 5)

/-- The supply of a coil-group target. -/
def supply (s : State) (e : Nat) : Option Nat :=
  if grouped s e ∧ s.rdField (0x4C00 + e) 3 4 5 < 8 ∧ bitOf (groupValue s e) 5 then
    some (bank s e * 32 + field (groupValue s e) 0 5) else none

/-- The coil cell of a slot: the return of a coil group, or the single cell on slot 0 (R217). -/
def cellOf (s : State) (e k : Nat) : Option Nat :=
  if grouped s e then
    if (supply s e).isSome ∧ bitOf (groupValue s e) (13 + 6 * k) then
      some (bank s e * 32 + field (groupValue s e) (8 + 6 * k) 5) else none
  else if k = 0 then some (bank s e * 32 + s.rdField (0x4C00 + e) 3 4 5) else none

/-- Every cell of the target. -/
def cells (s : State) (e : Nat) : List Nat :=
  (supply s e).elim [] s.unitAll ++ (List.range 4).filterMap (cellOf s e)

/-- The engine owns every cell of its target (R218). -/
def owns (s : State) (e : Nat) : Bool :=
  !(cells s e).isEmpty && (cells s e).all fun n => Chan.owner s n = code e

/-- ProfileMode of a slot (Table 08-1). -/
def mode (s : State) (e k : Nat) : Nat := ent s e k 0

/-- The phase that follows PeakDwell: Hold, Proportional or On (Table 08-1). -/
def sustain (s : State) (e k : Nat) : Nat :=
  match mode s e k with
  | 2 => 5
  | 3 => 7
  | _ => 4

/-- A slot is energised in Boost, PeakDwell, Hold, Proportional and On; in Proportional with a set-point below 50 mA it is
not (R220, R227). -/
def energised (s : State) (e k : Nat) : Bool :=
  let p := (s.coil e k).phase
  decide (p = 2 ∨ p = 3 ∨ p = 4 ∨ p = 7 ∨ (p = 5 ∧ 50 ≤ ent s e k 0x19))

/-- The command that turns a coil cell fully on (Table 08-2). -/
def onCommand (s : State) (n : Nat) : Nat := if Chan.mode s n = 2 then 2 else 1

/-! ### Commands to cells (R218) -/

/-- The engine commits a command of a cell it owns; while escrow holds the target it issues none (R239). -/
def command (e n cmd duty : Nat) (s : State) : State :=
  if owns s e then
    let s := s.wr (0x4000 + n) 3 cmd
    let s := if cmd = 3 then s.wr (0x4000 + n) 4 duty else s
    Cells.accept n cmd duty false s
  else s

/-- A command at a grant: it is on its way together with its loan. -/
def commandGranted (e n cmd : Nat) (s : State) : State :=
  if owns s e then
    let s := s.wr (0x4000 + n) 3 cmd
    let s := s.modCells (s.crew n) fun c => { c with
      cmd := cmd, want := cmd, loanDeclined := false, committedAt := s.ticks }
    Cells.push n cmd 0 true s
  else s

/-- The engine commits a PwmDuty, used from the next period (R108, R227). -/
def duty (e n v : Nat) (s : State) : State :=
  if owns s e then Cells.acceptDuty n v (s.wr (0x4000 + n) 4 v) else s

/-! ### Overlap on the shared supply (R230) -/

/-- SupplyCapacity in mA: 0.9 × ActiveMembers × CurrentLimit, 0 for a single cell. -/
def capacity (s : State) (e : Nat) : Nat :=
  (supply s e).elim 0 fun n => 9 * Cells.members s n * Chan.currentLimit s n / 10

/-- A slot's demand on the supply. A retriggered slot that is only deferred keeps the demand of its phase. -/
def demand (s : State) (e k : Nat) : Nat :=
  let x := s.coil e k
  if x.loanPending then ent s e k 1
  else match x.phase with
    | 2 | 3 | 7 => ent s e k 1
    | 4 => ent s e k 5 + ent s e k 8
    | 5 => ent s e k 0x19 + ent s e k 8
    | _ => 0

/-- The overlap check: the slot's peak and the demands of every other slot fit (R230). -/
def fits (s : State) (e k : Nat) : Bool :=
  !grouped s e || decide (ent s e k 1 + ((List.range 4).map fun j => if j = k then 0 else demand s e j).sum ≤ capacity s e)

/-! ### The thermal and duty limiter (R236, R237) -/

/-- R(θ) in nΩ. -/
def resistance (s : State) (e k : Nat) : Int :=
  let t : Int := signed 16 (ent s e k 0x0E) * 100000000000 + (s.coil e k).theta - 20000000000000
  (ent s e k 9 : Int) * (100000000000000000 + 393 * t) / 10000000000

/-- T_est in pK above 0 °C. -/
def estimate (s : State) (e k : Nat) : Int := signed 16 (ent s e k 0x0E) * 100000000000 + (s.coil e k).theta

/-- CoilTemperature in 0.1 °C. DESIGN CHOICE: notes/assumptions/69.md. -/
def temperature (s : State) (e k : Nat) : Int := estimate s e k / 100000000000

/-- DutyWindow in ticks. -/
def window (s : State) (e k : Nat) : Nat := ent s e k 0x10 * 1000

/-- E: energised ticks in the last DutyWindow (R237). -/
def used (s : State) (e k : Nat) : Nat :=
  let x := s.coil e k
  let from_ := s.ticks - window s e k
  let run (p : Nat × Nat) : Nat := p.2 - max p.1 from_
  (x.energised.map run).sum + x.energisedAt.elim 0 fun a => run (a, s.ticks)

/-- The energised budget B in ticks (R237). -/
def budget (s : State) (e k : Nat) : Nat :=
  let lim : Int := signed 16 (ent s e k 0x0C) * 100000000000
  let span : Int := (ent s e k 0x0D : Int) * 100000000000
  let full : Int := (ent s e k 0x0F * window s e k : Nat)
  let t := estimate s e k
  (if t ≤ lim - span then full / 100 else if lim ≤ t then 0 else full * (lim - t) / (100 * span)).toNat

/-- A new Boost is admitted (R237). -/
def admitted (s : State) (e k : Nat) : Bool := decide (used s e k + ent s e k 4 + ent s e k 2 ≤ budget s e k)

/-- The energised time is accounted as a slot begins or ceases to be energised; intervals older than the longest window
are dropped. -/
def account (e k : Nat) (s : State) : State :=
  match (s.coil e k).energisedAt, energised s e k with
  | none, true => s.modCoil e k fun x => { x with energisedAt := some s.ticks }
  | some a, false => s.modCoil e k fun x => { x with
      energisedAt := none, energised := (a, s.ticks) :: x.energised.filter fun p => decide (s.ticks < p.2 + 60000000) }
  | _, _ => s

/-- Limited of a slot; COIL_LIMIT each time it goes to 1, which LastOutcome records as LIMITED (R237, R243). -/
def limitNote (e k : Nat) (s : State) : State :=
  let l := decide (mode s e k ≠ 0) && !admitted s e k
  if l = (s.coil e k).limited then s
  else
    let s := s.modCoil e k fun x => { x with limited := l }
    if l then Audit.raise (0x1200 + e * 4 + 2) (outcome e k 5 s) else s

/-! ### Loans (R221) -/

/-- The peak loan of a slot; the path of a coil group has the switches of its supply and its return (R196). -/
def loan (s : State) (e k n : Nat) : Loan :=
  let t := Teller.terms (ent s e k 0x11)
  Teller.channelLoan s n 2 (ent s e k 1) (ent s e k 4 + ent s e k 2 + 2 * Chan.pwmPeriod s n) t.1 t.2
    ((supply s e).elim 0 (fun p => Teller.pathMilli s p 1) + Teller.pathMilli s n (onCommand s n))

/-- The engine returns the peak loan of a slot. -/
def giveBack (e k : Nat) (s : State) : State :=
  match cellOf s e k with
  | some n => if (Teller.loanOf s.teller n).any (·.kind = 2) then Teller.giveBack n s else s
  | none => s

/-- A pending request or deferral of a slot ends; a Waiting slot returns to the phase it came from (R221, R231). -/
def unwait (e k : Nat) (s : State) : State :=
  s.modCoil e k fun x => { x with
    loanPending := false, deferred := false, waited := false, phase := if x.phase = 1 then x.back else x.phase }

/-- The peak loan is declined, or refused because another request of the cell stands (R192, R221). -/
def declineSlot (e k : Nat) (s : State) : State := unwait e k (count e k 0x28 (outcome e k 4 s))

/-- R222 step 6: the loan is requested; a slot from Off or MinOff waits in Waiting. DEDUCED: notes/assumptions/71.md. -/
def request (e k : Nat) (commit : Bool) (s : State) : State :=
  match cellOf s e k with
  | none => s
  | some n =>
    let s := s.modCoil e k fun x => { x with
      loanPending := true, deferred := false,
      back := if x.phase = 0 ∨ x.phase = 6 then x.phase else x.back,
      phase := if x.phase = 0 ∨ x.phase = 6 then 1 else x.phase }
    let r := Teller.request (loan s e k n) commit s
    if r.2 = .ok then r.1 else declineSlot e k r.1

/-! ### The end of an event (R233, R234) -/

/-- The event ends: the cell OFF, loan, request and deferral withdrawn, and the slot Off or in MinOff. -/
def endEvent (e k : Nat) (s : State) : State :=
  let s := match cellOf s e k with
    | some n =>
      let s := if (s.coil e k).loanPending then Teller.withdraw n s else s
      giveBack e k (command e n 0 0 s)
    | none => s
  s.modCoil e k fun x => { x with
    phase := if s.rd (0x4C00 + e) 5 = 1 then 6 else 0, minOffAt := s.ticks,
    loanPending := false, deferred := false, waited := false, regFault := false, outSince := none,
    dither := false, preload := false }

/-- An event is present: the slot is energised, regulates a set-point of 0, or waits. -/
def running (s : State) (e k : Nat) : Bool := decide ((s.coil e k).phase ≠ 0 ∧ (s.coil e k).phase ≠ 6)

/-- The event ends without a trip: TripsUsed returns to 0 (R238). -/
def endClean (e k : Nat) (s : State) : State := (endEvent e k s).modCoil e k fun x => { x with trips := 0 }

/-- R234: a Release; in Off or MinOff it cancels a pending trigger (R233). -/
def release1 (e k : Nat) (s : State) : State :=
  if running s e k then endClean e k s
  else s.modCoil e k fun x => { x with pendingTrig := false }

/-! ### Triggers (R222, R223, R232, R233, R235) -/

/-- R235: a Switched slot on a LoadClass 4 coil cell within 10 ms of the cell's last turn-off, or with that turn-off on its way to
the bank. -/
def resting (s : State) (e k : Nat) : Bool :=
  decide (mode s e k = 3) && (cellOf s e k).any fun n =>
    decide (Chan.loadClass s n = 4) &&
      ((s.cell n).turnedOff.any (fun t => !s.elapsed t 10000) || (Cells.conducting (s.cell n) && !Chan.conducts (s.cell n).want))

/-- The tick of the Boost turn-on: the cell's last change, no earlier than the grant. -/
def turnOn (s : State) (e k n : Nat) : Nat := max (s.cell n).changedAt (s.coil e k).boostAt

/-- The slot's record in Hold, Proportional or On. EventLength counts from the Boost turn-on (R234). -/
def sustained (e k n : Nat) (s : State) : State :=
  let t := turnOn s e k n
  let p := sustain s e k
  s.modCoil e k fun x => { x with
    phase := p, enteredAt := s.ticks, qualAt := s.ticks, outSince := none, eventAt := if x.phase = 2 then t else x.eventAt }

/-- R222: a trigger that would start a Boost passes its checks in order. DEDUCED: notes/assumptions/70.md. -/
def attempt (e k : Nat) (commit : Bool) (s : State) : State :=
  let x := s.coil e k
  match cellOf s e k with
  | none => s
  | some n =>
    if x.latched ∨ s.ticks < x.pauseUntil then outcome e k 9 s
    else if (s.bank (bank s e)).supplyOff then outcome e k 10 s
    else if !admitted s e k then count e k 0x29 (outcome e k 5 s)
    else if Chan.loadClass s n = 5 ∧ !(s.cell n).proven then outcome e k 8 (s.inc (0x4400 + n) 0x0B)
    else
      let s := if x.phase = 2 ∨ x.phase = 3 then
          let s := giveBack e k (sustained e k n s)
          if mode s e k = 3 then s else command e n 3 (Chan.duty s n) s
        else s
      let s := s.modCoil e k fun x => { x with trigAt := s.ticks, waited := false }
      if fits s e k then request e k commit s
      else s.modCoil e k fun x => { x with
        deferred := true, waited := true,
        back := if x.phase = 0 ∨ x.phase = 6 then x.phase else x.back,
        phase := if x.phase = 0 ∨ x.phase = 6 then 1 else x.phase }

/-! ### What every change of a slot brings with it -/

/-- R231: T + 2 ms is reached with the slot still deferred: it is dropped and returns to the phase it came from. -/
def drop (e k : Nat) (s : State) : State :=
  let x := s.coil e k
  if x.deferred ∧ s.elapsed x.trigAt 2000 then
    Audit.raise (0x1200 + e * 4 + 1) (unwait e k (count e k 0x27 (outcome e k 3 s)))
  else s

/-- Insertion of a slot into slots that stand in order of their trigger time T. -/
def byTime (s : State) (e k : Nat) : List Nat → List Nat
  | [] => [k]
  | j :: r => if (s.coil e k).trigAt < (s.coil e j).trigAt then k :: j :: r else j :: byTime s e k r

/-- R231: the deferred slots of the group, once those whose window is over are dropped, are checked again in order of T, then of
slot number. -/
def recheck (e : Nat) (s : State) : State :=
  let order := ((List.range 4).filter fun k => (s.coil e k).deferred).foldl (fun l k => byTime s e k l) []
  order.foldl (fun s k => if fits s e k then request e k false (count e k 0x26 s) else s) s

/-- R224: the supply turns off once no slot needs it. -/
def supplyIdle (e : Nat) (s : State) : State :=
  match supply s e with
  | some n =>
    if Chan.command s n ≠ 0 ∧ (List.range 4).all fun k => !energised s e k && !(s.coil e k).loanPending then
      command e n 0 0 s else s
  | none => s

/-- A pending trigger starts, its trigger time this tick, unless R235 still holds it (R233). -/
def startPending (e k : Nat) (s : State) : State :=
  if (s.coil e k).pendingTrig ∧ (s.coil e k).phase = 0 ∧ !resting s e k then
    let s := s.modCoil e k fun x => { x with pendingTrig := false }
    if owns s e then attempt e k false s else outcome e k 6 s
  else s

/-- R233: the slots that have come to Off from another phase start their pending triggers. -/
def starts (e : Nat) (before s : State) : State :=
  (List.range 4).foldl (fun s k => if (before.coil e k).phase = 0 then s else startPending e k s) s

/-- After a change: slots dropped, pending triggers, the deferred slots where a phase changed, energised time, the supply and the
Limited flags. -/
def finish (e : Nat) (before s : State) : State :=
  let s := if (List.range 4).any fun k => (s.coil e k).phase ≠ (before.coil e k).phase then
      starts e before (recheck e (starts e before ((List.range 4).foldl (fun s k => drop e k s) s)))
    else s
  let s := (List.range 4).foldl (fun s k => account e k s) s
  (List.range 4).foldl (fun s k => limitNote e k s) (supplyIdle e s)

/-! ### Energise and Release (R223, R232 to R234) -/

/-- A trigger becomes the pending trigger, or is merged where one is pending (R233). -/
def pend (e k : Nat) (s : State) : State :=
  if (s.coil e k).pendingTrig then outcome e k 7 s else s.modCoil e k fun x => { x with pendingTrig := true }

/-- One Energise of a slot (R223). -/
def energise1 (e k : Nat) (commit : Bool) (s : State) : State :=
  let x := s.coil e k
  let f := s.fn ⟨2, e⟩
  let wait := x.loanPending || x.deferred
  if (f ≠ 2 ∧ f ≠ 3) ∨ mode s e k = 0 ∨ (cellOf s e k).isNone then s
  else if f = 3 ∨ !owns s e then outcome e k 6 s
  else if s.rd (0x4C00 + e) 5 = 1 then
    if running s e k ∨ x.phase = 6 ∨ resting s e k then pend e k s else attempt e k commit s
  else if wait then s
  else if resting s e k then pend e k s
  else attempt e k commit s

/-- An Energise with everything that follows from it. -/
def energise (e k : Nat) (commit : Bool) (s : State) : State := finish e s (energise1 e k commit s)

/-- A Release with everything that follows from it. -/
def release (e k : Nat) (s : State) : State := finish e s (release1 e k s)

/-! ### Several triggers of one slot at a tick (R223) -/

/-- The target's heads whose acceptance a trigger of a slot may change: the coil cell and the supply. -/
def touched (s : State) (e k : Nat) : List Nat := (cellOf s e k).toList ++ (supply s e).toList

/-- What a trigger of a slot finds. -/
def found (s : State) (e k rank : Nat) (on : Bool) : CoilTrig :=
  let heads := touched s e k
  let at_ (p : Nat × Nat) : Nat × Nat × Nat := (p.1, p.2, s.rd p.1 p.2)
  let n := (cellOf s e k).getD 512
  { rank := rank, on := on, slot := s.coil e k,
    cells := (heads.flatMap s.crew).map fun m => (m, s.cell m),
    entries := ((([0x21, 0x26, 0x27, 0x28, 0x29].map fun o => (0x4C00 + e, sub k o)) ++
      heads.flatMap fun h => [(0x4000 + h, 3), (0x4000 + h, 4), (0x4400 + h, 0x0B)]).map at_),
    loan := s.teller.loans.findSome? fun p => p.2.bind fun l => if l.requester = n then some (p.1, l) else none,
    request := Teller.requestOf s.teller n }

/-- A cell's acceptance as it stood in `old`. -/
def accepted (old c : Cell) : Cell :=
  { c with cmd := old.cmd, want := old.want, wantDuty := old.wantDuty, loanPending := old.loanPending,
           loanDeclined := old.loanDeclined, committedAt := old.committedAt }

/-- The slot as the first trigger of the tick found it, its cells' commands taken back on their way to the bank. -/
def restore (e k : Nat) (t : CoilTrig) (s : State) : State :=
  let s := t.cells.foldl (fun s p =>
    (s.modCell p.1 (accepted p.2)).modBank (p.1 / 32) fun b => { b with
      queue := b.queue.filter fun q => decide (q.chan ≠ p.1 ∨ q.at_ ≠ s.ticks) }) s
  let s := t.entries.foldl (fun s x => s.wr x.1 x.2.1 x.2.2) (s.modCoil e k fun _ => t.slot)
  match cellOf s e k with
  | some n =>
    let s := Teller.giveBack n (Teller.withdraw n s)
    s.modTeller fun r => { r with
      loans := t.loan.elim r.loans fun p => Map.put none r.loans p.1 (some p.2),
      queue := t.request.elim r.queue fun l => Teller.insert l r.queue }
  | none => s

/-- R223: the triggers of a slot in one tick are taken in the order Ledger, schedule, input, and the last of them decides: one that
comes later in that order replaces what an earlier one of the other kind has done. DEDUCED: notes/assumptions/152.md. -/
def trigger (e k rank : Nat) (on : Bool) (s : State) : State :=
  let act (t : CoilTrig) (s : State) : State :=
    let s := { s with coilTrigs := Map.put {} s.coilTrigs (e * 4 + k) { t with rank := rank, on := on } }
    if on then energise e k (decide (rank = 0)) s else release e k s
  match (s.coilTrigs.find? (·.1 = e * 4 + k)).map (·.2) with
  | none => act (found s e k rank on) s
  | some t =>
    if rank < t.rank then s
    else if t.on = on then { s with coilTrigs := Map.put {} s.coilTrigs (e * 4 + k) { t with rank := rank } }
    else act t (restore e k t s)

/-- R223: a committed write of CoilCommand. -/
def coilCommand (e k v : Nat) (s : State) : State := trigger e k 0 (decide (v = 1)) s

/-- R223: module time has reached ScheduleTime. -/
def schedule (e k : Nat) (s : State) : State :=
  let t := ent s e k 0x1A
  if t ≠ 0 ∧ t ≤ s.now then trigger e k 1 true (set e k 0x1A 0 s) else s

/-- R223, R234: a debounced level change of channel `n` reaches the slots that name it. -/
def input (n : Nat) (level : Bool) (s : State) : State :=
  (s.listed 0x4C00 0x4C3F 1).foldl (fun s p =>
    let e := p.1 - 0x4C00
    if p.2 = 2 ∨ p.2 = 3 then
      (List.range 4).foldl (fun s k =>
        let v := ent s e k 0x12
        if field v 0 9 = n then
          match field v 9 2, level with
          | 1, true | 2, false | 3, true => trigger e k 2 true s
          | 3, false => trigger e k 2 false s
          | _, _ => s
        else s) s
    else s) s

/-- R238: SlotRearm. -/
def rearm (e k : Nat) (s : State) : State := s.modCoil e k fun x => { x with latched := false, trips := 0 }

/-! ### Grant and decline (R221, R222) -/

/-- The slot whose coil cell is channel `n` and whose loan is pending. -/
def waiting (s : State) (n : Nat) : Option (Nat × Nat) :=
  s.coils.findSome? fun p =>
    if p.2.loanPending ∧ cellOf s (p.1 / 4) (p.1 % 4) = some n then some (p.1 / 4, p.1 % 4) else none

/-- R222: at the grant the coil cell and, for a coil group, the supply are commanded on and Boost begins. A grant that
finds the target held, or the coil cell's proof lost meanwhile (R157), starts nothing (R239).
DESIGN CHOICE: notes/assumptions/72.md. -/
def granted (n : Nat) (s : State) : State :=
  match waiting s n with
  | none => Teller.giveBack n s
  | some (e, k) =>
    let s0 := s
    if owns s e ∧ Cells.unproven s n 1 then
      finish e s0 (Teller.giveBack n (unwait e k (outcome e k 8 (s.inc (0x4400 + n) 0x0B))))
    else if owns s e then
      let x := s.coil e k
      let last := ((s.cell n).curs.headD 0).natAbs * 6250
      let m := if energised s e k then max last x.lastM.natAbs else last
      let s := commandGranted e n (onCommand s n) s
      let s := match supply s e with
        | some p => if Chan.command s p = 1 then s else commandGranted e p 1 s
        | none => s
      let s := s.modCoil e k fun x => { x with
        phase := 2, loanPending := false, integ := 0, boostAt := s.ticks, eventAt := s.ticks, waited := false,
        early := decide (m * 10 ≤ ent s e k 1 * 1000), preload := false, regFault := false, outSince := none,
        prevOn := true, dither := false }
      finish e s0 (set e k 0x2B s.now (count e k 0x25 (outcome e k (if x.waited then 2 else 1) s)))
    else finish e s0 (Teller.giveBack n (unwait e k (outcome e k 6 s)))

/-- R221: the peak loan of channel `n` is declined. -/
def declined (n : Nat) (s : State) : State :=
  match waiting s n with
  | some (e, k) => finish e s (declineSlot e k s)
  | none => s

/-! ### Boost and PeakDwell (R225, R226) -/

/-- The slot enters Hold, Proportional or On and returns its loan; a PeakHold of 0 mA ends the event (R220, R221). -/
def toSustain (e k : Nat) (s : State) : State :=
  if mode s e k ≠ 2 ∧ mode s e k ≠ 3 ∧ ent s e k 5 = 0 then endClean e k s
  else
    let s := giveBack e k (sustained e k ((cellOf s e k).getD 512) s)
    match cellOf s e k with
    | some n => if mode s e k = 3 ∨ Chan.command s n = 3 then s else command e n 3 (Chan.duty s n) s
    | none => s

/-- R225: no sample has reached PeakCurrent at TtpMax. DEDUCED: notes/assumptions/73.md. -/
def late (e k : Nat) (s : State) : State :=
  if owns s e then toSustain e k (Audit.raise (0x1200 + e * 4) (count e k 0x2A (outcome e k 12 s))) else toSustain e k s

/-- TtpMax has elapsed in Boost. -/
def ttpMax (e k : Nat) (s : State) : State :=
  match cellOf s e k with
  | some n => if (s.coil e k).phase = 2 ∧ s.elapsed (turnOn s e k n) (ent s e k 4) then finish e s (late e k s) else s
  | none => s

/-- PeakDwell has elapsed since the crossing sample. -/
def dwellEnd (e k : Nat) (s : State) : State :=
  if (s.coil e k).phase = 3 ∧ s.elapsed (s.coil e k).crossAt (ent s e k 2) then finish e s (toSustain e k s) else s

/-! ### Regulation (R227 to R229) -/

/-- The dither of a period in µA (R228). -/
def ditherNow (s : State) (e k : Nat) : Int :=
  let v := ent s e k 7
  let d := field v 2 8
  let a : Int := (ent s e k 8 * 1000 : Nat)
  let r := ((s.ticks - (s.coil e k).enteredAt) / max 1 ((cellOf s e k).elim 1 (Chan.pwmPeriod s))) % d
  if (s.coil e k).phase = 3 ∨ d = 0 then 0
  else match field v 0 2 with
    | 1 => if 2 * r < d then a else -a
    | 2 => a * ((d : Int) - ((4 * r : Int) - 2 * (d : Int)).natAbs) / (d : Int)
    | _ => 0

/-- The set-point of the present phase in µA, dither added and clipped at 0 (R227, R228). -/
def setpoint (s : State) (e k : Nat) : Int :=
  let base := match (s.coil e k).phase with
    | 3 => ent s e k 1
    | 5 => ent s e k 0x19
    | _ => ent s e k 5
  max 0 ((base * 1000 : Nat) + ditherNow s e k)

/-- The mean in µA of the qualifying samples of the window that ends now (R227). -/
def measured (s : State) (e k n : Nat) : Option Int :=
  let q := (s.coil e k).samples.filter fun p =>
    p.2.2 && decide (s.ticks ≤ p.1 + Chan.pwmPeriod s n ∧ p.1 + 60 < s.ticks)
  if q.isEmpty then none else some ((q.map (·.2.1)).sum * 6250 / (q.length : Int))

/-- A value held between two bounds. -/
def clamp (lo hi x : Int) : Int := max lo (min hi x)

/-- The feed-forward term of the duty in 1e-9; with a bank supply that reads 0 the manual gives no value. -/
def feedForward (s : State) (e k : Nat) (iSet : Int) : Int × State :=
  let v := s.rd (0x4900 + bank s e) 4
  if v = 0 then let r := s.open_; ((r.1 : Int), r.2)
  else (iSet * resistance s e k / ((10000 * v : Nat) : Int), s)

/-- The duty in 1e-9 before the sensing rules, and the new integ (R227, R239). DESIGN CHOICE: notes/assumptions/68.md. -/
def control (s : State) (e k : Nat) (iSet : Int) (m : Option Int) : Int × Int × State :=
  let x := s.coil e k
  match m with
  | none => (x.dPrev, x.integ, s)
  | some m =>
    let err := iSet - m
    let ff := feedForward s e k iSet
    let p := (s.rd (0x4C00 + e) 7 : Int) * err * 1000 / 65536
    if x.preload then (x.dPrev, clamp (-250000000) 1000000000 (x.dPrev - ff.1 - p), ff.2)
    else
      let i := clamp (-250000000) 1000000000 (x.integ + (s.rd (0x4C00 + e) 8 : Int) * err * 1000 / 65536)
      (clamp 0 1000000000 (ff.1 + p + i), i, ff.2)

/-- The on-time in 1e-9 µs after the sensing-pulse and skipping rules (R227). -/
def onTime (prevOn : Bool) (t : Int) : Int :=
  if !prevOn then max t 24000000000
  else if t < 12000000000 then 0
  else if t < 24000000000 then 24000000000
  else t

/-- R229: the comparison of an update in Hold and Proportional. DESIGN CHOICE: notes/assumptions/74.md. -/
def compare (e k : Nat) (iSet : Int) (m : Option Int) (s : State) : State :=
  let tol : Int := (s.rd (0x4C00 + e) 9 * 1000 : Nat)
  s.modCoil e k fun x =>
    match m with
    | none => x
    | some m =>
      if (iSet - m).natAbs ≤ tol.natAbs then { x with outSince := none, regFault := false }
      else { x with outSince := some (x.outSince.getD s.ticks) }

/-- R227: the duty of the period that starts now is committed. -/
def regulate (e k n : Nat) (s : State) : State :=
  let iSet := setpoint s e k
  let p : Int := (Chan.pwmPeriod s n : Nat)
  let m := measured s e k n
  let r := control s e k iSet m
  let x := s.coil e k
  let off := decide (x.phase = 5 ∧ ent s e k 0x19 < 50)
  let t := if off then 0 else onTime x.prevOn (clamp 0 1000000000 r.1 * p)
  let v := min 65535 (divRound (t.toNat * 65536) (p.toNat * 1000000000))
  let s := r.2.2.modCoil e k fun x => { x with
    integ := r.2.1, dPrev := clamp 0 1000000000 r.1, preload := x.preload && m.isNone, prevOn := decide (v ≠ 0),
    lastM := m.getD x.lastM, dither := decide (x.phase ≠ 3 ∧ field (ent s e k 7) 0 2 ≠ 0 ∧ ent s e k 8 ≠ 0 ∧ !off) }
  let s := if x.phase = 3 then s
    else if off then s.modCoil e k fun x => { x with outSince := none, qualAt := s.ticks }
    else compare e k iSet m s
  duty e n v s

/-- R236: the temperature rise at a period start. -/
def thermal (e k n : Nat) (s : State) : State :=
  let x := s.coil e k
  let p := Chan.pwmPeriod s n
  let q := x.samples.filter fun y => decide (s.ticks ≤ y.1 + p ∧ y.1 < s.ticks)
  let i : Int :=
    if !energised s e k then 0
    else if x.phase = 2 ∨ x.phase = 7 ∨ mode s e k = 3 then
      (if q.isEmpty then x.lastM else (q.map (·.2.1)).sum * 6250 / (q.length : Int))
    else (measured s e k n).getD x.lastM
  let heat := (ent s e k 0x0A : Int) * i * i * resistance s e k / 100000000000
  s.modCoil e k fun x => { x with
    theta := x.theta + (p : Int) * (heat - x.theta) / ((ent s e k 0x0B * 100000 : Nat) : Int),
    lastM := if energised s e k then i else x.lastM }

/-- The active engines and slots whose coil cell is channel `n`. -/
def slotsOf (s : State) (n : Nat) : List (Nat × Nat) :=
  (s.listed 0x4C00 0x4C3F 1).flatMap fun p =>
    if p.2 = 2 ∨ p.2 = 3 then
      ((List.range 4).filter fun k => cellOf s (p.1 - 0x4C00) k = some n).map fun k => (p.1 - 0x4C00, k)
    else []

/-- A period of the coil cell starts on its grid (R179): the duty, the temperature rise and the Limited flag (R227, R236,
R237). -/
def period (n : Nat) (s : State) : State :=
  if !Gangs.gridNow s n then s
  else (slotsOf s n).foldl (fun s q =>
    let ph := (s.coil q.1 q.2).phase
    let s := if ((ph = 3 ∧ mode s q.1 q.2 ≠ 3) ∨ ph = 4 ∨ ph = 5) ∧ owns s q.1 then regulate q.1 q.2 n s else s
    limitNote q.1 q.2 (thermal q.1 q.2 n s)) s

/-- The on-phase of the cell has lasted at least 4 µs (R227). -/
def settled (s : State) (n : Nat) : Bool :=
  let c := s.cell n
  let p := Chan.pwmPeriod s n
  if c.drive = 3 then decide (4 ≤ (s.now / 1000 + p - Chan.phase s n % p) % p) else decide (c.changedAt + 4 ≤ s.ticks)

/-- R225, R226: a sample of the coil cell: it enters the window, and the first one at or above PeakCurrent ends Boost. -/
def sample (n : Nat) (s : State) : State :=
  (slotsOf s n).foldl (fun s q =>
    let e := q.1
    let k := q.2
    let i : Int := (((s.cell n).curs.headD 0).natAbs : Nat)
    let on := decide (Cells.side s n ≠ 0)
    let good := on && settled s n
    let s := s.modCoil e k fun x => { x with
      samples := (s.ticks, i, good) :: x.samples.filter fun y => decide (s.ticks < y.1 + 1100),
      qualAt := if good then s.ticks else x.qualAt }
    let x := s.coil e k
    if x.phase = 2 ∧ owns s e ∧ on ∧ ent s e k 1 * 100 ≤ i.natAbs * 625 ∧ turnOn s e k n ≤ s.ticks then
      let t := s.ticks - turnOn s e k n
      let s0 := s
      let s := set e k 0x22 (min 65535 t) s
      if ent s e k 4 ≤ t then finish e s0 (late e k s)
      else
        let s := if x.early ∧ t < ent s e k 3 then
            Audit.raise (0x1200 + e * 4) (count e k 0x2A (outcome e k 11 s)) else s
        let s := s.modCoil e k fun x => { x with phase := 3, crossAt := s.ticks, eventAt := s.ticks - t, prevOn := true }
        let s := if mode s e k = 3 then s
          else
            let m := some (i * 6250)
            let r := control s e k (setpoint s e k) m
            let p := Chan.pwmPeriod s n
            let t := onTime true (clamp 0 1000000000 r.1 * (p : Int))
            let s := r.2.2.modCoil e k fun x => { x with integ := r.2.1, dPrev := r.1, lastM := i * 6250 }
            command e n 3 (min 65535 (divRound (t.toNat * 65536) (p * 1000000000))) s
        finish e s0 s
    else s) s

/-- R229: RegulationFault sets while the engine regulates. LastOutcome records it with a value that Table 08-7 does not give: a
free value (R243). DESIGN CHOICE: notes/assumptions/153.md. -/
def regulationFault (e k : Nat) (s : State) : State :=
  let x := s.coil e k
  let w := s.rd (0x4C00 + e) 0x0A * 1000
  if (x.phase = 4 ∨ (x.phase = 5 ∧ 50 ≤ ent s e k 0x19)) ∧ !x.held ∧ !x.regFault ∧
      (x.outSince.any (s.elapsed · w) ∨ s.elapsed x.qualAt w) then
    let r := s.open_
    Audit.raise (0x1200 + e * 4 + 3) (outcome e k (r.1 % 256) (r.2.modCoil e k fun x => { x with regFault := true }))
  else s

/-! ### Timers -/

/-- R231: T + 2 ms passes with the slot still deferred. -/
def deferralEnd (e k : Nat) (s : State) : State :=
  if (s.coil e k).deferred ∧ s.elapsed (s.coil e k).trigAt 2000 then finish e s (drop e k s) else s

/-- R233: MinOffTime elapses. -/
def minOffEnd (e k : Nat) (s : State) : State :=
  let x := s.coil e k
  if x.phase = 6 ∧ s.elapsed x.minOffAt (s.rd (0x4C00 + e) 6) then
    finish e s (s.modCoil e k fun x => { x with phase := 0 })
  else s

/-- R235: 10 ms have passed since the cell's turn-off. -/
def switchedRearm (e k : Nat) (s : State) : State :=
  if mode s e k = 3 then finish e s (startPending e k s) else s

/-- R234: EventLength elapses after the Boost turn-on. -/
def eventEnd (e k : Nat) (s : State) : State :=
  let l := ent s e k 6
  let x := s.coil e k
  let from_ := (cellOf s e k).elim x.eventAt fun n => if x.phase = 2 then turnOn s e k n else x.eventAt
  if l ≠ 0 ∧ (energised s e k ∨ x.phase = 5) ∧ s.elapsed from_ (l * 1000) then finish e s (endClean e k s) else s

/-- R237: the energised time reaches the budget. -/
def exhausted (e k : Nat) (s : State) : State :=
  if energised s e k ∧ budget s e k ≤ used s e k then
    if ent s e k 0x13 = 0 then finish e s (endClean e k (count e k 0x29 (outcome e k 5 s))) else finish e s s
  else s

/-- R238: the trip pause has passed. -/
def pauseEnd (e k : Nat) (s : State) : State :=
  if (s.coil e k).pauseUntil ≤ s.ticks then s.modCoil e k fun x => { x with pauseUntil := 0 } else s

/-! ### Trips, supply loss, escrow and reset (R238 to R240) -/

/-- R238: one slot's event ends with TRIPPED; `n` is the tripped cell. -/
def tripSlot (e k n : Nat) (s : State) : State :=
  let g := Protect.governor s n
  let s := endEvent e k (outcome e k 9 s)
  s.modCoil e k fun x => { x with
    trips := min 15 (x.trips + 1), pauseUntil := s.ticks + s.rd (0x4000 + g) 0x13 * 1000,
    latched := x.latched || decide (s.rd (0x4000 + g) 0x12 < x.trips + 1) }

/-- A cell stands tripped. -/
def tripped (s : State) (n : Nat) : Bool := decide ((s.cell n).prot = 2 ∨ (s.cell n).prot = 4)

/-- R238: trips of the supply and of coil cells, and SupplyOff. -/
def struck (e : Nat) (s : State) : State :=
  (List.range 4).foldl (fun s k =>
    if running s e k ∧ (s.bank (bank s e)).supplyOff then endEvent e k (outcome e k 10 s)
    else if energised s e k then
      match (supply s e).filter (tripped s), (cellOf s e k).filter (tripped s) with
      | some n, _ => tripSlot e k n s
      | none, some n => tripSlot e k n s
      | none, none => s
    else s) s

/-- R238: what has struck the slots; after a trip the supply goes off where no slot remains energised, one that waits included. -/
def faults (e : Nat) (s : State) : State :=
  let u := struck e s
  match supply s e with
  | some p =>
    if ((List.range 4).any fun k => energised s e k) ∧ ((List.range 4).all fun k => !energised u e k) ∧ Chan.command u p ≠ 0 then
      command e p 0 0 u else u
  | none => u

/-- R239: ownership has returned. Energised slots resume with their duty preloaded, and the cells of the others are off. -/
def resume (e : Nat) (s : State) : State :=
  (List.range 4).foldl (fun s k =>
    match cellOf s e k with
    | none => s
    | some n =>
      let c := s.cell n
      let d : Int := if c.drive = 3 then (c.duty * 1000000000 / 65536 : Nat) else if Cells.conducting c then 1000000000 else 0
      let s := s.modCoil e k fun x => { x with
        held := false, dPrev := d, preload := energised s e k, prevOn := decide (d ≠ 0), outSince := none, qualAt := s.ticks }
      let ph := (s.coil e k).phase
      if energised s e k ∨ ph = 5 then
        if (ph = 3 ∨ ph = 4 ∨ ph = 5) ∧ mode s e k ≠ 3 ∧ Chan.command s n ≠ 3 then
          command e n 3 (min 65535 (d.toNat * 65536 / 1000000000)) s
        else s
      else if Chan.command s n ≠ 0 then command e n 0 0 s else s) s

/-- What the engine keeps of a running slot once it leaves Active and Isolated, and at a per-function reset: the limiter's
history alone. -/
def clear (x : CoilSlot) : CoilSlot :=
  { theta := x.theta, energised := x.energised, energisedAt := x.energisedAt, limited := x.limited }

/-- The requests and loans of a slot end with its function. -/
def abandon (e k : Nat) (s : State) : State :=
  let s := match cellOf s e k with
    | some n => giveBack e k (if (s.coil e k).loanPending then Teller.withdraw n s else s)
    | none => s
  account e k (s.modCoil e k clear)

/-- The engine follows its target: held while escrow owns a cell, resumed as ownership returns, and reacting to trips and
SupplyOff. -/
def poll (e : Nat) (s : State) : State :=
  let f := s.fn ⟨2, e⟩
  if f = 2 ∨ f = 3 then
    let s0 := s
    let s := if owns s e then
        (if (List.range 4).any fun k => (s.coil e k).held then resume e s else s)
      else (List.range 4).foldl (fun s k => if mode s e k ≠ 0 then s.modCoil e k fun x => { x with held := true } else s) s
    let s := faults e s
    if s.coils = s0.coils then s else finish e s0 s
  else (List.range 4).foldl (fun s k => if running s e k ∨ (s.coil e k).pendingTrig then abandon e k s else s) s

/-- The engines that are Active or Isolated, or still hold a slot's record. -/
def engines (s : State) : List Nat :=
  let l : List Nat := (s.listed 0x4C00 0x4C3F 1).map fun p => p.1 - 0x4C00
  let r : List Nat := s.coils.map fun p => p.1 / 4
  (l ++ r).eraseDups

/-- At each tick the Limited flags of the active engines follow the energised time (R237), and the triggers of the tick are over
(R223). -/
def tick (s : State) : State :=
  (s.listed 0x4C00 0x4C3F 1).foldl (fun s p =>
    if p.2 = 2 ∨ p.2 = 3 then (List.range 4).foldl (fun s k => limitNote (p.1 - 0x4C00) k s) s else s) { s with coilTrigs := [] }

/-- Every engine follows its target. -/
def pollAll (s : State) : State := (engines s).foldl (fun s e => poll e s) s

/-- R240: what a per-function reset does at once: requests, deferrals, pending triggers and ScheduleTime are discarded,
counters, TripsUsed and TripLatched return to 0, and conducting slots stand in Hold, Proportional or On. -/
def resetSlot (e k : Nat) (s : State) : State :=
  let s := match cellOf s e k with
    | some n => if (s.coil e k).loanPending then Teller.withdraw n s else s
    | none => s
  let x := s.coil e k
  let s := if x.phase = 2 ∨ x.phase = 3 then sustained e k ((cellOf s e k).getD 512) s else s
  let s := s.modCoil e k fun x => { x with
    phase := if x.phase = 1 then x.back else x.phase, loanPending := false, deferred := false, pendingTrig := false, waited := false,
    trips := 0, latched := false, held := true }
  [0x25, 0x26, 0x27, 0x28, 0x29, 0x2A].foldl (fun s o => set e k o 0 s) (set e k 0x1A 0 s)

/-- R240: the reset begins; escrow holds the target cells. -/
def reset (e : Nat) (s : State) : State :=
  finish e s ((List.range 4).foldl (fun s k => resetSlot e k s) (Escrow.hold .fnReset (Escrow.cellsOf s (code e)) s))

/-- R240: the reset completes: ownership returns, loans end and EventLength counts from here. -/
def resetDone (e : Nat) (s : State) : State :=
  let s := Escrow.giveBack .fnReset (Escrow.heldFor s (code e)) s
  (List.range 4).foldl (fun s k => (giveBack e k s).modCoil e k fun x => { x with eventAt := s.ticks }) s

/-- CountersClear of the engine (Table 08-4). -/
def clearCounters (e : Nat) (s : State) : State :=
  (List.range 4).foldl (fun s k => [0x25, 0x26, 0x27, 0x28, 0x29, 0x2A].foldl (fun s o => set e k o 0 s) s) s

/-! ### Views -/

/-- SlotStatus (Table 08-6). -/
def slotStatus (s : State) (e k : Nat) : Nat :=
  let x := s.coil e k
  x.phase + b01 x.pendingTrig * 2 ^ 3 + b01 (decide (mode s e k ≠ 0) && !admitted s e k) * 2 ^ 4 + b01 x.regFault * 2 ^ 5
    + b01 (x.dither && !x.held && decide (x.phase = 4 ∨ (x.phase = 5 ∧ 50 ≤ ent s e k 0x19))) * 2 ^ 6 + b01 x.deferred * 2 ^ 7 + b01 x.loanPending * 2 ^ 8 + b01 x.latched * 2 ^ 9 + x.trips * 2 ^ 10

/-- EngineStatus (R241). -/
def engineStatus (s : State) (e : Nat) : Nat :=
  let bits (f : Nat → Bool) : Nat := ((List.range 4).map fun k => b01 (f k) * 2 ^ k).sum
  b01 (s.active ⟨2, e⟩ && owns s e) + b01 ((cells s e).any fun n => Chan.owner s n = 0xF000) * 2
    + b01 ((supply s e).any fun n => Cells.conducting (s.cell (s.lead n))) * 4
    + b01 ((supply s e).any fun n => tripped s n || decide ((s.cell n).prot = 3)) * 8
    + bits (energised s e) * 2 ^ 4
    + bits (fun k => (cellOf s e k).any fun n => (Teller.loanOf s.teller n).any (·.kind = 2)) * 2 ^ 8
    + bits (fun k => (s.coil e k).deferred) * 2 ^ 12

/-- The computed slot entries of Table 08-5, none for the stored ones. -/
def view (s : State) (e k o : Nat) : Option Nat :=
  match o with
  | 0x20 => some (slotStatus s e k)
  | 0x23 => some (rawOf 16 (satSigned 16 (temperature s e k)))
  | 0x24 => some (min 65535 (used s e k * 10000 / max 1 (window s e k)))
  | _ => none

end Coil

end Sys2Proof.Machine
end

