-- ==== Sys2Proof/Machine/Loop.lean ====
section
/-! DEFINITION. Loop engines and profile generators: sample boundaries, feedback, the control law, the jerk-limited
generator, hand-over and resume, suspension and reset (chapter 09, R244 to R270). Values are raw fixed-point integers:
Q16, and 48.16 for positions (R255). -/

namespace Sys2Proof.Machine

/-- The record of loop engine `e`. -/
def State.loop (s : State) (e : Nat) : Loop := Map.get {} s.loops e

/-- The state with a loop engine's record changed. -/
def State.modLoop (s : State) (e : Nat) (f : Loop → Loop) : State := { s with loops := Map.modify {} s.loops e f }

/-- The input record of a channel. -/
def State.input (s : State) (n : Nat) : Input := Map.get {} s.inputs n

/-- The state with a channel's input record changed. -/
def State.modInput (s : State) (n : Nat) (f : Input → Input) : State := { s with inputs := Map.modify {} s.inputs n f }

namespace Fix

/-- A quotient rounded to nearest, ties away from zero (R255). -/
def rdiv (n d : Int) : Int :=
  if d = 0 then 0 else
  let q : Int := ((2 * n.natAbs + d.natAbs) / (2 * d.natAbs) : Nat)
  if (n < 0) = (d < 0) then q else -q

/-- The Q16 range (R255). -/
def sat (x : Int) : Int := satSigned 32 x

/-- The 48.16 range (R250, R255). -/
def satP (x : Int) : Int := satSigned 64 x

/-- The product of two Q16 values, formed in full and rounded once (R255). DESIGN CHOICE: notes/assumptions/80.md. -/
def mul (a b : Int) : Int := rdiv (a * b) 65536

/-- A product with Ts: x × SamplePeriod / 1,000 (R255). -/
def ts (x : Int) (period : Nat) : Int := rdiv (x * period) 1000

/-- A quotient by Ts. -/
def overTs (x : Int) (period : Nat) : Int := rdiv (x * 1000) period

/-- A value held between two bounds. -/
def clamp (lo hi x : Int) : Int := max lo (min hi x)

/-- lim(x, L, x_prev) of R256. -/
def lim (x l prev : Int) : Int := clamp (-max l (prev.natAbs : Int)) (max l (prev.natAbs : Int)) x

/-- The sign of a value. -/
def sign (x : Int) : Int := if x < 0 then -1 else if 0 < x then 1 else 0

/-- The square root rounded down (R255), bit by bit from `b` bits. -/
def isqrtFrom : Nat → Nat → Nat → Nat
  | 0, r, _ => r
  | b + 1, r, n => let r' := r + 2 ^ b; isqrtFrom b (if r' * r' ≤ n then r' else r) n

/-- The square root rounded down of a number below 2^80. -/
def isqrt (n : Nat) : Nat := isqrtFrom 40 0 n

end Fix

namespace Loops

/-! ### Entries (R261, R267 to R269) -/

/-- The function ID of the engine as an owner. -/
def code (e : Nat) : Nat := 0x0300 + e

/-- The value of a RW entry in effect now: one committed at this very tick takes effect at the next boundary (R261). -/
def eff (s : State) (e i j : Nat) : Nat :=
  match (s.loop e).recent.find? fun p => p.1 = i * 256 + j ∧ p.2.1 = s.ticks with
  | some p => p.2.2
  | none => s.rd i j

/-- A RW entry of the engine in effect. -/
def ent (s : State) (e j : Nat) : Nat := eff s e (0x4D00 + e) j

/-- A signed Q16 entry of the engine in effect. -/
def q16 (s : State) (e j : Nat) : Int := signed 32 (ent s e j)

/-- A signed generator entry in effect. -/
def gen (s : State) (e j : Nat) : Int := signed 32 (eff s e (0x4D80 + e) j)

/-- A write of a RW entry is about to commit: its old value is kept for this tick. -/
def noteWrite (e i j : Nat) (s : State) : State :=
  s.modLoop e fun r => { r with
    recent := (r.recent.filter fun p => p.2.1 = s.ticks) ++ [(i * 256 + j, s.ticks, s.rd i j)] }

/-- SamplePeriod in µs. -/
def period (s : State) (e : Nat) : Nat := s.rd (0x4D00 + e) 6

/-! ### Target (R244, R252) -/

/-- The bank of the target. -/
def bank (s : State) (e : Nat) : Nat := s.rdField (0x4D00 + e) 3 0 4

/-- The Index field of EngineTarget. -/
def index (s : State) (e : Nat) : Nat := s.rdField (0x4D00 + e) 3 4 5

/-- The Kind field of EngineTarget. -/
def kind (s : State) (e : Nat) : Nat := s.rdField (0x4D00 + e) 3 9 2

/-- The legs of an H-bridge target. -/
def legs (s : State) (e : Nat) : Option (Nat × Nat) :=
  let v := s.rd (0x4900 + bank s e) (0x10 + index s e)
  if kind s e = 2 ∧ index s e < 16 ∧ bitOf v 24 then some (bank s e * 32 + field v 0 5, bank s e * 32 + field v 8 5)
  else none

/-- The channels the engine writes: both legs, or the single cell or lowest declared member. -/
def heads (s : State) (e : Nat) : List Nat :=
  match legs s e with
  | some (a, b) => [a, b]
  | none => if kind s e = 2 then [] else [bank s e * 32 + index s e]

/-- Every target cell. -/
def cells (s : State) (e : Nat) : List Nat := (heads s e).flatMap s.unitAll

/-- The target cells that switch. -/
def activeCells (s : State) (e : Nat) : List Nat := (heads s e).flatMap s.unit

/-- The engine owns every target cell. -/
def owns (s : State) (e : Nat) : Bool := !(cells s e).isEmpty && (cells s e).all fun n => Chan.owner s n = code e

/-- The engine commits a command of a target cell; a present command only takes its new duty. A conducting command of a cell without
its freewheel proof is refused and counted (R157). -/
def command (e n cmd duty : Nat) (s : State) : State :=
  if Cells.unproven s n cmd then s.inc (0x4400 + n) 0x0B
  else if owns s e then
    let same := decide (Chan.command s n = cmd ∧ (s.cell n).cmd = cmd)
    let s := s.wr (0x4000 + n) 3 cmd
    let s := if cmd = 3 then s.wr (0x4000 + n) 4 duty else s
    if same then (if cmd = 3 then Cells.acceptDuty n duty s else s) else Cells.accept n cmd duty false s
  else s

/-- Every target cell commanded OFF. -/
def commandOff (e : Nat) (s : State) : State := (heads s e).foldl (fun s n => command e n 0 0 s) s

/-- R252: the output u on the target (Table 09-3). -/
def output (e : Nat) (u : Int) (s : State) : State :=
  let d := min 65535 u.natAbs
  match legs s e with
  | some (a, b) =>
    if u < 0 then command e b 3 d (command e a 2 0 s) else command e b 2 0 (command e a 3 d s)
  | none => (heads s e).foldl (fun s n => command e n 3 (if u < 0 then 0 else d) s) s

/-- R249: the output of a boundary is issued 10 µs after it. -/
def drive (e : Nat) (s : State) : State := s.modLoop e fun r => { r with issueAt := some (s.ticks + 10) }

/-- The outputs whose tick has come; an engine that has left Starting and Running since issues none (R249, R251). -/
def issue (s : State) : State :=
  s.loops.foldl (fun s p =>
    if p.2.issueAt.any fun t => decide (t ≤ s.ticks) then
      let s := s.modLoop p.1 fun r => { r with issueAt := none }
      if p.2.st = 1 ∨ p.2.st = 2 then output p.1 p.2.u s else s
    else s) s

/-! ### Feedback (R245, R248, R250) -/

/-- How many of the newest sample sets are younger than 30 µs at this boundary (R248). -/
def skip (s : State) (n : Nat) : Nat :=
  let age := s.now - s.rd (0x4600 + n) 6
  if 30000 ≤ age then 0 else if 10000 ≤ age then 1 else 2

/-- FeedbackSource: its kind and channel. -/
def source (s : State) (e : Nat) : Nat × Nat := (s.rdField (0x4D00 + e) 4 0 3, s.rdField (0x4D00 + e) 4 8 9)

/-- The count of the feedback channel in the sample set that the boundary takes, with the currents and voltages (R248). -/
def counter (s : State) (e : Nat) : Nat :=
  let n := (source s e).2
  ((s.input n).captured.drop (skip s n)).headD (s.rd (0x4600 + n) 7)

/-- The current or pin-voltage code of a cell in the sample set that the boundary takes (R248). -/
def taken (s : State) (n : Nat) (l : List Int) : Int := (l.drop (skip s n)).headD 0

/-- The new y of a boundary before saturation (R245, R250). -/
def rawY (s : State) (e : Nat) : Int :=
  let r := s.loop e
  let n := (source s e).2
  let scale := signed 32 (s.rd (0x4D00 + e) 5)
  match (source s e).1 with
  | 1 =>
    match s.gangOf n with
    | some (g, v) =>
      if GangConfig.lowest v = n then
        (((s.activeMembers g v).map fun m => taken s m (s.cell m).curs * 625).sum.tdiv 100) * scale
      else taken s n (s.cell n).curs * scale
    | none => taken s n (s.cell n).curs * scale
  | 2 => taken s n (s.cell n).pins * scale
  | 3 => r.y + signed 32 (rawOf 32 ((counter s e : Int) - (r.count : Int))) * scale
  | 4 => signed 32 (ent s e 0x0F) * scale
  | _ => 0

/-- The feedback sample carried a saturated code, the end code of its range (R118, R119, R265). -/
def saturated (s : State) (e : Nat) : Bool :=
  let n := (source s e).2
  match (source s e).1 with
  | 1 => (if s.head n = n then s.unit n else [n]).any fun m => let i := taken s m (s.cell m).curs; decide (i = -2048 ∨ i = 2047)
  | 2 => let v := taken s n (s.cell n).pins; decide (v = -500 ∨ v = 3595)
  | _ => false

/-- FeedbackStale holds: kind 4 and no ExternalFeedback for ExternalTimeout (R263). -/
def staleNow (s : State) (e : Nat) : Bool :=
  decide ((source s e).1 = 4) && s.elapsed (s.loop e).extAt (s.rd (0x4D00 + e) 0x0B * 1000)

/-- R250: y at the entry to Active, and at a per-function reset. -/
def initY (e : Nat) (s : State) : State :=
  s.modLoop e fun r => { r with
    y := if (source s e).1 = 3 then Fix.satP ((s.rd (0x4600 + (source s e).2) 7 : Int) * signed 32 (s.rd (0x4D00 + e) 5)) else r.y,
    count := s.rd (0x4600 + (source s e).2) 7, ys := [], vMeas := 0, vPrev := 0, extAt := s.ticks }

/-- R248, R250, R265: the feedback of a boundary; FEEDBACK as a flag goes to 1. DESIGN CHOICE: notes/assumptions/79.md. -/
def feed (e : Nat) (s : State) : State :=
  let r := s.loop e
  let raw := rawY s e
  let y := Fix.satP raw
  let w := min (s.rd (0x4D00 + e) 8) r.ys.length
  let v := if w = 0 then 0 else Fix.sat (Fix.rdiv ((y - (r.ys.drop (w - 1)).headD 0) * 1000) (w * period s e))
  let fs := saturated s e || decide (y ≠ raw)
  let st := staleNow s e
  let s := Audit.raiseIf ((fs && !r.fbSat) || (st && !r.stale)) (0x1300 + e * 4 + 3) s
  s.modLoop e fun r => { r with
    y := y, count := counter s e, ys := (y :: r.ys).take 16, vPrev := r.vMeas, vMeas := v, fbSat := fs, stale := st }

/-! ### The profile generator (R256 to R258) -/

/-- d_stop(u) of a jerk-limited stop (R256). -/
def dStop (A J u : Int) : Int :=
  if u * J < A * A then Fix.mul u (Fix.isqrt (u.toNat * 2 ^ 32 / J.toNat) : Nat)
  else Fix.rdiv (u * u) (2 * A) + Fix.rdiv (u * A) (2 * J)

/-- The velocity goal of a step (R256). -/
def goal (s : State) (e : Nat) (r : Loop) : Int :=
  let V := gen s e 3
  let A := gen s e 4
  let J := gen s e 5
  if r.applied = 2 then
    let d := gen s e 1 * 65536 - r.p
    let ve := Fix.sat (r.v + Fix.rdiv (r.a * (r.a.natAbs : Int)) (2 * J))
    if ve ≠ 0 ∧ Fix.sign ve = Fix.sign d ∧
        (d.natAbs : Int) ≤ dStop A J (ve.natAbs : Int) + Fix.ts (r.v.natAbs : Int) (period s e) then 0
    else Fix.sign d * V
  else Fix.clamp (-V) V (gen s e 2)

/-- One generator step (R256). -/
def genStep (s : State) (e : Nat) (r : Loop) : Loop :=
  let T := period s e
  let V := gen s e 3
  let A := gen s e 4
  let J := gen s e 5
  let d := gen s e 1 * 65536 - r.p
  if r.applied = 2 ∧ (d.natAbs : Int) ≤ gen s e 6 ∧ (r.v.natAbs : Int) ≤ Fix.ts A T ∧ (r.a.natAbs : Int) ≤ Fix.ts J T then
    { r with p := gen s e 1 * 65536, v := 0, a := 0, arrived := true }
  else
    let dv := goal s e r - r.v
    let aGoal := Fix.sign dv * min A (Fix.isqrt (2 * J.toNat * dv.natAbs) : Nat)
    let j := Fix.clamp (-J) J (Fix.overTs (aGoal - r.a) T)
    let a := Fix.sat (Fix.lim (r.a + Fix.ts j T) A r.a)
    let v := Fix.sat (Fix.lim (r.v + Fix.ts a T) V r.v)
    { r with p := Fix.satP (r.p + Fix.ts v T), v := v, a := a, arrived := false }

/-! ### The control law (R255, R260) -/

/-- An entry of the applied mode's block (Table 09-7). -/
def block (s : State) (e mode o : Nat) : Int := q16 s e ((if mode = 1 then 0x20 else 0x28) + o)

/-- The error e and q of a closed-loop step (R255), with whether e saturated. -/
def law (s : State) (e : Nat) (r : Loop) : Int × Int × Bool :=
  let T := period s e
  let m := r.applied
  let raw := if m = 1 then r.v - r.vMeas else r.p - r.y
  let err := Fix.sat raw
  let dterm := if m = 1 then Fix.overTs (Fix.mul (block s e m 2) (r.vMeas - r.vPrev)) T
    else Fix.mul (block s e m 2) r.vMeas
  (err, Fix.mul (block s e m 0) err + Fix.mul (block s e m 3) r.v - dterm, decide (err ≠ raw))

/-- One step of the control law (R255). -/
def step (s : State) (e : Nat) (r : Loop) : Loop :=
  let T := period s e
  if r.applied = 0 then
    let sl := Fix.ts (q16 s e 0x10) T
    let x := r.u + Fix.clamp (-sl) sl (q16 s e 0x0E - r.u)
    let u := Fix.clamp (q16 s e 0x11) (q16 s e 0x12) x
    { r with u := u, outSat := decide (u ≠ x), frozen := false, errSat := false }
  else
    let r := genStep s e r
    let m := r.applied
    let (err, q, es) := law s e r
    let lo := block s e m 6
    let hi := block s e m 7
    let frozen := (activeCells s e).any (fun n => (s.cell n).prot = 1) ||
      decide ((q + r.integ > hi ∧ err > 0) ∨ (q + r.integ < lo ∧ err < 0))
    let i := if frozen then r.integ
      else Fix.clamp (block s e m 4) (block s e m 5) (Fix.sat (r.integ + Fix.ts (Fix.mul (block s e m 1) err) T))
    let u := Fix.clamp lo hi (q + i)
    { r with u := u, integ := i, err := err, errSat := es, frozen := frozen, outSat := decide (u ≠ q + i) }

/-- ControlMode commits at this very tick: it takes effect at the next boundary (R260). -/
def modeFresh (s : State) (e : Nat) : Bool :=
  (s.loop e).recent.any fun p => decide (p.1 = (0x4D00 + e) * 256 + 0x0D ∧ p.2.1 = s.ticks)

/-- R260: a hand-over or a resume in place of a step; `handover` says the engine was running. -/
def preload (s : State) (e : Nat) (handover : Bool) (r : Loop) : Loop :=
  let mode := ent s e 0x0D
  let old := r.applied
  let last := r.u
  let r := { r with applied := mode, modePending := r.modePending && modeFresh s e, arrived := false }
  if mode = 0 then
    let u := Fix.clamp (q16 s e 0x11) (q16 s e 0x12) last
    { r with u := u, outSat := decide (u ≠ last), frozen := false }
  else
    let r := if handover && decide (old ≠ 0 ∧ old ≠ mode) then r else { r with v := Fix.lim r.vMeas (gen s e 3) 0, a := 0 }
    let r := { r with p := r.y }
    let (err, q, es) := law s e r
    let i := Fix.clamp (block s e mode 4) (block s e mode 5) (last - q)
    let u := Fix.clamp (block s e mode 6) (block s e mode 7) (q + i)
    { r with integ := i, u := u, err := err, errSat := es, frozen := false, outSat := decide (u ≠ q + i) }

/-- R259: Lagging and the tolerance of the tracking error at a boundary. -/
def watch (s : State) (e : Nat) (r : Loop) : Loop :=
  let lag : Int := match r.applied with
    | 2 => ((gen s e 1 * 65536 - r.p).natAbs : Int)
    | 1 => ((Fix.clamp (-gen s e 3) (gen s e 3) (gen s e 2) - r.v).natAbs : Int)
    | _ => 0
  let lagging := decide (r.applied ≠ 0 ∧ gen s e 7 < lag)
  let off := decide (r.applied ≠ 0 ∧ gen s e 9 < (r.err.natAbs : Int))
  { r with
    lagging := lagging, lagSince := if lagging then some (r.lagSince.getD s.ticks) else none, lagTold := r.lagTold && lagging,
    trackSince := if off then some (r.trackSince.getD s.ticks) else none, tracking := r.tracking && off }

/-! ### States (R251 to R254, R263, R264) -/

/-- LastOutcome. -/
def outcome (e v : Nat) (s : State) : State := s.wr (0x4D00 + e) 0x37 v

/-- The engine enters Stopped: the target OFF once (Table 09-2). -/
def stop (e out : Nat) (s : State) : State :=
  outcome e out ((commandOff e s).modLoop e fun r => { r with
    st := 0, issueAt := none, resumeNext := false, lagging := false, lagSince := none, lagTold := false, tracking := false, trackSince := none })

/-- R251: a committed Stop; one of a stopped engine changes nothing. -/
def stopWrite (e : Nat) (s : State) : State := if (s.loop e).st = 0 then s else stop e 3 s

/-- R254: a motor start is declined. -/
def startDeclined (e : Nat) (s : State) : State :=
  if (s.loop e).st = 1 then
    Audit.raise (0x1300 + e * 4 + 2) ((stop e 2 (s.wr (0x4D00 + e) 0x0C 0)).inc (0x4D00 + e) 0x3A)
  else s

/-- R264: a target cell has entered LatchedOff. -/
def latched (e : Nat) (s : State) : State := stop e 4 (s.wr (0x4D00 + e) 0x0C 0)

/-- The target cells that keep the commands and the protection state (R170, R171). -/
def crew (s : State) (e : Nat) : List Nat := (heads s e).flatMap s.crew

/-- The conditions of Suspended (R263). -/
def suspends (s : State) (e : Nat) : Bool :=
  (crew s e).any (fun n => let p := (s.cell n).prot; decide (p = 2 ∨ p = 3 ∨ p = 5)) || !owns s e || staleNow s e
    || decide (s.fn ⟨3, e⟩ = 3)

/-- The engine may leave Suspended (R263). -/
def clear (s : State) (e : Nat) : Bool :=
  !suspends s e && (crew s e).all (fun n => decide ((s.cell n).prot = 0)) && s.active ⟨1, bank s e⟩

/-- The engine enters Suspended. DESIGN CHOICE: notes/assumptions/77.md. -/
def suspend (e : Nat) (s : State) : State := (s.modLoop e fun r => { r with st := 4 }).inc (0x4D00 + e) 0x3B

/-- The passage to Running by the resume procedure (R260). -/
def resume (e : Nat) (s : State) : State :=
  let r := watch s e (preload s e false { s.loop e with st := 2, resumeNext := false })
  drive e (outcome e 6 (s.modLoop e fun _ => r))

/-- R253: Run from Stopped. A LoadClass 3 target asks its motor-start loan in the zero-output arrangement; a LoadClass 0
target runs at once. DEDUCED: notes/assumptions/75.md. -/
def start (e : Nat) (s : State) : State :=
  let heavy := (cells s e).any fun n => Chan.loadClass s n = 3
  let s := s.modLoop e fun r => { r with st := 1, u := 0, integ := 0, err := 0, v := 0, a := 0, arrived := false }
  let s := drive e (outcome e 1 s)
  if heavy then s
  else
    let r := watch s e (preload s e false { s.loop e with st := 2 })
    s.modLoop e fun _ => r

/-- A start waits no longer: the target conducts and no loan is pending. -/
def started (s : State) (e : Nat) : Bool :=
  (heads s e).all fun n => Cells.conducting (s.cell (s.lead n)) && !(s.cell n).loanPending

/-- One boundary of a running engine: a pending mode is handed over, otherwise the law steps (R255, R260). -/
def runBoundary (e : Nat) (s : State) : State :=
  let r := s.loop e
  let due := r.modePending && !modeFresh s e
  let r := watch s e (if due then preload s e true r else step s e r)
  let s := drive e (s.modLoop e fun _ => r)
  if due then outcome e 5 s else s

/-- What a boundary does in each state (Table 09-2, R251, R260, R263). -/
def act (e : Nat) (s : State) : State :=
  let r := s.loop e
  let ctl := ent s e 0x0C
  match r.st with
  | 0 => if ctl = 1 ∧ s.active ⟨3, e⟩ ∧ owns s e then start e s else s
  | 1 => if started s e then resume e (s.modLoop e fun r => { r with u := 0 }) else s
  | 2 =>
    if suspends s e then suspend e s
    else if ctl = 2 then s.modLoop e fun r => { r with st := 3 }
    else if r.resumeNext then resume e s
    else runBoundary e s
  | 3 => if suspends s e then suspend e s else if ctl = 1 then resume e s else s
  | _ =>
    if clear s e then (if ctl = 2 then s.modLoop e fun r => { r with st := 3, resumeNext := false } else resume e s) else s

/-- A sample boundary falls now (R247). -/
def onGrid (s : State) (e : Nat) : Bool := decide (s.now / 1000 % max 1 (period s e) = s.rd (0x4D00 + e) 7)

/-- R255: a sample boundary. DESIGN CHOICE: notes/assumptions/76.md. -/
def boundary (e : Nat) (s : State) : State :=
  if (s.fn ⟨3, e⟩ = 2 ∨ s.fn ⟨3, e⟩ = 3) ∧ onGrid s e then
    act e (feed e ((s.inc (0x4D00 + e) 0x38).wr (0x4D00 + e) 0x39 s.now))
  else s

/-- R259: Lagging has read 1 for LagTime. -/
def lagConfirm (e : Nat) (s : State) : State :=
  let r := s.loop e
  if r.lagging ∧ !r.lagTold ∧ r.lagSince.any (s.elapsed · (s.rd (0x4D80 + e) 8 * 1000)) then
    Audit.raise (0x1300 + e * 4) (s.modLoop e fun r => { r with lagTold := true })
  else s

/-- R259: the error has exceeded TrackTolerance for TrackTime. -/
def trackConfirm (e : Nat) (s : State) : State :=
  let r := s.loop e
  if !r.tracking ∧ r.trackSince.any (s.elapsed · (s.rd (0x4D80 + e) 0x0A * 1000)) then
    Audit.raise (0x1300 + e * 4 + 1) (s.modLoop e fun r => { r with tracking := true })
  else s

/-- R263: no ExternalFeedback has been committed for ExternalTimeout: FeedbackStale sets, and the next boundary suspends the
engine. -/
def externalTimeout (e : Nat) (s : State) : State :=
  if s.active ⟨3, e⟩ ∧ staleNow s e then
    let s := Audit.raiseIf (!(s.loop e).stale) (0x1300 + e * 4 + 3) s
    s.modLoop e fun r => { r with stale := true }
  else s

/-- R260: a committed ControlMode. DESIGN CHOICE: notes/assumptions/78.md. -/
def modeWrite (e : Nat) (s : State) : State := s.modLoop e fun r => { r with modePending := true }

/-! ### Following the target, and the per-function reset (R264, R266) -/

/-- The engine follows its target: LatchedOff stops it, and outside Active and Isolated it is stopped. -/
def poll (e : Nat) (s : State) : State :=
  let f := s.fn ⟨3, e⟩
  let r := s.loop e
  if f = 2 ∨ f = 3 then
    if r.st ≠ 0 ∧ (crew s e).any (fun n => (s.cell n).prot = 4) then latched e s else s
  else if r.st ≠ 0 then (s.wr (0x4D00 + e) 0x0C 0).modLoop e fun r => { r with st := 0, issueAt := none, resumeNext := false }
  else s

/-- Every engine follows its target. -/
def pollAll (s : State) : State := (s.loops.map fun p => p.1).foldl (fun s e => poll e s) s

/-- R266: the reset begins; escrow holds the target cells. -/
def reset (e : Nat) (s : State) : State :=
  let starting := decide ((s.loop e).st = 1)
  let s := if starting then
      (heads s e).foldl (fun s n =>
        Teller.withdraw (s.requester n) (s.modCells (s.crew n) fun c => { c with loanPending := false })) (s.wr (0x4D00 + e) 0x0C 0)
    else s
  let s := Escrow.hold .fnReset (Escrow.cellsOf s (code e)) s
  let s := s.modLoop e fun r => { r with
    st := if starting then 0 else r.st, resumeNext := decide (r.st = 2), issueAt := none, modePending := false,
    lagging := false, lagSince := none, lagTold := false, tracking := false, trackSince := none, outSat := false,
    frozen := false, errSat := false, fbSat := false, stale := false, arrived := false }
  initY e (s.zero [(0x4D00 + e, 0x38), (0x4D00 + e, 0x3A), (0x4D00 + e, 0x3B)])

/-- R266: the reset completes and ownership returns; a start cut off leaves its target OFF. -/
def resetDone (e : Nat) (s : State) : State :=
  let s := Escrow.giveBack .fnReset (Escrow.heldFor s (code e)) s
  if (s.loop e).st = 0 then commandOff e s else s

/-- CountersClear of the engine (Table 09-5). -/
def clearCounters (e : Nat) (s : State) : State := s.zero [(0x4D00 + e, 0x38), (0x4D00 + e, 0x3A), (0x4D00 + e, 0x3B)]

/-! ### Views -/

/-- EngineStatus (Table 09-6). -/
def status (s : State) (e : Nat) : Nat :=
  let r := s.loop e
  b01 r.lagging + b01 r.tracking * 2 ^ 1 + b01 r.outSat * 2 ^ 2 + b01 r.frozen * 2 ^ 3 + b01 r.stale * 2 ^ 4
    + b01 r.fbSat * 2 ^ 5 + b01 ((cells s e).any fun n => Chan.owner s n = 0xF000) * 2 ^ 6 + b01 r.errSat * 2 ^ 7
    + b01 r.modePending * 2 ^ 8 + b01 r.arrived * 2 ^ 9 + r.applied * 2 ^ 10

/-- The computed entries of Table 09-5, none for the stored ones. -/
def view (s : State) (e j : Nat) : Option Nat :=
  let r := s.loop e
  match j with
  | 0x30 => some r.st
  | 0x31 => some (status s e)
  | 0x32 => some (rawOf 32 (satSigned 32 (r.y / 65536)))
  | 0x33 => some (rawOf 32 r.vMeas)
  | 0x34 => some (rawOf 32 r.u)
  | 0x35 => some (rawOf 32 r.integ)
  | 0x36 => some (rawOf 32 r.err)
  | _ => none

/-- The computed generator entries of Table 09-8. -/
def genView (s : State) (e j : Nat) : Option Nat :=
  let r := s.loop e
  match j with
  | 0x10 => some (rawOf 32 (satSigned 32 (r.p / 65536)))
  | 0x11 => some (rawOf 32 r.v)
  | 0x12 => some (rawOf 32 r.a)
  | _ => none

end Loops

end Sys2Proof.Machine
end

