-- ==== Sys2Proof/Machine/Inputs.lean ====
section
/-! DEFINITION. Field inputs: level samples and debounce, wire break, counting and quadrature, change-of-state events,
field supply and wake polls (chapter 10, R271 to R292). -/

namespace Sys2Proof.Machine

/-- The event of a change-of-state record. -/
def State.cosOf (s : State) (k : Nat) : Cos := Map.get {} s.cos k

/-- The state with a change-of-state event changed. -/
def State.modCos (s : State) (k : Nat) (f : Cos → Cos) : State := { s with cos := Map.modify {} s.cos k f }

namespace Inputs

/-! ### Profiles and thresholds (R271 to R275) -/

/-- An entry of the profile a channel names. -/
def prof (s : State) (n j : Nat) : Nat := s.rd (0x4E00 + s.rd (0x4000 + n) 7) j

/-- A channel whose pin is compared with thresholds: SwitchInput, Counter and QuadratureB (R274). -/
def listens (s : State) (n : Nat) : Bool := let m := Chan.mode s n; decide (m = 4 ∨ m = 6 ∨ m = 7)

/-- The comparator's level for a pin in counts of 10 mV; between the thresholds, which a Ratio profile takes as fractions of `mv`, it
holds (Table 10-3). -/
def compareAt (s : State) (n mv : Nat) (pin : Int) : Bool :=
  let bat : Int := (mv : Int)
  let old := (s.input n).comp
  match prof s n 1 with
  | 0 =>
    if bat * (prof s n 2 : Int) ≤ pin * 1000 then true
    else if pin * 1000 ≤ bat * (prof s n 3 : Int) then false else old
  | 1 => if 1100 ≤ pin then true else if pin ≤ 900 then false else old
  | _ => if 850 ≤ pin then true else if pin ≤ 700 then false else old

/-- The level of a pin against the bank's supply (R274). -/
def compare (s : State) (n : Nat) (pin : Int) : Bool := compareAt s n (s.bank (n / 32)).supplyMv pin

/-- The wetting of the channel is pulsed (Table 10-2). -/
def pulsed (s : State) (n : Nat) : Bool := bitOf (prof s n 5) 1

/-- PulsePeriod in µs (Table 10-2). -/
def pulsePeriod (s : State) (n : Nat) : Nat :=
  match field (prof s n 5) 2 3 with
  | 0 => 1000 | 1 => 2000 | 2 => 5000 | 3 => 10000 | 4 => 20000 | _ => 50000

/-- Debounce in ticks. -/
def debounce (s : State) (n : Nat) : Nat := prof s n 6 * 1000

/-- A wire-break phase runs (R280). -/
def breaking (s : State) (n : Nat) : Bool := (s.input n).breakAt.any fun t => !s.elapsed t 500

/-! ### Level samples and debounce (R277 to R279) -/

/-- A level sample: a candidate starts, holds, is ready or ends (R278). During a reset of the bank logic the levels hold (R292).
DESIGN CHOICE: notes/assumptions/83.md. -/
def levelSample (n : Nat) (pin : Int) (s : State) : State :=
  if listens s n ∧ !(s.bank (n / 32)).supplyOff ∧ !(s.bank (n / 32)).resetting ∧ !breaking s n then
    let l := compare s n pin
    let x := s.input n
    let d := debounce s n
    s.modInput n fun r =>
      let r := { r with comp := l }
      if x.ready then r
      else if x.known ∧ l = (s.cell n).inputLevel then { r with cand := none }
      else match x.cand with
        | some (t, z, cl) =>
          if cl = l then { r with cand := some (t, z, cl), ready := s.elapsed t d }
          else { r with cand := some (s.ticks, s.stamp (n / 32), l), ready := decide (d = 0) }
        | none => { r with cand := some (s.ticks, s.stamp (n / 32), l), ready := decide (d = 0) }
  else s

/-- R277: with continuous wetting every sample instant gives a level sample; the count and its edge time are captured with the sample
set (R120, R122). -/
def sample (n : Nat) (s : State) : State :=
  let s := if pulsed s n ∧ Chan.mode s n = 4 then s else levelSample n ((s.cell n).pins.headD 0) s
  if Chan.mode s n = 6 then
    let x := s.input n
    ((s.modInput n fun r => { r with captured := (r.count :: r.captured).take 4 }).wr (0x4600 + n) 7 x.count).wr
      (0x4600 + n) 8 x.edgeTime
  else s

/-- The wire-break phases of a channel are enabled and may run (R280). -/
def breakEnabled (s : State) (n : Nat) : Bool :=
  decide (Chan.mode s n = 4 ∧ prof s n 8 = 1) && !Protect.paused s n

/-- Microseconds until the next wire-break phase of a channel on its grid (R280). -/
def untilBreak (s : State) (n : Nat) : Nat :=
  (100000 + (3000 * (n % 32) + 500) % 100000 - s.now / 1000 % 100000) % 100000

/-- R275, R277: the level sample of a wetting pulse, 180 µs after its start on the grid. A pulse that overlaps a wire-break
phase is skipped, and FLOAT disconnects the source. DESIGN CHOICE: notes/assumptions/81.md. -/
def pulse (n : Nat) (pin : Int) (s : State) : State :=
  let p := pulsePeriod s n
  let onGrid := decide (s.now / 1000 % p = (20 * (n % 32) + 180) % p)
  let overlaps := (s.input n).breakAt.any (fun t => decide (s.ticks < t + 680)) ||
    (breakEnabled s n && decide (untilBreak s n < 20))
  if Chan.mode s n = 4 ∧ pulsed s n ∧ onGrid ∧ (s.cell n).drive = 0 ∧ !overlaps then levelSample n pin s else s

/-- R279: the level is taken again without an event: power-up, bank reset, configuration. -/
def forget (n : Nat) (s : State) : State := s.modInput n fun r => { r with cand := none, ready := false, known := false }

/-- R279: SupplyOff drops every candidate of a bank. -/
def dropAll (b : Nat) (s : State) : State :=
  (Escrow.bankCells b).foldl (fun s n => s.modInput n fun r => { r with cand := none, ready := false }) s

/-! ### Change-of-state events (R286 to R288) -/

/-- InputLevels of a bank: positions outside the input modes read 0 (R291). -/
def levels (s : State) (b : Nat) : Nat :=
  ((List.range 32).map fun p => if listens s (b * 32 + p) ∧ (s.cell (b * 32 + p)).inputLevel then 2 ^ p else 0).sum

/-- WireBreaks of a bank (R281, R291). -/
def wireBreaks (s : State) (b : Nat) : Nat :=
  ((List.range 32).map fun p => if listens s (b * 32 + p) ∧ s.rdBit (0x4400 + b * 32 + p) 1 1 then 2 ^ p else 0).sum

/-- CosConfig of a record. -/
def config (s : State) (k : Nat) : Nat := s.rd (0x4F00 + k) 1

/-- DestKind and Dest of a record (Table 10-6). -/
def dest (s : State) (k : Nat) : Nat × Nat := (field (config s k) 8 2, field (config s k) 10 7)

/-- The 18 octets of an event value, as the raw OCT value (R287). DESIGN CHOICE: notes/assumptions/84.md. -/
def eventValue (c : Cos) : Nat :=
  c.levels + c.changed * 2 ^ 32 + c.eventTime.getD 0 * 2 ^ 64 + c.supply * 2 ^ 128

/-- R287, R288: a change enters a record's event; `changed` is the mask of the positions that changed. -/
def form (k b changed stamp : Nat) (s : State) : State :=
  let c := s.cosOf k
  let again := c.queued && decide (c.tick ≠ s.ticks)
  let s := if again ∧ (dest s k).1 = 2 then s.inc (0x4F00 + k) 5 else s
  let c' := { c with
    queued := true, levels := levels s b, supply := s.rd 0x4E80 (0x31 + b),
    changed := Nat.lor c.changed changed, eventTime := some (c.eventTime.getD stamp),
    changes := if c.queued then (if again then min 0xFFFF (c.changes + 1) else c.changes) else 1,
    time := s.now, tick := s.ticks }
  (s.modCos k fun _ => c').wr (0x4F00 + k) 3 (eventValue c')

/-- The records, with a destination, of one bank. -/
def recordsOf (s : State) (b : Nat) : List Nat :=
  ((s.listed 0x4F00 0x4F7F 1).filter fun p => field p.2 0 4 = b ∧ field p.2 8 2 ≠ 0).map (·.1 - 0x4F00)

/-- An accepted level change reaches every record that matches it. -/
def report (n : Nat) (level : Bool) (stamp : Nat) (s : State) : State :=
  (recordsOf s (n / 32)).foldl (fun s k =>
    let e := field (config s k) 4 2
    if s.rdBit (0x4F00 + k) 2 (n % 32) ∧ (e = 3 ∨ (e = 1 ∧ level) ∨ (e = 2 ∧ !level)) then
      form k (n / 32) (2 ^ (n % 32)) stamp s else s) s

/-- An event is delivered: its changes no longer enter the next one. -/
def delivered (k : Nat) (s : State) : State :=
  (s.inc (0x4F00 + k) 4).modCos k fun c => { c with queued := false, changed := 0, eventTime := none, changes := 0 }

/-- R288, R368: an event is withdrawn, and its changes enter the next event. -/
def lost (k : Nat) (s : State) : State := s.modCos k fun c => { c with queued := false, changes := 0 }

/-- R288: an event's tenor expires: its withdrawal is counted. -/
def withdrawn (k : Nat) (s : State) : State := lost k (s.inc (0x4F00 + k) 6)

/-- R286: a session has closed or a context has left Active. -/
def closeDest (kind num : Nat) (s : State) : State :=
  (s.listed 0x4F00 0x4F7F 1).foldl (fun s p =>
    if field p.2 8 2 = kind ∧ field p.2 10 7 = num then
      (s.wr p.1 1 (setField p.2 8 2 0)).modCos (p.1 - 0x4F00) fun _ => {}
    else s) s

/-- R278: the acceptance of a candidate. The first level accepted after a restart forms no event (R279). -/
def accept (n : Nat) (s : State) : State :=
  let x := s.input n
  match x.ready, x.cand with
  | true, some (_, stamp, l) =>
    if (s.bank (n / 32)).resetting then s
    else
    let s := (s.modInput n fun r => { r with cand := none, ready := false, known := true }).modCell n fun c =>
      { c with inputLevel := l }
    if x.known then report n l stamp (Coil.input n l s) else s
  | _, _ => s

/-! ### Wire break (R280, R281) -/

/-- R280: a wire-break phase begins on its grid. -/
def breakPhase (n : Nat) (s : State) : State :=
  if breakEnabled s n ∧ untilBreak s n = 0 then s.modInput n fun r => { r with breakAt := some s.ticks } else s

/-- R280: a phase runs only while its conditions hold; one that they leave ends without a result. -/
def breakEnds (s : State) : State :=
  s.inputs.foldl (fun s p =>
    if p.2.breakAt.isSome ∧ !breakEnabled s p.1 then s.modInput p.1 fun r => { r with breakAt := none } else s) s

/-- R281: the result of a phase, from the mean of its last 10 samples. An indeterminate one changes nothing. -/
def breakResult (n : Nat) (s : State) : State :=
  match (s.input n).breakAt with
  | some t =>
    if !breakEnabled s n then s.modInput n fun r => { r with breakAt := none }
    else if s.elapsed t 500 then
      let l := (s.cell n).pins.take 10
      let m := l.sum
      let k : Int := (l.length : Int)
      let s := s.modInput n fun r => { r with breakAt := none }
      if m > 500 * k then
        let c := (s.input n).broken + 1
        let s := s.modInput n fun r => { r with broken := min 2 c }
        if 2 ≤ c then Protect.flag n 1 true 3 s else s
      else if m < 100 * k ∨ (150 * k ≤ m ∧ m ≤ 350 * k) then
        Protect.flag n 1 false 3 (s.modInput n fun r => { r with broken := 0 })
      else s
    else s
  | none => s

/-! ### Counting (R283 to R285) -/

/-- EdgeMode, QuadratureResolution and Invert of a Counter channel (Table 04-5). -/
def edgeMode (s : State) (n : Nat) : Nat := s.rdField (0x4000 + n) 8 0 2

/-- The count of channel `n` changes by `d` and its edge time is recorded; `onA` marks the track for R284. -/
def count (n : Nat) (d : Int) (onA : Bool) (s : State) : State :=
  let d := if s.rdBit (0x4000 + n) 8 4 then -d else d
  let s := s.modInput n fun r => { r with
    lastEdge := some (s.now, onA, r.count), count := rawOf 32 ((r.count : Int) + d),
    edgeTime := if d = 0 then r.edgeTime else s.stamp (n / 32) }
  s

/-- The change of the count at an edge of a pair (R284): `onA` names the track, `rising` its new level, `a` and `b` the
levels after it. -/
def quadrature (res : Nat) (onA rising a b : Bool) : Int :=
  match res with
  | 0 => if onA && rising then (if b then -1 else 1) else 0
  | 1 => if onA then (if rising = b then -1 else 1) else 0
  | _ => if onA then (if rising = b then -1 else 1) else (if rising = a then 1 else -1)

/-- R284: an accepted edge of a pair whose track A is channel `n`. -/
def pairEdge (n : Nat) (onA rising : Bool) (s : State) : State :=
  let x := s.input n
  let near := x.lastEdge.any fun p => decide (p.2.1 ≠ onA ∧ s.now < p.1 + prof s n 7 * 100)
  if near then
    let before := x.lastEdge.elim x.count (·.2.2)
    (s.modInput n fun r => { r with count := before, lastEdge := none }).incBy (0x4E86 + n / 128) (1 + n % 128) u32max 1
  else
    let a := (s.input n).edge
    let b := (s.input (n + 1)).edge
    count n (quadrature (s.rdField (0x4000 + n) 8 2 2) onA rising a b) onA s

/-- R283: an edge to `rising` has been accepted. DESIGN CHOICE: notes/assumptions/82.md. -/
def edge (n : Nat) (rising : Bool) (s : State) : State :=
  let s := s.modInput n fun r => { r with edge := rising }
  if Chan.mode s n = 6 then
    match edgeMode s n with
    | 0 => if rising then count n 1 true s else s
    | 1 => if rising then s else count n 1 true s
    | 2 => count n 1 true s
    | _ => pairEdge n true rising s
  else if Chan.mode s n = 7 ∧ n % 32 ≠ 0 ∧ Chan.mode s (n - 1) = 6 ∧ edgeMode s (n - 1) = 3 then
    pairEdge (n - 1) false rising s
  else s

/-- R285: a committed CounterLoad waits for the bank command slot. -/
def loadWrite (n v : Nat) (s : State) : State := s.modInput n fun r => { r with load := some v }

/-- R285: the bank command slot applies the waiting loads of its bank. -/
def loadSlot (b : Nat) (s : State) : State :=
  s.inputs.foldl (fun s p =>
    if p.1 / 32 = b then
      match p.2.load with
      | some v => s.modInput p.1 fun r => { r with count := v, load := none, lastEdge := none }
      | none => s
    else s) s

/-- R285: CounterLoad is refused outside Counter mode, and while a loop engine that counts this channel is not
stopped. -/
def loadAllowed (s : State) (n : Nat) : Bool :=
  decide (Chan.mode s n = 6) &&
    s.loops.all fun p => decide (p.2.st = 0) || !decide (Loops.source s p.1 = (3, n) ∧ s.fn ⟨3, p.1⟩ ≠ 0)

/-! ### Field supply (R289) -/

/-- R289: the new band of a bank's supply has held for 1 ms. -/
def supplyChange (b : Nat) (s : State) : State :=
  let r := s.bank b
  let v := Protect.band r.supplyMv
  if v ≠ s.rd 0x4E80 (0x31 + b) ∧ s.elapsed r.bandAt 1000 then
    let s := s.wr 0x4E80 (0x31 + b) v
    (recordsOf s b).foldl (fun s k => if bitOf (config s k) 6 then form k b 0 (s.stamp b) s else s) s
  else s

/-! ### Wake inputs (R290) -/

/-- WakeInput of a channel. -/
def wakeCfg (s : State) (n : Nat) : Nat := s.rd 0x4E81 (1 + n)

/-- The levels latched at Sleep entry. -/
def latchWake (s : State) : State :=
  (List.range 64).foldl (fun s n =>
    if bitOf (wakeCfg s n) 0 then s.modInput n fun r => { r with wakeRef := (s.cell n).inputLevel, wakePolls := 0 } else s) s

/-- One poll of an enabled wake input in Sleep: the pin, in counts of 10 mV at the end of the pulse, against the profile's thresholds,
those of Ratio profiles as fractions of KA; true where it signals a wake: Confirm consecutive polls differ from the
reference in the direction of Edge. -/
def wakePoll (n : Nat) (pin : Int) (s : State) : State × Bool :=
  let v := wakeCfg s n
  let x := s.input n
  let e := field v 1 2
  let level := compareAt s n s.supply.ka pin
  if bitOf v 0 ∧ s.power = 1 then
    let differs := level != x.wakeRef && (decide (e = 0) || (decide (e = 1) && level) || (decide (e = 2) && !level))
    let k := if differs then x.wakePolls + 1 else 0
    (s.modInput n fun r => { r with comp := level, wakePolls := k }, decide (k = field v 3 2 + 1))
  else (s, false)

end Inputs

end Sys2Proof.Machine
end

