-- ==== Sys2Proof/Machine/Frames.lean ====
section
/-! DEFINITION. How BLL frames of the module are laid out (R79, R88, R91, R97, Tables 03-2, 03-3). -/

namespace Sys2Proof.Machine

namespace Frames

/-- The octets of a frame before its tag: the 2.0 layout of Table 03-2, or the 1.3 layout of R91. -/
def header (version type dest source session fc : Nat) (payload : List Byte) : List Byte :=
  let b (n v : Nat) := octets n v
  if version / 16 = 1 then b 1 0x13 ++ b 1 type ++ b 1 session ++ b 1 1 ++ b 4 fc ++ b 2 payload.length ++ payload
  else b 1 version ++ b 1 type ++ b 2 dest ++ b 2 source ++ b 1 session ++ b 1 1 ++ b 4 fc ++ b 2 payload.length ++ payload

/-- The version byte of a negotiated version (R90, R101). -/
def versionByte (v : Nat) : Nat := if v = 0x0103 then 0x13 else 0x20

/-- A frame of a session with its tag under KS (R79). -/
def build (s : State) (k type fc : Nat) (payload : List Byte) : List Byte :=
  let x := s.session k
  let h := header (versionByte x.version) type x.source (s.rd 0x1180 1) k fc payload
  h ++ octets 8 (Config.cmac x.ks h)

/-- A frame without a key: CHALLENGE and OPENED carry 8 tag octets of 0x00. -/
def plain (version type dest source session fc : Nat) (payload : List Byte) : List Byte :=
  header version type dest source session fc payload ++ octets 8 0

/-- An item: index, sub-index, type code, length, value (Table 03-3). -/
def item (i j : Nat) (t : LType) (v : Nat) : List Byte :=
  octets 2 i ++ octets 1 j ++ octets 1 t.code ++ octets 1 t.size ++ octets t.size v

/-- The NOTIFY payload (R97). -/
def notify (sub status changes time : Nat) (it : List Byte) : List Byte :=
  octets 1 sub ++ octets 1 status ++ octets 2 changes ++ octets 8 time ++ it

/-- The octets of the BLL frame of a notification with an item of `n` octets (Tables 03-2, 03-3). -/
def noticeLen (n : Nat) : Nat := n + 34

end Frames

end Sys2Proof.Machine
end

