-- ==== Sys2Proof/Machine/SeqOp.lean ====
section
/-! DEFINITION. The instructions of a Fororn context, as the words of Table 11-3 spell them (R295 to R310). -/

namespace Sys2Proof.Machine

/-- A general register g0 to g7. -/
abbrev Reg := Fin 8

/-- Functions of ALU and of the first forms of ALUI and ALUIX (Table 11-5, majors 0x01, 0x02, 0x15). -/
inductive AluF
  | add | sub | and | or | xor
  deriving DecidableEq, Repr

/-- Shift functions (Table 11-5). -/
inductive ShiftF
  | shl | shr | sar
  deriving DecidableEq, Repr

/-- Register functions of MOVE, ALUX, DIV and BITS (Tables 11-5, 11-6). -/
inductive RegF
  | mov | cmp | tst | neg | not
  | mul | mulhs | mulhu | adc | sbc | rol | ror
  | div | divu | rem | remu | min | max | minu | maxu
  | rev | revb | bswap | par | clz | popc | sxb | sxh
  deriving DecidableEq, Repr

/-- One-bit functions of FIELD (Table 11-6). -/
inductive BitF
  | bset | bclr | btgl | btst
  deriving DecidableEq, Repr

/-- Field functions of FIELD (Table 11-6). -/
inductive FieldF
  | extu | exts | ins
  deriving DecidableEq, Repr

/-- Functions of CRC (Table 11-6). -/
inductive CrcF
  | crc8 | crc16 | crc32 | crc32w
  deriving DecidableEq, Repr

/-- Memory functions of CRC (Table 11-6). -/
inductive CrcM
  | crc8m | crc16m | crc32m
  deriving DecidableEq, Repr

/-- Addressing modes of LDW and STW (Table 11-7). -/
inductive Mode
  | at_ | disp (d : BitVec 12) | post | pre
  deriving DecidableEq, Repr

/-- What a load or store moves: a byte, a half-word or a word. -/
inductive Size
  | b | h | w
  deriving DecidableEq, Repr

/-- The instructions. Reserved combinations of fields that the shapes still spell are named by `SeqOp.reserved`. -/
inductive SeqOp
  | nop | ret | rti | yield | wait (g : Reg) | swi (n : Fin 64) | brk
  | alu (f : AluF) (gd gs : Reg) | shift (f : ShiftF) (gd gs : Reg)
  | alui (f : AluF) (gd : Reg) (imm : BitVec 12) | shifti (f : ShiftF) (gd : Reg) (n : Fin 32)
  | reg (f : RegF) (gd gs : Reg)
  | ldi (gd : Reg) (imm : BitVec 12) | cmpi (gd : Reg) (imm : BitVec 12)
  | ldw (gd gb : Reg) (m : Mode) | stw (gs gb : Reg) (m : Mode)
  | br (cond : Fin 15) (off : BitVec 12) | brx (cond : Fin 15) (off : BitVec 14)
  | call (a : BitVec 12) | jmp (a : BitVec 12) | callr (gs : Reg) | jmpr (gs : Reg)
  | callx (a : BitVec 13) | jmpx (a : BitVec 13)
  | bit (f : BitF) (gd : Reg) (lsb : Fin 32) | fld (f : FieldF) (gd gs : Reg) (lsb w1 : Fin 32)
  | crc (f : CrcF) (gd gs : Reg) | crcm (f : CrcM) (gd gs : Reg)
  | load (z : Size) (signed : Bool) (gd gb : Reg) (d : BitVec 14) | store (z : Size) (gs gb : Reg) (d : BitVec 14)
  | ldbp (gd gb : Reg) | stbp (gs gb : Reg)
  | ldwx (gd gb gi : Reg) | stwx (gs gb gi : Reg) | ldbx (gd gb gi : Reg) | stbx (gs gb gi : Reg)
  | push (gs : Reg) | pop (gd : Reg) | pushm (mask : BitVec 8) | popm (mask : BitVec 8) | addsp (imm : BitVec 14)
  | getsp (gd : Reg) | setsp (gs : Reg)
  | ldil (gd : Reg) (imm : Word)
  | rep (gc : Reg) | repi (n : BitVec 14)
  | mfs (g : Reg) (r : BitVec 8) | mts (g : Reg) (r : BitVec 8)
  | aluix (f : AluF) (gd : Reg) (imm : BitVec 14) | cmpx (gd : Reg) (imm : BitVec 14) | tstx (gd : Reg) (imm : BitVec 14)
  | ldix (gd : Reg) (imm : BitVec 14)
  deriving DecidableEq, Repr

end Sys2Proof.Machine
end

