-- ==== Sys2Proof/Machine/Flags.lean ====
section
/-! DEFINITION. The results and flags of the Fororn instructions that compute on registers (R298 to R302, Tables 11-5 and
11-6). A flag that an instruction does not name is unchanged, so each result says which flags it sets. -/

namespace Sys2Proof.Machine

/-- A result and the flags it sets; `none` leaves a flag as it was. -/
structure Res where
  val : Word
  z : Option Bool := none
  n : Option Bool := none
  c : Option Bool := none
  v : Option Bool := none
  deriving DecidableEq, Repr

namespace Flags

/-- Z and N of a result. -/
def zn (w : Word) : Res := { val := w, z := some (w == 0), n := some w.msb }

/-- Z and N of a result, with V cleared. -/
def logic (w : Word) : Res := { zn w with v := some false }

/-- a + b + carry with Z, N, C and V (R298). -/
def addc (a b : Word) (ci : Bool) : Res :=
  let w := a + b + (if ci then 1 else 0)
  { zn w with
    c := some (decide (2 ^ 32 ≤ a.toNat + b.toNat + (if ci then 1 else 0)))
    v := some (decide (a.msb = b.msb ∧ w.msb ≠ a.msb)) }

/-- a − b − borrow with Z, N, C and V; C is the borrow (R298). -/
def subb (a b : Word) (bi : Bool) : Res :=
  let w := a - b - (if bi then 1 else 0)
  { zn w with
    c := some (decide (a.toNat < b.toNat + (if bi then 1 else 0)))
    v := some (decide (a.msb ≠ b.msb ∧ w.msb ≠ a.msb)) }

/-- The carry of a shift or rotate: unchanged for a count of 0 (R299). -/
def shiftC (k : Nat) (b : Bool) : Option Bool := if k = 0 then none else some b

/-- The shifts by the count `k`, 0 to 31 (R299). -/
def shift (f : ShiftF) (a : Word) (k : Nat) : Res :=
  match f with
  | .shl => { logic (a <<< k) with c := shiftC k (a.getLsbD (32 - k)) }
  | .shr => { logic (a >>> k) with c := shiftC k (a.getLsbD (k - 1)) }
  | .sar => { logic (a.sshiftRight k) with c := shiftC k (a.getLsbD (k - 1)) }

/-- The functions of ALU (Table 11-5). -/
def alu (f : AluF) (a b : Word) : Res :=
  match f with
  | .add => addc a b false
  | .sub => subb a b false
  | .and => logic (a &&& b)
  | .or => logic (a ||| b)
  | .xor => logic (a ^^^ b)

/-- Quotient and remainder with V (R300): C is cleared. -/
def divide (val : Word) (v : Bool) : Res := { zn val with c := some false, v := some v }

/-- Signed division that truncates toward zero (R300). -/
def div (a b : Word) : Res :=
  if b = 0 then divide (BitVec.allOnes 32) true
  else if a = 0x80000000 ∧ b = 0xFFFFFFFF then divide 0x80000000 true
  else divide (BitVec.ofInt 32 (a.toInt.tdiv b.toInt)) false

/-- Signed remainder, with the sign of the dividend (R300). -/
def rem (a b : Word) : Res :=
  if b = 0 then divide a true
  else if a = 0x80000000 ∧ b = 0xFFFFFFFF then divide 0 true
  else divide (BitVec.ofInt 32 (a.toInt.tmod b.toInt)) false

/-- Unsigned division (R300). -/
def divu (a b : Word) : Res :=
  if b = 0 then divide (BitVec.allOnes 32) true else divide (BitVec.ofNat 32 (a.toNat / b.toNat)) false

/-- Unsigned remainder (R300). -/
def remu (a b : Word) : Res := if b = 0 then divide a true else divide (BitVec.ofNat 32 (a.toNat % b.toNat)) false

/-- Z and N of a product, with C and V cleared. -/
def product (w : Word) : Res := { zn w with c := some false, v := some false }

/-- The word whose bit i is `f i`. -/
def bits (f : Nat → Bool) : Word := BitVec.ofNat 32 (((List.range 32).map fun i => if f i then 2 ^ i else 0).sum)

/-- The number of ones of a word. -/
def ones (w : Word) : Nat := ((List.range 32).map fun i => if w.getLsbD i then 1 else 0).sum

/-- The number of leading zeros of a word. -/
def leading (w : Word) : Nat := ((List.range 32).takeWhile fun i => !w.getLsbD (31 - i)).length

/-- The register functions; `ci` is the present C (Tables 11-5, 11-6). `cmp` and `tst` discard their value. -/
def reg (f : RegF) (a b : Word) (ci : Bool) : Res :=
  match f with
  | .mov => { val := b }
  | .cmp => subb a b false
  | .tst => logic (a &&& b)
  | .neg => subb 0 b false
  | .not => logic (~~~b)
  | .mul => product (a * b)
  | .mulhs => product (BitVec.ofInt 32 (a.toInt * b.toInt / 2 ^ 32))
  | .mulhu => product (BitVec.ofNat 32 (a.toNat * b.toNat / 2 ^ 32))
  | .adc => addc a b ci
  | .sbc => subb a b ci
  | .rol => let k := b.toNat % 32; let w := a.rotateLeft k; { zn w with c := shiftC k (w.getLsbD 0) }
  | .ror => let k := b.toNat % 32; let w := a.rotateRight k; { zn w with c := shiftC k w.msb }
  | .div => div a b
  | .divu => divu a b
  | .rem => rem a b
  | .remu => remu a b
  | .min => zn (if a.toInt ≤ b.toInt then a else b)
  | .max => zn (if a.toInt ≤ b.toInt then b else a)
  | .minu => zn (if a.toNat ≤ b.toNat then a else b)
  | .maxu => zn (if a.toNat ≤ b.toNat then b else a)
  | .rev => zn (bits fun i => b.getLsbD (31 - i))
  | .revb => zn (bits fun i => b.getLsbD (i / 8 * 8 + (7 - i % 8)))
  | .bswap => zn (bits fun i => b.getLsbD ((3 - i / 8) * 8 + i % 8))
  | .par => zn (BitVec.ofNat 32 (ones b % 2))
  | .clz => zn (BitVec.ofNat 32 (leading b))
  | .popc => zn (BitVec.ofNat 32 (ones b))
  | .sxb => zn ((b.truncate 8).signExtend 32)
  | .sxh => zn ((b.truncate 16).signExtend 32)

/-- The functions of `reg` that write no register. -/
def discards (f : RegF) : Bool := f = .cmp || f = .tst

/-- The one-bit functions (Table 11-6); btst sets Z only. -/
def bit (f : BitF) (a : Word) (k : Nat) : Res :=
  match f with
  | .bset => { val := a ||| ((1 : Word) <<< k) }
  | .bclr => { val := a &&& ~~~((1 : Word) <<< k) }
  | .btgl => { val := a ^^^ ((1 : Word) <<< k) }
  | .btst => { val := a, z := some (!a.getLsbD k) }

/-- The field functions on `w` bits from `lsb` (Table 11-6, R301); `a` is the old gd. -/
def fld (f : FieldF) (a b : Word) (lsb w : Nat) : Res :=
  match f with
  | .extu => zn (BitVec.ofNat 32 (b.toNat / 2 ^ lsb % 2 ^ w))
  | .exts =>
    let x := b.toNat / 2 ^ lsb % 2 ^ w
    zn (BitVec.ofInt 32 (if x < 2 ^ (w - 1) then (x : Int) else (x : Int) - (2 ^ w : Nat)))
  | .ins => zn (BitVec.ofNat 32 (a.toNat / 2 ^ (lsb + w) * 2 ^ (lsb + w) + b.toNat % 2 ^ w * 2 ^ lsb + a.toNat % 2 ^ lsb))

/-- `n` steps of a cyclic check, most significant bit first, in a register of `w` bits (R302). -/
def crcMsb (w poly : Nat) : Nat → Nat → Nat
  | 0, c => c
  | n + 1, c => crcMsb w poly n (if 2 ^ (w - 1) ≤ c then Nat.xor (c * 2 % 2 ^ w) poly else c * 2)

/-- `n` steps of a cyclic check in reflected form (R302). -/
def crcLsb (poly : Nat) : Nat → Nat → Nat
  | 0, c => c
  | n + 1, c => crcLsb poly n (if c % 2 = 1 then Nat.xor (c / 2) poly else c / 2)

/-- One SAE J1850 step on a byte. -/
def crc8 (g b : Nat) : Nat := crcMsb 8 0x1D 8 (Nat.xor (g % 256) b)

/-- One CCITT step on a byte. -/
def crc16 (g b : Nat) : Nat := crcMsb 16 0x1021 8 (Nat.xor (g % 65536) (b * 256))

/-- One IEEE 802.3 step on a byte. -/
def crc32 (g b : Nat) : Nat := crcLsb 0xEDB88320 8 (Nat.xor g b)

/-- A result that sets Z only. -/
def zOnly (n : Nat) : Res := { val := BitVec.ofNat 32 n, z := some (BitVec.ofNat 32 n == 0) }

/-- The cyclic-check steps on a register (R302). -/
def crc (f : CrcF) (a b : Word) : Res :=
  let x := b.toNat
  match f with
  | .crc8 => zOnly (crc8 a.toNat (x % 256))
  | .crc16 => zOnly (crc16 a.toNat (x % 256))
  | .crc32 => zOnly (crc32 a.toNat (x % 256))
  | .crc32w => zOnly ((List.range 4).foldl (fun g i => crc32 g (x / 256 ^ i % 256)) a.toNat)

/-- The cyclic-check steps on a byte of memory (R302). -/
def crcm (f : CrcM) (a : Word) (b : Nat) : Res :=
  match f with
  | .crc8m => zOnly (crc8 a.toNat b)
  | .crc16m => zOnly (crc16 a.toNat b)
  | .crc32m => zOnly (crc32 a.toNat b)

/-- CRC-32 (IEEE 802.3) of an octet string, initial value all ones and final inversion (R337). -/
def crc32Of (l : List Byte) : Nat := Nat.xor (l.foldl (fun c b => crc32 c b.toNat) 0xFFFFFFFF) 0xFFFFFFFF

/-- Whether a condition holds (Table 11-4). -/
def cond (k : Nat) (z n c v : Bool) : Bool :=
  match k with
  | 0 => z | 1 => !z | 2 => c | 3 => !c | 4 => n | 5 => !n | 6 => v | 7 => !v
  | 8 => !c && !z | 9 => c || z | 10 => n == v | 11 => n != v | 12 => !z && n == v | 13 => z || n != v
  | _ => true

end Flags

end Sys2Proof.Machine
end

