-- ==== Sys2Proof/Machine/Vault.lean ====
section
/-! DEFINITION. The Vault's coins: reservations, the three sources of an item's coins, tenor and residence (chapter 13,
R359 to R369). -/

namespace Sys2Proof.Machine

namespace Vault

/-! ### Reservations and the shared pool (R362 to R364, R384) -/

/-- ClassReserve and ClassInUse of a class. -/
def classReserve (s : State) (tc : Nat) : Nat := s.rd (0x6200 + tc) 1

/-- Coins drawn from the reserve of a class. -/
def classInUse (s : State) (tc : Nat) : Nat := s.rd (0x6200 + tc) 4

/-- EgressReserve of a port. -/
def egressReserve (s : State) (p : Nat) : Nat := s.rd 0x6101 (1 + p)

/-- Coins drawn from the reserve of a port. -/
def egressInUse (s : State) (p : Nat) : Nat := s.rd 0x6102 (1 + p)

/-- Tenor of a class in ticks. DESIGN CHOICE: notes/assumptions/103.md. -/
def tenor (s : State) (tc : Nat) : Nat := s.rd (0x6200 + tc) 3

/-- ReservedTotal: the sum of every class and egress reservation. -/
def reservedTotal (s : State) : Nat :=
  ((List.range 8).map (classReserve s)).sum + ((List.range 12).map (egressReserve s)).sum

/-- The coins of the Vault (R354). -/
def size : Nat := 131072

/-- SharedPool (R364). -/
def sharedPool (s : State) : Nat := size - reservedTotal s

/-- SharedInUse: coins drawn from the pool, and those drawn beyond a lowered reservation (R364). -/
def sharedInUse (s : State) : Nat :=
  s.poolDrawn + ((List.range 8).map fun tc => classInUse s tc - classReserve s tc).sum
    + ((List.range 12).map fun p => egressInUse s p - egressReserve s p).sum

/-- SharedInUse equals or exceeds SharedPool (Table 13-10). -/
def exhausted (s : State) : Bool := decide (sharedPool s ≤ sharedInUse s)

/-- VaultStatus (Table 13-6). -/
def status (s : State) : Nat :=
  b01 (exhausted s) + b01 (decide (4096 ≤ s.fdb.length)) * 2

/-- The coins of an item of `len` octets (R360). -/
def coinsOf (len : Nat) : Nat := max 1 (divUp len 128)

/-- The source that supplies `n` coins for class `tc` bound for port `p`: the first of R362 that has them all. -/
def sourceFor (s : State) (tc p n : Nat) : Option Nat :=
  if classInUse s tc + n ≤ classReserve s tc then some 0
  else if egressInUse s p + n ≤ egressReserve s p then some 1
  else if sharedInUse s + n ≤ sharedPool s ∧ Map.get 0 s.classPool tc + n ≤ s.rd (0x6200 + tc) 2 then some 2
  else none

/-- `n` coins more (`up`) or less are drawn from a source. -/
def draw (up : Bool) (c : Chain) (n : Nat) (s : State) : State :=
  let f x := if up then x + n else x - n
  let s :=
    match c.src with
    | 0 => s.wr (0x6200 + c.tc) 4 (f (classInUse s c.tc))
    | 1 => s.wr 0x6102 (1 + c.port) (f (egressInUse s c.port))
    | _ => { s with poolDrawn := f s.poolDrawn, classPool := Map.put 0 s.classPool c.tc (f (Map.get 0 s.classPool c.tc)) }
  let s := s.wr (0x6200 + c.tc) 5 (f (s.rd (0x6200 + c.tc) 5))
  let free := if up then s.rd 0x6100 2 - n else s.rd 0x6100 2 + n
  let s := s.wr 0x6100 2 free
  if free < s.rd 0x6100 6 then s.wr 0x6100 6 free else s

/-- ItemsQueued of the Vault and of the class. -/
def countItem (up : Bool) (tc : Nat) (s : State) : State :=
  let f x := if up then x + 1 else x - 1
  (s.wr 0x6100 9 (f (s.rd 0x6100 9))).wr (0x6200 + tc) 6 (f (s.rd (0x6200 + tc) 6))

/-- R362: an item's coins are taken from one source; none where no source can supply them. Reaching SharedPool raises
SHARED_EXHAUSTED. -/
def take (tc p n : Nat) (complete : Bool) (s : State) : Option Chain × State :=
  match sourceFor s tc p n with
  | none => (none, s)
  | some k =>
    let c : Chain := { tc := tc, port := p, coins := n, src := k, start := if complete then some s.ticks else none }
    let t := countItem true tc (draw true c n s)
    (some c, Audit.raiseIf (exhausted t && !exhausted s) 0x1562 t)

/-- R363: an item's coins return to their sources as it leaves the Vault; MaxResidence keeps the longest stay. -/
def free (c : Chain) (s : State) : State :=
  let s := countItem false c.tc (draw false c c.coins s)
  match c.start with
  | some t => if s.rd (0x6200 + c.tc) 9 < s.ticks - t then s.wr (0x6200 + c.tc) 9 (min u32max (s.ticks - t)) else s
  | none => s

/-- The tenor of a complete item has ended (R366). -/
def expired (s : State) (c : Chain) : Bool := c.start.any fun t => s.elapsed t (tenor s c.tc)

/-- R366: a withdrawal by tenor counts at its class and its port, and raises TENOR. -/
def countTenor (tc p : Nat) (s : State) : State :=
  Audit.raise (0x1500 + p * 8 + 2) ((s.inc (0x6200 + tc) 7).inc (0x6000 + p) 0x28)

/-- R362: a frame refused for want of coins. -/
def countNoCoin (tc p : Nat) (s : State) : State :=
  Audit.raise (0x1500 + p * 8 + 1) ((s.inc (0x6000 + p) 0x24).inc (0x6200 + tc) 8)

/-! ### Items of the egress queues -/

/-- A port whose T1S segment sleeps: what is routed to it is discarded and counted in SleepDiscards (R420). -/
def sleeps (s : State) (p : Nat) : Bool := decide (2 ≤ p ∧ p < 8) && (Map.get {} s.ports p).asleep

/-- The port at which an egress queue's items are accounted: a channel of ISO 15765-2 lies behind P10 (R364). -/
def portOf (q : Nat) : Nat := if q < 12 then q else 10

/-- An item created inside the module is queued for egress (R361); false where no source supplies its coins. -/
def queue (tc q len : Nat) (x : Cargo) (s : State) : Bool × State :=
  if sleeps s q then (true, s.inc 0x6800 0x15) else
  match take tc (portOf q) (coinsOf len) true s with
  | (none, s) => (false, s)
  | (some c, s) =>
    (true, { s with vault := s.vault ++ [{ id := s.vaultNext, chain := c, cargo := x, ports := [q] }], vaultNext := s.vaultNext + 1 })

/-- An item of the egress queues by its number. -/
def find (s : State) (id : Nat) : Option VItem := s.vault.find? (·.id = id)

/-- An item changed. -/
def modify (id : Nat) (f : VItem → VItem) (s : State) : State :=
  { s with vault := s.vault.map fun x => if x.id = id then f x else x }

/-- An item leaves the Vault, and its coins return (R363). -/
def drop (id : Nat) (s : State) : State :=
  match find s id with
  | none => s
  | some x => free x.chain { s with vault := s.vault.filter (·.id ≠ id) }

/-- An item leaves one queue; with its last egress it leaves the Vault (R361). -/
def leave (id p : Nat) (s : State) : State :=
  let s := modify id (fun x => { x with ports := x.ports.filter (· ≠ p), sending := x.sending.filter (· ≠ p) }) s
  match find s id with
  | some x => if x.ports = [] ∧ x.sending = [] then drop id s else s
  | none => s

/-- The transmission of an item begins from a queue; with `more` other facts of it change. -/
def depart (id p : Nat) (more : VItem → VItem) (s : State) : State :=
  modify id (fun y => more { y with ports := y.ports.filter (· ≠ p), sending := y.sending ++ [p] }) s

/-- Every item that meets a condition leaves the Vault without a count. -/
def withdraw (q : VItem → Bool) (s : State) : State :=
  ((s.vault.filter q).map (·.id)).foldl (fun s id => drop id s) s

end Vault

end Sys2Proof.Machine
end

