-- ==== Sys2Proof/Machine/Operands.lean ====
section
/-! DEFINITION. What a Fororn instruction addresses: registers, the data space and its regions, data and shared memory,
the stack window (R293, R303 to R305, R320, R322 to R324, Tables 12-1 to 12-5). -/

namespace Sys2Proof.Machine

/-! ### Contexts and engines -/

namespace State

/-- The record of a context. -/
def ctx (s : State) (c : Nat) : Ctx := Map.get {} s.ctxs c

/-- The state with a context's record changed. -/
def modCtx (s : State) (c : Nat) (f : Ctx → Ctx) : State := { s with ctxs := Map.modify {} s.ctxs c f }

/-- The record of a Fororn engine. -/
def eng (s : State) (e : Nat) : Eng := Map.get {} s.engines e

/-- The state with an engine's record changed. -/
def modEng (s : State) (e : Nat) (f : Eng → Eng) : State := { s with engines := Map.modify {} s.engines e f }

end State

namespace Ctx

/-- The flags in the layout of FLAGS (Table 11-2). -/
def flags (x : Ctx) : BitVec 4 := BitVec.ofNat 4 (b01 x.z + b01 x.n * 2 + b01 x.c * 4 + b01 x.v * 8)

/-- The flags set from the layout of FLAGS. -/
def setFlags (x : Ctx) (f : BitVec 4) : Ctx :=
  { x with z := f.getLsbD 0, n := f.getLsbD 1, c := f.getLsbD 2, v := f.getLsbD 3 }

/-- A register written. -/
def set (x : Ctx) (r : Reg) (w : Word) : Ctx := { x with g := x.g.set r w }

/-- The flags that a result sets. -/
def setRes (x : Ctx) (r : Res) : Ctx :=
  { x with z := r.z.getD x.z, n := r.n.getD x.n, c := r.c.getD x.c, v := r.v.getD x.v }

end Ctx

/-! ### Traps -/

/-- A trap as Table 11-8 records it: cause code, TRAPINFO. -/
structure Trap where
  cause : Nat
  info : Word
  deriving DecidableEq, Repr

namespace Trap

/-- UNDEF at the address of the offending word. -/
def undef (a : BitVec 13) : Trap := ⟨1, a.zeroExtend 32⟩

/-- REPEAT_HAZARD with the successor's address. -/
def hazard (a : BitVec 13) : Trap := ⟨2, a.zeroExtend 32⟩

/-- ALIGN. -/
def align (w : Word) : Trap := ⟨3, w⟩

/-- ACCESS. -/
def access (w : Word) : Trap := ⟨4, w⟩

/-- STACK. -/
def stack (w : Word) : Trap := ⟨5, w⟩

/-- PERMIT with the special register's number. -/
def permit (r : BitVec 8) : Trap := ⟨8, r.zeroExtend 32⟩

/-- DATA_ERROR. -/
def data (w : Word) : Trap := ⟨9, w⟩

end Trap

/-! ### Memories -/

/-- The canonical form of a memory whose unlisted bytes read 0: addresses strictly rising, no byte 0 listed.
DESIGN CHOICE: notes/assumptions/8.md. -/
abbrev Memory.wf (m : List Host.Cell) : Bool := Map.wf 0 m

namespace Seq

/-- Octets of a memory from address `a` on; an unlisted byte reads 0. -/
def bytes (m : List Host.Cell) (a n : Nat) : List Byte := (List.range n).map fun i => Map.get 0 m (a + i)

/-- A memory with octets stored from address `a` on. -/
def store (m : List Host.Cell) (a : Nat) (l : List Byte) : List Host.Cell :=
  (List.range l.length).foldl (fun m i => Map.put 0 m (a + i) (l.getD i 0)) m

/-- The place of a byte of an engine's data memory (R320). -/
def dataAddr (e a : Nat) : Nat := e * 16384 + a

/-- Octets of an engine's data memory. -/
def dataBytes (s : State) (e a n : Nat) : List Byte := bytes s.dmem (dataAddr e a) n

/-- A little-endian value of an engine's data memory. -/
def dataRead (s : State) (e a n : Nat) : Nat := leNat (dataBytes s e a n)

/-- Octets stored in an engine's data memory; none is written past its end. -/
def dataStore (e a : Nat) (l : List Byte) (s : State) : State :=
  { s with dmem := store s.dmem (dataAddr e a) (l.take (16384 - a)) }

/-- A value stored in an engine's data memory. -/
def dataWrite (e a n v : Nat) (s : State) : State := dataStore e a (octets n v) s

/-- WindowBase × 4,096 (R324). -/
def windowBase (s : State) (e : Nat) : Nat := s.rd (0x5000 + e) 4 * 4096

/-- A byte of shared memory as an engine sees it: its own buffered stores are in program order before the load. -/
def sharedByte (s : State) (e a : Nat) : Byte :=
  (s.eng e).shared.foldl (fun b x =>
    if x.addr ≤ a ∧ a < x.addr + x.size then BitVec.ofNat 8 (x.value / 256 ^ (a - x.addr)) else b) (Map.get 0 s.smem a)

/-- A little-endian value of shared memory as an engine sees it. -/
def sharedRead (s : State) (e a n : Nat) : Nat := leNat ((List.range n).map fun i => sharedByte s e (a + i))

/-! ### The data space (Table 12-1) -/

/-- A region of the data space with what an address names in it. -/
inductive Region
  | data (a : Nat)
  | shared (a : Nat)
  /-- a word of the cell path or of an engine window -/
  | path (a : Nat)
  /-- a path control word by its offset -/
  | ctl (off : Nat)
  | lock (i : Nat)
  deriving DecidableEq, Repr

/-- The offsets of the path control words that may be loaded, and stored to (Table 12-5). -/
def ctlLoad : List Nat := [0x00, 0x04, 0x08, 0x0C, 0x14, 0x18, 0x1C]

/-- The path control words that may be stored to. -/
def ctlStore : List Nat := [0x04, 0x10, 0x14, 0x20, 0x24]

/-- The region of a word of the path regions, none where the access is forbidden (R322, Tables 12-3 to 12-5). -/
def pathRegion (a : Nat) (write : Bool) : Option Region :=
  if a < 0x22000 then (if write && (decide (a % 16 = 4) || decide (a % 16 = 8)) then none else some (.path a))
  else if a < 0x23000 then (if write && decide (8 ≤ a % 16) then none else some (.path a))
  else if a < 0x23C00 then
    (if (if write then 0x14 else 0x34) < (a - 0x23000) % 64 then none else some (.path a))
  else if a < 0x23C40 then
    (if (if write then ctlStore else ctlLoad).contains (a - 0x23C00) then some (.ctl (a - 0x23C00)) else none)
  else if 0x23C80 ≤ a ∧ a < 0x23D00 then some (.lock ((a - 0x23C80) / 4))
  else none

/-- The region an access of `n` octets falls in, with the traps of R303 and R322. -/
def region (w : Word) (n : Nat) (write : Bool) : Except Trap Region :=
  let a := w.toNat
  if a % n ≠ 0 then .error (.align w)
  else if a < 0x4000 then .ok (.data a)
  else if 0x10000 ≤ a ∧ a < 0x20000 then .ok (.shared (a - 0x10000))
  else if 0x20000 ≤ a ∧ a < 0x23D00 ∧ n = 4 then
    match pathRegion a write with
    | some r => .ok r
    | none => .error (.access w)
  else .error (.access w)

/-- The stack window [StackLimit, StackBase) holds the word at an address (R305). -/
def inWindow (s : State) (c : Nat) (w : Word) : Bool :=
  decide (s.rd (0x5100 + c) 6 ≤ w.toNat ∧ w.toNat + 4 ≤ s.rd (0x5100 + c) 5)

/-- A data-memory read of `n` octets that meets an uncorrectable error (R314). -/
def bad (s : State) (e a n : Nat) : Bool := (s.eng e).dataBad.any fun x => decide (a ≤ x ∧ x < a + n)

/-- The low 12 or 14 bits of an immediate, sign-extended (R296). -/
def sext {k : Nat} (d : BitVec k) : Word := d.signExtend 32

end Seq

end Sys2Proof.Machine
end

