-- ==== Sys2Proof/Machine/Perf.lean ====
section
/-! DEFINITION. Performance counters, instruction tagging and census counters (R347 to R352, Tables 12-13 to 12-16). -/

namespace Sys2Proof.Machine

namespace Perf

/-! ### Event counters (R347) -/

/-- CounterSelect of counter `i`. -/
def select (s : State) (e i : Nat) : Nat := s.rd (0x5400 + e) (0x0A + i)

/-- Events that ignore ContextMask (Table 12-13). -/
def engineWide (ev : Nat) : Bool := ev = 0 || ev = 2 || (decide (32 ≤ ev) && decide (ev ≤ 50))

/-- The count of a counter wraps into the odd counter above it where that is chained, otherwise it sets its overflow
bit. -/
def bump (e i n : Nat) (s : State) : State :=
  let v := s.rd (0x5400 + e) (2 + i) + n
  let s := s.wr (0x5400 + e) (2 + i) (v % 2 ^ 32)
  if v < 2 ^ 32 then s
  else if i % 2 = 0 ∧ bitOf (select s e (i + 1)) 7 ∧ bitOf (select s e (i + 1)) 6 then
    s.wr (0x5400 + e) (3 + i) ((s.rd (0x5400 + e) (3 + i) + v / 2 ^ 32) % 2 ^ 32)
  else if i % 2 = 1 ∧ bitOf (select s e i) 7 then s
  else s.wrBit (0x5400 + e) 0x12 i true

/-- A counter counts an event of hardware context `k`. -/
def counts (sel ev k : Nat) (odd : Bool) : Bool :=
  decide (field sel 0 6 = ev) && bitOf sel 6 && !(odd && bitOf sel 7) && (engineWide ev || bitOf sel (8 + k))

/-- The census counter of an event, which wraps (R351). -/
def censusAdd (e ev n : Nat) (s : State) : State :=
  s.modEng e fun r =>
    if r.census.running then
      { r with census := { r.census with counts := Map.put 0 r.census.counts ev ((Map.get 0 r.census.counts ev + n) % 2 ^ 32) } }
    else r

/-- `n` events of hardware context `k` of engine `e`. -/
def count (e k ev n : Nat) (s : State) : State :=
  if n = 0 then s
  else
    censusAdd e ev n ((List.range 8).foldl (fun s i =>
      if counts (select s e i) ev k (i % 2 = 1) then bump e i n s else s) s)

/-- An event of a context, which some events count by hardware context too: instructions retired, issue slots, wait
cycles and traps (Table 12-13). DESIGN CHOICE: notes/assumptions/90.md. -/
def event (c ev n : Nat) (s : State) : State :=
  let e := c / 4
  let k := c % 4
  let s := count e k ev n s
  match ev with
  | 1 => (count e k (36 + k) n s).modEng e fun r => { r with used := r.used + n }
  | 3 => count e k (32 + k) n s
  | 21 => count e k (40 + k) n s
  | 23 => count e k (44 + k) n s
  | _ => s

/-- CycleCount: 200 engine cycles in each tick (R347). -/
def cycles (s : State) (e : Nat) : Nat := (s.ticks - (s.eng e).cycleBase) * 200 % 2 ^ 64

/-- The enabled counters of cycles, idle slots and ticks advance at each tick: 200 cycles, of which those not used by an
issue are idle; so do the cycles of a mailbox that is Busy. Census counters of these events follow from the census's start. -/
def tick (s : State) : State :=
  let l := (List.range 8).flatMap fun i => (s.listed 0x5400 0x541F (0x0A + i)).map fun p => (p.1 - 0x5400, i, p.2)
  let s := l.foldl (fun s p =>
    if counts p.2.2 0 0 (p.2.1 % 2 = 1) then bump p.1 p.2.1 200 s
    else if counts p.2.2 2 0 (p.2.1 % 2 = 1) then bump p.1 p.2.1 (200 - min 200 (s.eng p.1).used) s
    else if counts p.2.2 50 0 (p.2.1 % 2 = 1) then bump p.1 p.2.1 1 s
    else s) s
  let s := s.ctxs.foldl (fun s p => if p.2.mailbox.isSome then count (p.1 / 4) (p.1 % 4) 18 200 s else s) s
  s.engines.foldl (fun s p => s.modEng p.1 fun r => { r with used := 0 }) s

/-- R352: CountersClear returns the cycle counter, the event counters and CounterOverflow to 0. -/
def clear (e : Nat) (s : State) : State :=
  (s.zero ((0x5400 + e, 0x12) :: (List.range 8).map fun i => (0x5400 + e, 2 + i))).modEng e fun r => { r with cycleBase := s.ticks }

/-! ### Census (R351) -/

/-- The value of a census counter: those of cycles, ticks and idle slots follow from the census's length. -/
def censusCount (s : State) (e ev : Nat) : Nat :=
  let r := (s.eng e).census
  let t := (if r.running then s.ticks else r.endTick) - r.startTick
  let v := Map.get 0 r.counts ev
  match ev with
  | 0 => t * 200 % 2 ^ 32
  | 2 => (t * 200 - Map.get 0 r.counts 1) % 2 ^ 32
  | 50 => t % 2 ^ 32
  | _ => v

/-- CensusDuration in ticks. -/
def duration (s : State) (e : Nat) : Nat := s.rd (0x5480 + e) 3 * 1000

/-- Entry to census mode: 1 start-up, 2 test, 3 recovery. Where a census runs already only its end moves, and CensusStart, the
latest entry (R351, Table 12-16). -/
def censusEnter (kind e : Nat) (s : State) : State :=
  s.modEng e fun r =>
    let x := r.census
    { r with census :=
      if x.running then { x with startTime := s.now, until_ := s.ticks + duration s e }
      else { kind := kind, running := true, startTick := s.ticks, startTime := s.now,
             until_ := s.ticks + duration s e, endTick := 0, endTime := 0, counts := [] } }

/-- The census ends and its counters freeze. -/
def censusEnd (e : Nat) (s : State) : State :=
  s.modEng e fun r =>
    if r.census.running then { r with census := { r.census with running := false, endTick := s.ticks, endTime := s.now } } else r

/-- The census ends at its deadline. -/
def censusExpire (e : Nat) (s : State) : State :=
  if (s.eng e).census.running ∧ (s.eng e).census.until_ ≤ s.ticks then censusEnd e s else s

/-! ### Tagging (R350) -/

/-- One step of the 16-bit LFSR with taps 16, 14, 13 and 11. -/
def lfsr (x : Nat) : Nat :=
  x / 2 + (if (bitOf x 0 != bitOf x 2) != (bitOf x 3 != bitOf x 5) then 2 ^ 15 else 0)

/-- The tagging unit draws the number of the next selected instruction. -/
def tagDraw (e : Nat) (s : State) : State :=
  let x := lfsr (s.eng e).lfsr
  let spread := s.rdField (0x5400 + e) 0x14 5 4
  s.modEng e fun r => { r with lfsr := x, tagIn := s.rd (0x5400 + e) 0x15 + x % 2 ^ spread }

/-- The unit is seeded from TagSeed, at its write and at every enable. DESIGN CHOICE: notes/assumptions/166.md. -/
def tagSeed (e : Nat) (s : State) : State := s.modEng e fun r => { r with lfsr := s.rd (0x5400 + e) 0x16 }

/-- Enable 1 seeds the unit, and it draws. -/
def tagStart (e : Nat) (s : State) : State := if s.rdBit (0x5400 + e) 0x14 0 then tagDraw e (tagSeed e s) else s

/-- A committed TagControl: Enable has come to 1. -/
def tagWrite (e : Nat) (old : Nat) (s : State) : State := if bitOf old 0 then s else tagStart e s

/-- TagRecord of an instruction (Table 12-14). The manual fixes no latency, so the execute and complete cycles and the
issues between are open values. -/
def tagRecord (c : Nat) (word : PWord) (pc : BitVec 13) (trapped path : Bool) (s : State) : State :=
  let e := c / 4
  let a := s.open_
  let b := a.2.open_
  let d := b.2.open_
  let cyc := cycles s e % 2 ^ 32
  let v := word.toNat + pc.toNat * 2 ^ 16 + c % 4 * 2 ^ 32
    + (1 + b01 (s.ctx c).inRepeat * 2 + b01 trapped * 4 + b01 path * 8) * 2 ^ 40
    + cyc * 2 ^ 64 + a.1 % 2 ^ 32 * 2 ^ 96 + b.1 % 2 ^ 32 * 2 ^ 128 + d.1 % 2 ^ 32 * 2 ^ 160
  d.2.wr (0x5400 + e) 0x17 v

/-- An instruction of a context in TagControl's ContextMask has issued: the selected one is tagged, or counts as lost
while TagRecord is Valid. -/
def tagIssue (c : Nat) (word : PWord) (pc : BitVec 13) (trapped path : Bool) (s : State) : State :=
  let e := c / 4
  if s.rdBit (0x5400 + e) 0x14 0 ∧ s.rdBit (0x5400 + e) 0x14 (1 + c % 4) then
    if 1 < (s.eng e).tagIn then s.modEng e fun r => { r with tagIn := r.tagIn - 1 }
    else
      let s := if s.rdBit (0x5400 + e) 0x17 40 then count e 0 49 1 s
        else count e 0 48 1 (tagRecord c word pc trapped path s)
      tagDraw e s
  else s

/-- R352: TagArm clears Valid. -/
def tagArm (e : Nat) (s : State) : State := s.wrBit (0x5400 + e) 0x17 40 false

end Perf

end Sys2Proof.Machine
end

