-- ==== Sys2Proof/Machine/SeqPath.lean ====
section
/-! DEFINITION. The paths of a context beside cells and engine windows: events and wait, path refusals, the timer, the
mailbox's start, messages and locks (R329 to R335, Tables 12-5 to 12-8). -/

namespace Sys2Proof.Machine

namespace Seq

/-! ### Events (Table 12-6) -/

/-- LEDGER, MESSAGE, OWNER, REFUSAL and TIMER as bits of EVENTS; MESSAGE is pending while the queue is not empty. -/
def pendingEvents (x : Ctx) : Nat := setBit x.events 1 (!x.rx.isEmpty)

/-- An event becomes pending. -/
def raiseEvent (c b : Nat) (s : State) : State := s.modCtx c fun x => { x with events := setBit x.events b true }

/-- The pending events of a mask are written to a register and consumed; MESSAGE stays (R309). -/
def deliver (r : Reg) (mask : Nat) (x : Ctx) : Ctx :=
  let got := Nat.land (pendingEvents x) mask
  { (x.set r (BitVec.ofNat 32 got)) with
    events := x.events - Nat.land x.events (Nat.land got 0x1D), waiting := none }

/-- R309: the wait of a context ends once an event of its mask is pending. -/
def wake (c : Nat) (s : State) : State :=
  let x := s.ctx c
  match x.waiting with
  | some (r, mask, t) =>
    if x.st = 1 ∧ Nat.land (pendingEvents x) mask ≠ 0 then
      Perf.event c 21 ((s.ticks - t) * 200) (s.modCtx c (deliver (Fin.ofNat 8 r) mask))
    else s
  | none => s

/-- R309: wait on a mask: at once where no bit of it names an event or one of its events is pending. -/
def wait (c : Nat) (r : Reg) (s : State) : State :=
  let x := s.ctx c
  let mask := (x.g.get r).toNat % 32
  if mask = 0 ∨ Nat.land (pendingEvents x) mask ≠ 0 then s.modCtx c (deliver r mask)
  else s.modCtx c fun x => { x with waiting := some (r.val, mask, s.ticks) }

/-! ### Path refusals (R326, R329, R330) -/

/-- The path numbers of PATHRESULT (Table 12-5). -/
inductive Path
  | command | ownership | coil | loop | mailbox | message | lock
  deriving DecidableEq, Repr

/-- The number of a path in PATHRESULT. -/
def Path.num : Path → Nat
  | .command => 1 | .ownership => 2 | .coil => 3 | .loop => 4 | .mailbox => 5 | .message => 6 | .lock => 7

/-- A refused path store: PATHRESULT, PathRefusals and REFUSAL; it never traps (R330). Its number is the channel or the engine, and
for a message the context, for a lock the lock, for the mailbox 0. DESIGN CHOICE: notes/assumptions/171.md. -/
def refuse (c : Nat) (p : Path) (n : Nat) (st : Status) (s : State) : State :=
  Perf.event c 24 1 (raiseEvent c 3 ((s.modCtx c fun x => { x with
    pathResult := st.code + p.num * 256 + n * 4096 }).inc (0x5100 + c) 0x10))

/-! ### Timer (Table 12-5) -/

/-- The count of module ticks that TICKS reads. -/
def ticks (s : State) : Word := BitVec.ofNat 32 s.ticks

/-- A store to TIMER arms the timer. -/
def timerArm (c : Nat) (v : Word) (s : State) : State := s.modCtx c fun x => { x with timer := v, armed := true }

/-- TIMER is raised at the first tick at which TICKS − T is not negative. -/
def timerFire (c : Nat) (s : State) : State :=
  let x := s.ctx c
  if x.armed ∧ 0 ≤ (ticks s - x.timer).toInt then
    Perf.event c 51 1 (raiseEvent c 4 (s.modCtx c fun x => { x with armed := false }))
  else s

/-! ### Mailbox start (R331) -/

/-- A store to LREQ starts one request, whose evaluation completes at MAILBOX_DONE. -/
def lreq (c op addr : Nat) (s : State) : State :=
  if (s.ctx c).mailbox.isSome then refuse c .mailbox 0 .busy s
  else Perf.event c 17 1 (s.modCtx c fun x => { x with mailbox := some { op := op, addr := addr }, lDone := false })

/-- The fields of a store to LREQ (R329, R331). -/
def lreqStore (c v : Nat) (s : State) : State :=
  if field v 14 2 ≠ 0 ∨ 2 ^ 19 ≤ v then refuse c .mailbox 0 .reserved s
  else if field v 16 3 = 0 ∨ 6 ≤ field v 16 3 then refuse c .mailbox 0 .range s
  else lreq c (field v 16 3) (field v 0 14) s

/-- LSTATUS (Table 12-5). -/
def lStatus (x : Ctx) : Nat := x.lStatus + x.lPosition * 256 + b01 x.mailbox.isSome * 2 ^ 16 + b01 x.lDone * 2 ^ 17

/-! ### Messages (R333, R334) -/

/-- MessageQueueLimit of a context. -/
def queueLimit (s : State) (c : Nat) : Nat := s.rd (0x5100 + c) 9

/-- The octets of a queued message as RXTAKE delivers them. -/
def rxOctets (s : State) (r : Rx) : List Byte :=
  match r.cos with
  | some k => BitVec.ofNat 8 (0x80 + k) :: octets 18 (Inputs.eventValue (s.cosOf k))
  | none => r.msg

/-- RXLEN (Table 12-5). -/
def rxLen (s : State) (x : Ctx) : Nat := (x.rx.head?.elim 0 fun r => (rxOctets s r).length) + x.rx.length * 65536

/-- A message of a context's queue, taken or withdrawn, leaves the Vault. -/
def rxRemove (c : Nat) (r : Rx) (s : State) : State :=
  Vault.free r.chain (s.modCtx c fun x => { x with rx := x.rx.erase r })

/-- A message is queued to a context in a class, taking the coins of its length at P11; false where the queue is full or no
source supplies them. -/
def rxQueue (c tc len : Nat) (r : Rx) (s : State) : Bool × State :=
  if queueLimit s c ≤ (s.ctx c).rx.length then (false, s)
  else
    match Vault.take tc 11 (Vault.coinsOf len) true s with
    | (none, s) => (false, s)
    | (some ch, s) => (true, s.modCtx c fun x => { x with rx := x.rx ++ [{ r with chain := ch }] })

/-- A store to RXTAKE copies the head message to data memory and removes it (R333). -/
def rxTake (c addr : Nat) (s : State) : State :=
  match (s.ctx c).rx with
  | [] => refuse c .message c .state s
  | r :: _ =>
    let s := Perf.event c 20 1 (dataStore (c / 4) addr (rxOctets s r) (rxRemove c r s))
    match r.cos with
    | some k => Inputs.delivered k s
    | none => s

/-- `len` octets of data memory from an address on; those past its end are an open value. DESIGN CHOICE: notes/assumptions/170.md. -/
def copied (s : State) (e addr len : Nat) : List Byte × State :=
  let k := 16384 - addr
  if len ≤ k then (dataBytes s e addr len, s)
  else let r := s.open_; (dataBytes s e addr k ++ octets (len - k) r.1, r.2)

/-- A store to TXSEND copies a payload and queues it as a context message (R334). -/
def txSend (c addr len dest : Nat) (s : State) : State :=
  let r := copied s (c / 4) addr len
  let s := r.2
  if len = 0 ∨ 240 < len then refuse c .message c .range s
  else if !s.active ⟨5, dest⟩ then refuse c .message c .state s
  else
    let q := rxQueue dest (s.rd (0x5100 + c) 0x0A) (2 + len) { msg := 2 :: BitVec.ofNat 8 c :: r.1 } s
    if q.1 then Perf.event c 19 1 q.2 else refuse c .message c .busy q.2

/-- The fields of a store to TXSEND. -/
def txSendStore (c v : Nat) (s : State) : State :=
  if field v 14 2 ≠ 0 ∨ bitOf v 31 then refuse c .message c .reserved s
  else txSend c (field v 0 14) (field v 16 8) (field v 24 7) s

/-! ### Locks (R335) -/

/-- The holder of a lock + 1, 0 for a free one. -/
def holder (s : State) (i : Nat) : Nat := Map.get 0 s.locks i

/-- A load of a lock: the reader of a free one becomes its holder. -/
def lockLoad (c i : Nat) (s : State) : Word × State :=
  let h := holder s i
  (BitVec.ofNat 32 h,
    if h = 0 then Perf.event c 26 1 { s with locks := Map.put 0 s.locks i (c + 1) } else Perf.event c 27 1 s)

/-- A store to a lock: 0 by the holder frees it, any other is refused. -/
def lockStore (c i v : Nat) (s : State) : State :=
  if v = 0 ∧ holder s i = c + 1 then { s with locks := Map.put 0 s.locks i 0 } else refuse c .lock i .state s

/-- A context's locks are freed as it leaves Active, faults or is reset. -/
def freeLocks (c : Nat) (s : State) : State := { s with locks := s.locks.filter fun p => p.2 ≠ c + 1 }

/-! ### Path control words -/

/-- A load of a path control word. -/
def ctlRead (s : State) (c off : Nat) : Nat :=
  let x := s.ctx c
  match off with
  | 0x00 => pendingEvents x
  | 0x04 => x.timer.toNat
  | 0x08 => x.pathResult
  | 0x0C => x.ownResult
  | 0x14 => x.lrspAddr
  | 0x18 => lStatus x
  | _ => rxLen s x

/-- A store to a path control word, with the reserved bits of R329. -/
def ctlWrite (c off v : Nat) (s : State) : State :=
  match off with
  | 0x04 => timerArm c (BitVec.ofNat 32 v) s
  | 0x10 => lreqStore c v s
  | 0x14 => if 2 ^ 14 ≤ v then refuse c .mailbox 0 .reserved s else s.modCtx c fun x => { x with lrspAddr := v }
  | 0x20 => if 2 ^ 14 ≤ v then refuse c .message c .reserved s else rxTake c v s
  | _ => txSendStore c v s

end Seq

end Sys2Proof.Machine
end

