-- ==== Sys2Proof/Machine/Switch.lean ====
section
/-! DEFINITION. The Ethernet switch: forwarding, classes, streams, gates, Bullion, MACsec and learning (chapter 13, R354 to
R389). -/

namespace Sys2Proof.Machine

/-- The record of a switch port. -/
def State.port (s : State) (p : Nat) : Port := Map.get {} s.ports p

/-- The state with a port's record changed. -/
def State.modPort (s : State) (p : Nat) (f : Port → Port) : State := { s with ports := Map.modify {} s.ports p f }

/-- The record of a stream. -/
def State.stream (s : State) (k : Nat) : Stream := Map.get {} s.streams k

/-- The state with a stream's record changed. -/
def State.modStream (s : State) (k : Nat) (f : Stream → Stream) : State := { s with streams := Map.modify {} s.streams k f }

namespace Switch

/-- An entry of a port's group. -/
def entry (s : State) (p j : Nat) : Nat := s.rd (0x6000 + p) j

/-- A port forwards and transmits: it is Active and no reset of it runs (R387). -/
def up (s : State) (p : Nat) : Bool := (decide (8 ≤ p ∧ p ≤ 9) || s.active ⟨9, p⟩) && !(s.port p).resetting

/-- LinkUp of a port: its link is up, and a T1S segment's PHY runs only while the segment is Active (R383, R415). -/
def linked (s : State) (p : Nat) : Bool := (s.port p).link && (decide (p < 2 ∨ 8 ≤ p) || s.active ⟨8, p - 2⟩)

/-! ### Classes and streams (R357, R358, R378, R379) -/

/-- The class of a code point in PcpMap of a port. -/
def classOf (s : State) (p pcp : Nat) : Nat := field (entry s p 7) (3 * pcp) 3

/-- StreamControl of a stream. -/
def control (s : State) (k : Nat) : Nat := s.rd (0x6140 + k) 2

/-- EgressPorts of a stream (R386). -/
def egressPorts (v : Nat) : List Nat := (List.range 12).filter fun i => bitOf v (6 + i)

/-- The lowest-numbered enabled stream whose StreamMatch equals a frame's destination and VLAN identifier (R357). -/
def match_ (s : State) (f : EthFrame) : Option Nat :=
  ((s.listed 0x6140 0x617F 2).map fun p => p.1 - 0x6140).find? fun k =>
    bitOf (control s k) 0 && decide (s.rd (0x6140 + k) 1 = f.dst + (if f.tagged then f.vid else 0) * 2 ^ 48)

/-- The VLAN a frame belongs to: untagged and priority-tagged frames take Pvid. -/
def vlanOf (s : State) (f : EthFrame) : Nat := if f.tagged ∧ f.vid ≠ 0 then f.vid else entry s f.inPort 6

/-- The VLAN entry of an identifier. -/
def vlanEntry (s : State) (vid : Nat) : Option Nat := (List.range 64).find? fun v => s.rd (0x6180 + v) 1 = vid

/-- A group address: broadcast or multicast. -/
def group (mac : Nat) : Bool := mac % 2 = 1

/-- The meter of a stream in thousandths of a bit (R378): the bucket fills at MeterRate and a frame takes its length. -/
def meter (k len : Nat) (s : State) : Bool × State :=
  let rate := s.rd (0x6140 + k) 3
  let x := s.stream k
  let lack := x.lack - rate * (s.ticks - x.filledAt)
  if rate = 0 then (true, s)
  else if s.rd (0x6140 + k) 4 * 8000 < lack + len * 8000 then
    (false, s.modStream k fun x => { x with lack := lack, filledAt := s.ticks })
  else (true, s.modStream k fun x => { x with lack := lack + len * 8000, filledAt := s.ticks })

/-- The size filter and the meter of a stream: a drop raises POLICING of the ingress port. -/
def police (k : Nat) (f : EthFrame) (s : State) : Bool × State :=
  let s := s.inc (0x6140 + k) 8
  let drop (j : Nat) (s : State) : Bool × State :=
    (false, Audit.raise (0x1500 + f.inPort * 8 + 3) ((s.inc (0x6140 + k) j).inc (0x6000 + f.inPort) 0x25))
  if s.rd (0x6140 + k) 5 < f.len then drop 0x0A s
  else
    let m := meter k f.len s
    if m.1 then m else drop 9 m.2

/-- The vector recovery of an eliminating stream (R379): whether a sequence number passes.
DESIGN CHOICE: notes/assumptions/95.md. -/
def recover (k q : Nat) (s : State) : Bool × State :=
  let x := s.stream k
  let h := s.rd (0x6140 + k) 6
  match x.high with
  | none => (true, s.modStream k fun x => { x with high := some q, seen := [q], passedAt := s.ticks })
  | some top =>
    let d := signed 16 ((q + 65536 - top) % 65536)
    if (h : Int) ≤ d ∨ d ≤ -(h : Int) then (false, s.inc (0x6140 + k) 0x0C)
    else if x.seen.contains q then (false, s.inc (0x6140 + k) 0x0B)
    else
      let top := if 0 < d then q else top
      (true, s.modStream k fun x => { x with
        high := some top, passedAt := s.ticks,
        seen := (q :: x.seen).filter fun y => signed 16 ((y + 65536 - top) % 65536) > -(h : Int) })

/-- RECOVERY_RESET: no frame of the stream has passed for its RecoveryReset. -/
def recoveryReset (k : Nat) (s : State) : State :=
  let x := s.stream k
  if bitOf (control s k) 19 ∧ x.high.isSome ∧ s.elapsed x.passedAt (s.rd (0x6140 + k) 7 * 1000) then
    (s.modStream k fun x => { x with high := none, seen := [] }).inc (0x6140 + k) 0x0D
  else s

/-! ### Learning (R384) -/

/-- A source address is learned on its ingress port, or seen again; FDB_FULL is raised as the last place is taken. DESIGN CHOICE: notes/assumptions/97.md. -/
def learn (mac p : Nat) (s : State) : State :=
  if group mac then s
  else if s.fdb.any (·.mac = mac) then
    { s with fdb := s.fdb.map fun x => if x.mac = mac then { x with port := p, seen := s.ticks } else x }
  else if 4096 ≤ s.fdb.length then s
  else Audit.raiseIf (decide (s.fdb.length = 4095)) 0x1563 { s with fdb := s.fdb ++ [{ mac := mac, port := p, seen := s.ticks }] }

/-- FDB_AGE_OUT: an address unseen for FdbAgeTime is removed. -/
def ageOut (mac : Nat) (s : State) : State :=
  { s with fdb := s.fdb.filter fun x => !(decide (x.mac = mac) && s.elapsed x.seen (s.rd 0x6100 0x0A * 1000000)) }

/-- Learned addresses flushed: every one, or those of a port. -/
def flush (q : FdbEntry → Bool) (s : State) : State :=
  Audit.raise 0x1564 { s with fdb := s.fdb.filter fun x => !q x }

/-! ### Gates (R371 to R373) -/

/-- The operating list of a port as (mask, ns). -/
def operList (s : State) (p : Nat) : List (Nat × Nat) :=
  (List.range (s.rd (0x6300 + p) 8)).map fun i => let v := s.rd (0x6300 + p) (0x50 + i); (v % 256, v / 256 * 8)

/-- The administrative list of a port. -/
def adminList (s : State) (p : Nat) : List (Nat × Nat) :=
  (List.range (s.rd (0x6300 + p) 4)).map fun i => let v := s.rd (0x6300 + p) (0x10 + i); (v % 256, v / 256 * 8)

/-- The entry of a list at an offset into its cycle, and what remains of it. -/
def at_ : List (Nat × Nat) → Nat → Nat → Nat × Nat
  | [], i, _ => (i - 1, 0)
  | (_, d) :: r, i, t => if t < d then (i, d - t) else at_ r (i + 1) (t - d)

/-- The offset of module time into the operating cycle. -/
def offset (s : State) (p : Nat) : Nat :=
  (((s.now : Int) - (s.rd (0x6300 + p) 6 : Int)) % (max 1 (s.rd (0x6300 + p) 7) : Nat)).toNat

/-- The entry that is current by module time. -/
def current (s : State) (p : Nat) : Nat := (at_ (operList s p) 0 (offset s p)).1

/-- Whether the gate of a class is open at a port: always while GateEnable is 0, up to the tick after it came to 1, and on
ports without a schedule. -/
def gateOpen (s : State) (p tc : Nat) : Bool :=
  if 8 ≤ p ∨ s.rd (0x6300 + p) 1 = 0 ∨ (s.port p).gated = false then true
  else s.rdBit (0x6300 + p) (0x50 + (s.port p).gate) tc

/-- How long a gate stays open through a list of entries, none where it never closes in them. -/
def openFor (tc : Nat) : List (Nat × Nat) → Nat → Option Nat
  | [], _ => none
  | (m, d) :: r, t => if bitOf m tc then openFor tc r (t + d) else some t

/-- The time in ns until the gate of a class next closes, counted from now: the rest of the present entry, then a whole
cycle; a pending change cuts the operating list short at ConfigChangeTime. A gate that the schedule, about to apply, holds
closed closes at the next tick. -/
def untilClose (s : State) (p tc : Nat) : Option Nat :=
  if 8 ≤ p ∨ s.rd (0x6300 + p) 1 = 0 then none
  else
    let l := operList s p
    let x := at_ l 0 (offset s p)
    let old := if (s.port p).gated = false ∧ !bitOf (l.getD x.1 (0, 0)).1 tc then some 1000 else openFor tc (l.drop (x.1 + 1) ++ l) x.2
    let c := s.rd (0x6300 + p) 9
    if c ≠ 0 ∧ old.all (c - s.now < ·) then openFor tc (adminList s p ++ adminList s p) (c - s.now) else old

/-- GATE_ENTRY_CHANGE: the entry current by module time applies. DESIGN CHOICE: notes/assumptions/99.md. -/
def gateChange (p : Nat) (s : State) : State := s.modPort p fun r => { r with gate := current s p }

/-- R371: GateEnable at a tick: 1 applies the schedule with the entry that is current, 0 has opened every gate. -/
def gateTick (s : State) : State :=
  (List.range 8).foldl (fun s p =>
    let on := decide (s.rd (0x6300 + p) 1 = 1)
    if (s.port p).gated = on then s
    else s.modPort p fun r => { r with gated := on, gate := if on then current s p else r.gate }) s

/-- R373: whether a ConfigChange is accepted. -/
def configOk (s : State) (p : Nat) : Bool :=
  (adminList s p).all (fun x => decide (1000 ≤ x.2)) && decide (((adminList s p).map (·.2)).sum = s.rd (0x6300 + p) 3)

/-- R373: an accepted ConfigChange sets the first AdminBaseTime + k × AdminCycleTime at least 1 ms after the commit. -/
def configChange (p : Nat) (s : State) : State :=
  let base := s.rd (0x6300 + p) 2
  let cyc := s.rd (0x6300 + p) 3
  let least := s.now + 1000000
  s.wr (0x6300 + p) 9 (if least ≤ base then base else base + divUp (least - base) cyc * cyc)

/-- The longest interval of a list, taken twice, during which gate 7 is closed. -/
def closedMax (l : List (Nat × Nat)) : Nat :=
  let total := (l.map (·.2)).sum
  let r := (l ++ l).foldl (fun (a : Nat × Nat) x => if bitOf x.1 7 then (a.1, 0) else (max a.1 (a.2 + x.2), a.2 + x.2)) (0, 0)
  min total r.1

/-- CONFIG_CHANGE_TIME: the administrative list becomes the operating list. -/
def configTime (p : Nat) (s : State) : State :=
  let t := s.rd (0x6300 + p) 9
  if t ≠ 0 ∧ t ≤ s.now then
    let s := (List.range 64).foldl (fun s i => s.wr (0x6300 + p) (0x50 + i) (s.rd (0x6300 + p) (0x10 + i))) s
    let s := ((s.wr (0x6300 + p) 6 t).wr (0x6300 + p) 7 (s.rd (0x6300 + p) 3)).wr (0x6300 + p) 8 (s.rd (0x6300 + p) 4)
    let s := (s.wr (0x6300 + p) 9 0).wr (0x6300 + p) 0x0A (closedMax (operList s p))
    gateChange p s
  else s

/-! ### The forwarding decision (R355, R357 to R362, R375) -/

/-- Where a frame goes by stream, module address, VLAN and learning; none where its VLAN drops it. -/
def egress (s : State) (f : EthFrame) (k : Option Nat) : Option (List Nat) :=
  let fixed := k.elim [] fun k => egressPorts (control s k)
  if fixed ≠ [] then some fixed
  else if (List.range 9).any fun q => entry s q 4 = f.dst then some [9]
  else
    match vlanEntry s (vlanOf s f) with
    | none => none
    | some v =>
      let m := s.rd (0x6180 + v) 2
      if bitOf m f.inPort then
        let l := (List.range 12).filter fun q => bitOf m q && decide (q ≠ f.inPort)
        match (if group f.dst then none else s.fdb.find? (·.mac = f.dst)) with
        | some x => some (l.filter (· = x.port))
        | none => some l
      else none

/-- R354: which egress ports a port forwards to at all; only Active ones queue. -/
def allowed (s : State) (p : Nat) (l : List Nat) : List Nat :=
  l.filter fun q => up s q && (if p = 8 then decide (q = 9) else if p = 9 then true else decide (q ≠ 8))

/-- R358: the class of a frame. -/
def frameClass (s : State) (f : EthFrame) (k : Option Nat) : Nat :=
  let c := if f.tagged then classOf s f.inPort f.pcp else classOf s f.inPort (entry s f.inPort 5)
  match k with
  | some k => if bitOf (control s k) 1 then field (control s k) 2 3 else c
  | none => c

/-- R375: the conditions of cut-through. -/
def cutThrough (s : State) (f : EthFrame) (tc : Nat) (l : List Nat) : Bool :=
  decide (tc = 7 ∧ f.inPort < 2 ∧ l = [1 - f.inPort] ∧ entry s f.inPort 9 = 1)
    && !(s.vault.any fun x => x.ports.contains (1 - f.inPort) && decide (x.chain.tc = 7)) && gateOpen s (1 - f.inPort) 7

/-- A frame whose streams have let it pass is queued with 12 coins (R361, R362); a gateway frame, complete as it is formed,
takes the coins of its length in its route's class. -/
def enqueue (f : EthFrame) (k : Option Nat) (cls : Option Nat) (complete : Bool) (s : State) : Option Nat × State :=
  match egress s f k with
  | none => (none, s.inc (0x6000 + f.inPort) 0x27)
  | some l =>
    let s := ((allowed s f.inPort l).filter (Vault.sleeps s)).foldl (fun s _ => s.inc 0x6800 0x15) s
    match (allowed s f.inPort l).filter fun p => !Vault.sleeps s p with
    | [] => (none, s)
    | p :: r =>
      let tc := cls.getD (frameClass s f k)
      let cut := !complete && cutThrough s f tc (p :: r)
      match Vault.take tc p (if complete then Vault.coinsOf f.len else 12) (complete || cut) s with
      | (none, s) => (none, Vault.countNoCoin tc p s)
      | (some c, s) =>
        let rep := k.any fun k => bitOf (control s k) 18
        let s' := match k with
          | some k => if rep then s.modStream k fun x => { x with seq := (x.seq + 1) % 65536 } else s
          | none => s
        let x : VItem := { id := s.vaultNext, chain := c, cargo := .eth f, ports := p :: r, cut := cut,
                           rtagOut := if rep then k.map fun k => (s.stream k).seq else none }
        (some s.vaultNext, { s' with vault := s'.vault ++ [x], vaultNext := s'.vaultNext + 1 })

/-- A frame that the module itself forms is queued at those of the ports that are Active; without coins it is lost. -/
def emit (ports : List Nat) (tc : Nat) (f : EthFrame) (s : State) : State :=
  match ports.filter fun p => up s p && !Vault.sleeps s p with
  | [] => s
  | p :: r =>
    match Vault.take tc p (Vault.coinsOf f.len) true s with
    | (none, s) => s
    | (some c, s) =>
      { s with vault := s.vault ++ [{ id := s.vaultNext, chain := c, cargo := .eth f, ports := p :: r, rtagOut := none }],
               vaultNext := s.vaultNext + 1 }

/-- AcceptedFrames of the ingress port admits the frame (Table 13-5). -/
def accepted (s : State) (f : EthFrame) : Bool :=
  match entry s f.inPort 8 with
  | 0 => true
  | 1 => f.tagged && decide (f.vid ≠ 0)
  | _ => !f.tagged || decide (f.vid = 0)

/-- The decision on a frame that enters the switch: its stream's recovery, filter and meter, then its queues. `cls` is the
class of a route. DESIGN CHOICE: notes/assumptions/94.md. DESIGN CHOICE: notes/assumptions/96.md. -/
def decide_ (f : EthFrame) (cls : Option Nat) (complete : Bool) (s : State) : Option Nat × State :=
  let k := match_ s f
  let out : Bool × EthFrame × State :=
    match k with
    | none => (true, f, s)
    | some k =>
      let p := police k f s
      if p.1 && bitOf (control s k) 19 && decide (f.inPort < 2) then
        match f.rtag with
        | some q => let r := recover k q p.2; (r.1, { f with rtag := none, len := f.len - 6 }, r.2)
        | none => (true, f, p.2)
      else (p.1, f, p.2)
  if out.1 then enqueue out.2.1 k cls complete out.2.2 else (none, out.2.2)

/-- A PAUSE or priority-based flow-control frame (R355). -/
def pause (f : EthFrame) : Bool := f.etype = 0x8808

/-- FRAME_FORWARD_DECISION at a port with nothing else arriving. -/
def forward (f : EthFrame) (s : State) : State :=
  let p := f.inPort
  if !up s p ∨ (s.port p).arriving.isSome then s
  else if pause f then (s.inc (0x6000 + p) 0x29).modPort p fun r => { r with arriving := some ⟨f, none⟩ }
  else if !accepted s f then (s.inc (0x6000 + p) 0x27).modPort p fun r => { r with arriving := some ⟨f, none⟩ }
  else
    let r := decide_ f none false s
    r.2.modPort p fun x => { x with arriving := some ⟨f, r.1⟩ }

/-! ### Reception (R355, R361, R366, R375, R380) -/

/-- MACsec is enabled on a port. -/
def macsec (s : State) (p : Nat) : Bool := decide (p < 2) && bitOf (entry s p 0x10) 0

/-- Whether a protected frame validates: under the present key, or the previous one until the first frame under the new. -/
def valid (s : State) (p : Nat) (sec : MacsecResult) : Bool :=
  match sec with
  | .valid an => decide ((s.port p).keyed ∧ (an.val = (s.port p).an ∨ (s.port p).oldKey.isSome))
  | _ => false

/-- R380: a received frame is checked according to Validate; false where it is dropped. -/
def check (p : Nat) (sec : MacsecResult) (s : State) : Bool × State :=
  if !macsec s p then (true, s)
  else if valid s p sec then
    (true, s.modPort p fun r => if sec = .valid (Fin.ofNat 2 r.an) then { r with oldKey := none } else r)
  else
    let fail := Audit.raise (0x1500 + p * 8 + 5) (s.inc (0x6000 + p) 0x2C)
    match field (entry s p 0x10) 2 2 with
    | 0 => (true, s)
    | 1 => if sec = .unprotected then (true, s) else (true, fail)
    | _ => (false, fail)

/-- An arriving frame is dropped at its end: a cut-through frame already on its way is ended with an inverted check
sequence, any other leaves the Vault. -/
def dropArrived (id : Option Nat) (s : State) : State :=
  match id.bind (Vault.find s) with
  | none => s
  | some x => if x.sending ≠ [] then Vault.modify x.id (fun y => { y with stomped := true }) s else Vault.drop x.id s

/-- R361: the coins beyond the frame's length return, and its tenor starts; a stored frame joins its queues as it becomes
complete, behind what waits there already (R370). DESIGN CHOICE: notes/assumptions/94.md. -/
def completeItem (id len : Nat) (s : State) : State :=
  match Vault.find s id with
  | none => s
  | some x =>
    let n := Vault.coinsOf len
    let s := Vault.draw false x.chain (x.chain.coins - n) s
    let y := { x with chain := { x.chain with coins := n, start := some (x.chain.start.getD s.ticks) } }
    if x.cut then Vault.modify id (fun _ => y) s else { s with vault := s.vault.filter (·.id ≠ id) ++ [y] }

/-- FRAME_RECEIVE_COMPLETE: a frame outside 64 to 1,522 octets or with a bad check sequence counts in ErrorDrops and raises
ERRORS. -/
def received (p : Nat) (good : Bool) (sec : MacsecResult) (s : State) : State :=
  match (s.port p).arriving with
  | none => s
  | some a =>
    let s := s.modPort p fun r => { r with arriving := none }
    if !good ∨ a.frame.len < 64 ∨ 1522 < a.frame.len then
      Audit.raise (0x1500 + p * 8 + 6) (dropArrived a.item (s.inc (0x6000 + p) 0x26))
    else
      let s := (s.inc (0x6000 + p) 0x20).incBy (0x6000 + p) 0x21 (2 ^ 64 - 1) a.frame.len
      let c := check p sec s
      if c.1 then
        let s := learn a.frame.src p c.2
        a.item.elim s fun id => completeItem id a.frame.len s
      else dropArrived a.item c.2

/-! ### Transmission (R359, R365, R370 to R372, R380) -/

/-- R359: whether a frame leaves a port tagged, and its code point; the service port belongs to no VLAN. -/
def tagOut (s : State) (p : Nat) (f : EthFrame) (tc : Nat) : Bool × Nat :=
  let v := vlanEntry s (vlanOf s f)
  let tagged := decide (p ≠ 8) && v.any fun v => !s.rdBit (0x6180 + v) 3 p
  if tagged && f.tagged then (true, f.pcp)
  else if tagged then (true, ((List.range 8).find? fun c => classOf s p c = tc).getD 0)
  else (false, 0)

/-- The frame that an item is at an egress port. Those that the module forms from a BLL frame carry the UDP and IP headers of
their transport and enter the switch untagged at P9. DESIGN CHOICE: notes/assumptions/100.md. -/
def frameOf (x : VItem) : EthFrame :=
  let own (n : Nat) : EthFrame := { inPort := 9, dst := 0, src := 0, vid := 0, tagged := false, pcp := 0, len := max 64 (n + 46) }
  match x.cargo with
  | .eth f => f
  | .bll _ _ _ l => own l.length
  | .notify _ _ _ _ _ _ l => own (Frames.noticeLen l.length)
  | .cos _ => own (Frames.noticeLen 23)
  | .relay l => own l.length

/-- The octets an item takes on the wire of a port, before preamble and gap: a tag added or removed and an R-TAG inserted
change its length. -/
def wireLen (s : State) (p : Nat) (x : VItem) : Nat :=
  let f := frameOf x
  f.len + (if x.rtagOut.isSome then 6 else 0) + (if (tagOut s p f x.chain.tc).1 then 4 else 0) - (if f.tagged then 4 else 0)

/-- The time in ns that an item occupies a port, preamble and gap included (Table 13-1). -/
def wireTime (p len : Nat) : Nat :=
  let bits := (len + 20) * 8
  if p < 2 then divUp bits 10 else if p < 8 then bits * 100 else if p = 8 then bits * 10 else divUp bits 2

/-- An item may start on a port: it is complete or cut-through and its tenor has not ended. -/
def startable (s : State) (x : VItem) : Bool := (x.chain.start.isSome || x.cut) && !Vault.expired s x.chain

/-- The head item of a class at a port, first in, first out. -/
def head (s : State) (p tc : Nat) : Option VItem :=
  s.vault.find? fun x => x.ports.contains p && decide (x.chain.tc = tc) && startable s x

/-- Whether an item of a class fits before its gate closes (R372). -/
def fits (s : State) (p : Nat) (x : VItem) : Bool :=
  match untilClose s p x.chain.tc with
  | none => true
  | some t => decide (wireTime p (wireLen s p x) < t)

/-- The selection of R370: the highest class whose gate is open and whose head fits; a head that does not fit counts once
in GateDeferrals. -/
def select (p : Nat) : List Nat → State → Option VItem × State
  | [], s => (none, s)
  | tc :: r, s =>
    match head s p tc with
    | none => select p r s
    | some x =>
      if !gateOpen s p tc then select p r s
      else if fits s p x then (some x, s)
      else if x.deferred.contains p then select p r s
      else select p r ((Vault.modify x.id (fun y => { y with deferred := p :: y.deferred }) s).inc (0x6300 + p) 0x0B)

/-- MACsec lets a port transmit: a key is committed and its packet numbers are not used up (R380). -/
def mayProtect (s : State) (p : Nat) : Bool :=
  !macsec s p || ((s.port p).keyed && decide (entry s p 0x15 < 0xFFFFFFFF))

/-- A frame sent under MACsec takes the next packet number; 0xC0000000 raises MACSEC once.
DESIGN CHOICE: notes/assumptions/98.md. -/
def countPn (p : Nat) (s : State) : State :=
  if macsec s p then
    let s := s.inc (0x6000 + p) 0x15
    if entry s p 0x15 = 0xC0000000 then Audit.raise (0x1500 + p * 8 + 5) s else s
  else s

/-- R287, R288: the event of a record becomes a NOTIFY as its transmission begins; later changes form the next event. -/
def beginCos (id r : Nat) (s : State) : State :=
  let c := s.cosOf r
  let k := (Inputs.dest s r).2
  let fc := (s.session k).notifySeq + 1
  let it := Frames.item (0x4F00 + r) 3 (.oct 18) (Inputs.eventValue c)
  let s := Vault.modify id (fun y => { y with cargo := .notify k fc (0x80 + r) 0 c.changes c.time it }) s
  Inputs.delivered r (s.modSession k fun x => { x with notifySeq := fc })

/-- As its transmission begins, an event becomes a notification, and a notification the octets of its frame (R79, R97). -/
def beginCargo (id : Nat) (s : State) : State :=
  let s := match (Vault.find s id).map (·.cargo) with
    | some (.cos r) => beginCos id r s
    | _ => s
  Vault.modify id (fun y => match y.cargo with
    | .notify k fc sub st n t l =>
      let x := s.session k
      { y with cargo := .bll x.transport x.addr k (Frames.build s k 0x14 fc (Frames.notify sub st n t l)) }
    | _ => y) s

/-- The event of an item that is withdrawn other than by its tenor enters the next one (R368). -/
def lost (x : VItem) (s : State) : State :=
  match x.cargo with
  | .cos k => Inputs.lost k s
  | _ => s

/-- R365: an uncorrectable item is withdrawn; where its frame is on its way at another port, that transmission ends with an
inverted check sequence. -/
def withdrawBad (x : VItem) (s : State) : State :=
  if x.sending = [] then lost x (Vault.drop x.id s)
  else Vault.modify x.id (fun y => { y with ports := [], stomped := true }) s

/-- The transmitter of a port is free to start a frame. -/
def idle (s : State) (p : Nat) : Bool :=
  !(!up s p || (s.port p).sending.isSome || (decide (p < 9) && (!linked s p || s.supply.onBackup)) || Vault.sleeps s p || !mayProtect s p)

/-! #### The read capacity of the Vault (R370, R377) -/

/-- The rate at which a frame of `n` octets on a port is read, in 10 kbit/s of frame octets (Table 13-1). -/
def readRate (p n : Nat) : Nat :=
  (if p < 2 then 1000000 else if p < 8 then 1000 else if p = 8 then 10000 else 200000) * n / (n + 20)

/-- The capacity shared by all ports, 24 Gbit/s. -/
def readCapacity : Nat := 2400000

/-- The egress demand: what the frames in transmission take together. -/
def readDemand (s : State) : Nat :=
  ((List.range 12).map fun p => ((s.port p).sending.bind (Vault.find s)).elim 0 fun x => readRate p (wireLen s p x)).sum

/-- What demand beyond the capacity has left unread by now. -/
def readLate (s : State) : Nat :=
  s.readOwed + readDemand s * (s.ticks - s.readAt) - readCapacity * (s.ticks - s.readAt)

/-- The account of reads brought to the present tick, as it must be before a port begins or ends a transmission. -/
def noteReads (s : State) : State := { s with readOwed := readLate s, readAt := s.ticks }

/-- The item a port would start. -/
def nextOf (s : State) (p : Nat) : Option VItem := if idle s p then (select p [7, 6, 5, 4, 3, 2, 1, 0] s).1 else none

/-- A port's turn among those that have a frame to send: Bullion first, then fixed round-robin after the last port served. -/
def turn (s : State) (p : Nat) : Bool :=
  ((List.range 12).all fun q => (nextOf s q).all fun x => decide (x.chain.tc ≠ 7)) &&
    decide (((List.range 12).map fun i => (s.readTurn + 1 + i) % 12).find? (fun q => (nextOf s q).isSome) = some p)

/-- The read of an item's frame is not held back: it is Bullion, the demand with it stays within the capacity and nothing is
owed, or the port's turn has come. DESIGN CHOICE: notes/assumptions/155.md. -/
def mayRead (s : State) (p : Nat) (x : VItem) : Bool :=
  decide (x.chain.tc = 7) || (decide (readLate s = 0) &&
    (decide (readDemand s + readRate p (wireLen s p x) ≤ readCapacity) || turn s p))

/-- EGRESS_TRANSMIT_START at a free transmitter. -/
def start (p : Nat) (ecc : EccResult) (s : State) : State :=
  if !idle s p then s
  else
    let y := select p [7, 6, 5, 4, 3, 2, 1, 0] s
    match y.1.filter (mayRead s p), y.2 with
    | none, s => s
    | some x, s =>
      let s := { noteReads s with readTurn := if x.chain.tc = 7 then s.readTurn else p }
      let s := match ecc with
        | .clean => s
        | .corrected => Audit.raise 0x1560 (s.inc 0x6100 7)
        | _ => Audit.raise 0x1561 (s.inc 0x6100 8)
      if ecc = .lostBefore then withdrawBad x s
      else
        let s := beginCargo x.id (Vault.depart x.id p (fun y =>
          if ecc = .lostAfter then { y with stomped := true, ports := [] } else y) s)
        let s := if x.cut then s.inc (0x6000 + p) 0x2A else s
        countPn p (s.modPort p fun r => { r with sending := some x.id })

/-- What leaves at the end of a transmission: a frame at an external port, a frame for the gateway, the supervisor or
contexts behind an internal one, or a Ledger frame of the module. DESIGN CHOICE: notes/assumptions/100.md. -/
def deliver (p : Nat) (ctxs : List (Fin 128)) (x : VItem) (s : State) : State :=
  let t := tagOut s p (frameOf x) x.chain.tc
  let tag := if t.1 then some t.2 else none
  match x.cargo with
  | .bll t a _ l => s.send (.bll t a l x.chain.tc tag)
  | .notify .. | .cos _ | .relay _ => s
  | .eth f =>
    if p = 10 then { s with gateway := s.gateway ++ [(x.id, x.chain.tc, f)] }
    else if p = 11 then
      ctxs.foldl (fun s c =>
        let q := Seq.rxQueue c.val x.chain.tc (1 + f.data.length) { msg := 4 :: f.data } s
        if q.1 then q.2 else q.2.inc (0x5100 + c.val) 0x11) s
    else s.send (.port p (wireLen s p x) x.chain.tc tag)

/-- EGRESS_TRANSMIT_END: the item leaves the port, and the Vault with its last egress; behind P10 the gateway has still to take
it (R361, R363). -/
def finish (p : Nat) (ctxs : List (Fin 128)) (s : State) : State :=
  match (s.port p).sending.bind (Vault.find s) with
  | none => s.modPort p fun r => { r with sending := none }
  | some x =>
    let n := wireLen s p x
    let s := (noteReads s).modPort p fun r => { r with
      sending := none,
      bullion := if p < 2 ∧ x.chain.tc = 7 then (s.ticks, n + 20) :: r.bullion else r.bullion }
    let s := if p = 10 ∧ !x.stomped then s else Vault.leave x.id p s
    let s := (s.inc (0x6000 + p) 0x22).incBy (0x6000 + p) 0x23 (2 ^ 64 - 1) n
    if x.stomped then s.inc (0x6000 + p) 0x2B else deliver p ctxs x s

/-! ### Bullion (R376) -/

/-- BULLION_WINDOW: the class 7 octets that left an uplink in the window of 50 µs that ends before this tick (R11). -/
def bullionWindow (p : Nat) (s : State) : State :=
  let n := (((s.port p).bullion.filter fun x => decide (s.ticks ≤ x.1 + 50 ∧ x.1 < s.ticks)).map (·.2)).sum
  let l := (s.port p).bullion.filter fun x => decide (s.ticks < x.1 + 50)
  let s := s.modPort p fun r => { r with bullion := l }
  let s := if entry s p 0x0B < n then s.wr (0x6000 + p) 0x0B n else s
  if 15625 < n then Audit.raise (0x1500 + p * 8 + 4) (s.inc (0x6000 + p) 0x0C) else s

/-! ### Keys, links and resets (R380, R383, R388, R389) -/

/-- MACSEC_KEY_COMMIT: the port transmits under the new key in the other association, from packet number 1. -/
def keyCommit (p : Nat) (s : State) : State :=
  (s.modPort p fun r => { r with
    an := if r.keyed then 1 - r.an else r.an, keyed := true, oldKey := if r.keyed then some r.rxKey else none,
    txKey := entry s p 0x11, rxKey := entry s p 0x12 }).wr (0x6000 + p) 0x15 0

/-- LINK_UP. -/
def linkUp (p : Nat) (s : State) : State := s.modPort p fun r => { r with link := true, asleep := false }

/-- The link of a port goes down: what it was sending or receiving ends. -/
def dropLink (p : Nat) (s : State) : State :=
  let s := match (s.port p).arriving with
    | some a => dropArrived a.item s
    | none => s
  let s := match (s.port p).sending with
    | some id => Vault.leave id p (noteReads s)
    | none => s
  s.modPort p fun r => { r with link := false, arriving := none, sending := none }

/-- LINK_DOWN: the link of an Active port drops outside TC10 sleep. -/
def linkDown (p : Nat) (s : State) : State :=
  if (s.port p).link then
    let told := up s p && !(s.port p).asleep
    Audit.raiseIf told (0x1500 + p * 8) ((dropLink p s).inc (0x6000 + p) 0x2D)
  else s

/-- PortStatus (R383). -/
def status (s : State) (p : Nat) : Nat :=
  let r := s.port p
  b01 (linked s p) + b01 (r.link && decide ((p < 2 ∨ p = 8) ∧ entry s p 0x0A = 1)) * 2 + b01 (macsec s p && r.keyed) * 4
    + b01 (decide (p < 8 ∧ s.rd (0x6300 + p) 1 = 1)) * 8 + b01 (decide (p < 8 ∧ s.rd (0x6300 + p) 9 ≠ 0)) * 16 + b01 (r.asleep && decide (p < 2)) * 32

/-- The counters of a port's group. -/
def counters : List Nat := [0x0B, 0x0C] ++ (List.range 14).map (0x20 + ·)

/-- CountersClear of a port. -/
def clearCounters (p : Nat) (s : State) : State := s.zero (counters.map fun j => (0x6000 + p, j))

/-- CountersClear of the Vault (R384): its own, those of every class and of every stream. -/
def clearVault (s : State) : State :=
  let s := (s.zero [(0x6100, 7), (0x6100, 8)]).wr 0x6100 6 (s.rd 0x6100 2)
  s.zero ((List.range 8).flatMap (fun tc => [(0x6200 + tc, 7), (0x6200 + tc, 8), (0x6200 + tc, 9)])
    ++ (List.range 64).flatMap fun k => (List.range 6).map fun j => (0x6140 + k, 8 + j))

/-- R388: a per-function reset of a port begins: its link drops, its queues are withdrawn without a tenor count and its
learned addresses are flushed; configuration, keys and packet numbers are kept. -/
def reset (p : Nat) (s : State) : State :=
  let s := dropLink p s
  let s := (s.vault.filter fun x => x.ports.contains p).foldl (fun s x => lost x (Vault.leave x.id p s)) s
  let s := if s.fdb.any (·.port = p) then flush (fun x => decide (x.port = p)) s else s
  (clearCounters p s).modPort p fun r => { r with resetting := true, bullion := [] }

/-- The reset of a port ends; the operating list resumes at the entry of the present time. -/
def resetDone (p : Nat) (s : State) : State :=
  let s := s.modPort p fun r => { r with resetting := false }
  if p < 8 then gateChange p s else s

/-! ### Tenor (R366 to R368) -/

/-- The waiting queues of an item whose tenor has ended are left. -/
def expireItem (x : VItem) (s : State) : State :=
  let s := x.ports.foldl (fun s p => Vault.leave x.id p (Vault.countTenor x.chain.tc (Vault.portOf p) s)) s
  match x.cargo with
  | .notify .. => s.inc 0x1180 0x0B
  | .cos k => Inputs.withdrawn k s
  | _ => s

/-- Every item of the egress queues whose tenor has ended is withdrawn, but where its transmission has begun. -/
def expire (s : State) : State :=
  (s.vault.filter fun x => Vault.expired s x.chain && !x.ports.isEmpty).foldl (fun s x => expireItem x s) s

/-- Messages of a context's queue whose tenor has ended are withdrawn and counted in MessagesWithdrawn (R333). -/
def expireRx (c : Nat) (s : State) : State :=
  ((s.ctx c).rx.filter fun r => Vault.expired s r.chain).foldl (fun s r =>
    let s := Vault.countTenor r.chain.tc 11 ((Seq.rxRemove c r s).inc (0x5100 + c) 0x11)
    match r.cos with
    | some k => Inputs.withdrawn k s
    | none => s) s

end Switch

end Sys2Proof.Machine
end

