-- ==== Sys2Proof/Machine/Time.lean ====
section
/-! DEFINITION. Module time: the tick, slewing, steps and synchronisation (R69, R70, R381, R548). -/

namespace Sys2Proof.Machine

namespace Time

/-- Module time steps forward to `t`: no tick passes, the banks align anew, and the gate schedules move to the entry of the
new time (R69, R127, R371). -/
def stepTo (t : Nat) (s : State) : State :=
  let s := (List.range 16).foldl (fun s b => s.modBank b fun r => { r with aligned := false }) s
  let s := { s with now := max s.now t, slew := 0 }
  (List.range 8).foldl (fun s p => if s.rd (0x6300 + p) 1 = 1 then Switch.gateChange p s else s) s

/-- One module tick: 1 µs, made longer or shorter by 1 ns while an offset is slewed away (R69). The ending tick enters ExcessUsed
(R195), coil engines watch their duty (R237), loop engines issue the outputs of the boundary 10 µs before (R249), and a gate
schedule that GateEnable has set going applies (R371). -/
def tick (s : State) : State :=
  let s := Teller.noteTick s
  let d : Int := if 0 < s.slew then 1 else if s.slew < 0 then -1 else 0
  Switch.gateTick (Loops.issue (Coil.tick (Perf.tick { s with now := (s.now + 1000 + d).toNat, ticks := s.ticks + 1, slew := s.slew - d })))

/-- A port is the 802.1AS slave and its link is up (R381). -/
def slave (s : State) : Bool :=
  decide (Switch.entry s 0 0x16 = 1 ∧ Switch.entry s 1 0x16 = 1) &&
    ((List.range 2).any fun p => decide (Switch.entry s p 0x17 = 2) && Switch.up s p && (s.port p).link)

/-- SyncState after a sync message (R548): 2 after 8 consecutive offsets within 1,000 ns, left for 1 beyond 10,000 ns. -/
def syncState (old good : Nat) (off : Int) : Nat :=
  if old = 2 then (if 10000 < off.natAbs then 1 else 2) else if 8 ≤ good then 2 else 1

/-- AS_SYNC: the offset is that of module time from the grandmaster. Up to 1 ms it is slewed away; beyond, module time
behind steps forward and module time ahead is slewed (R69). DEDUCED: notes/assumptions/101.md. -/
def sync (off : Int) (s : State) : State :=
  if s.rd 0x1200 2 = 1 ∧ slave s then
    let good := if off.natAbs ≤ 1000 then s.syncGood + 1 else 0
    let s := (s.wr 0x1200 4 (rawOf 32 (satSigned 32 off))).wr 0x1200 3 (syncState (s.rd 0x1200 3) good off)
    let s := { s with syncGood := good, syncAt := s.ticks }
    if off < -1000000 then stepTo (s.now + off.natAbs) s else { s with slew := -off }
  else s

/-- SYNC_HOLDOVER: no sync message for 3 s. -/
def holdover (s : State) : State :=
  if s.rd 0x1200 3 = 2 ∧ s.elapsed s.syncAt 3000000 then { (s.wr 0x1200 3 3) with syncGood := 0 } else s

/-- A committed TimeSource (Table 02-13); on the backup oscillator SyncState reads 3 (R526). -/
def sourceWrite (s : State) : State :=
  { (s.wr 0x1200 3 (if s.supply.onBackup then 3 else s.rd 0x1200 2)) with slew := 0, syncGood := 0 }

/-- R70: the status of a SetModuleTime write. -/
def setStatus (s : State) (t : Nat) : Status :=
  if s.rd 0x1200 2 = 1 then .state else if t < s.now then .range else .ok

end Time

end Sys2Proof.Machine
end

