-- ==== Sys2Proof/Machine/Can.lean ====
section
/-! DEFINITION. CAN controllers and the field-bus gateway (chapter 14, R390 to R408, R418). -/

namespace Sys2Proof.Machine

/-- The record of a CAN controller. -/
def State.can (s : State) (k : Nat) : Can := Map.get {} s.cans k

/-- The state with a controller's record changed. -/
def State.modCan (s : State) (k : Nat) (f : Can → Can) : State := { s with cans := Map.modify {} s.cans k f }

namespace Bus

/-! ### Frames and records (R404, R406, Table 14-5) -/

/-- An entry of a controller's group. -/
def entry (s : State) (k j : Nat) : Nat := s.rd (0x6400 + k) j

/-- A frame's format is enabled on a controller (Table 14-3). -/
def enabled (s : State) (k : Nat) (format : Nat) : Bool :=
  format = 0 || (decide (format = 1) && s.rdBit (0x6400 + k) 8 0) || (decide (format = 2) && s.rdBit (0x6400 + k) 8 1)

/-- The data lengths a format allows. -/
def lengthOk (format n : Nat) : Bool :=
  match format with
  | 0 => decide (n ≤ 8)
  | 1 => decide (n ≤ 8) || [12, 16, 20, 24, 32, 48, 64].contains n
  | _ => decide (1 ≤ n ∧ n ≤ 2048)

/-- The Format octet of a record. -/
def formatOctet (f : CanFrame) : Nat :=
  f.format + b01 f.ext * 4 + b01 f.remote * 8 + b01 f.brs * 16 + b01 f.esi * 32

/-- The frame of a Format octet, an identifier and data. -/
def ofFormat (fmt ident : Nat) (data : List Byte) : CanFrame :=
  { format := fmt % 4, ext := bitOf fmt 2, remote := bitOf fmt 3, brs := bitOf fmt 4, esi := bitOf fmt 5, ident := ident, data := data }

/-- A gateway record (Table 14-5). -/
def record (inst kind : Nat) (f : CanFrame) (time : Nat) : List Byte :=
  octets 1 1 ++ octets 1 (inst + kind * 16) ++ octets 1 (if kind = 1 then formatOctet f else 0) ++ octets 1 0 ++ octets 4 f.ident
    ++ octets 8 time ++ octets 2 f.data.length ++ octets 1 f.sdt ++ octets 1 f.vcid ++ octets 4 f.accept ++ f.data

/-- A number in the octets of a record. -/
def num (l : List Byte) (a n : Nat) : Nat := leNat ((l.drop a).take n)

/-- The gateway's Ethernet frame for a record: addresses and VLAN of the route's stream, the source P10, EtherType 0x88B5,
padded to the 64-octet minimum (R403, R404). -/
def gatewayFrame (s : State) (stream : Nat) (rec : List Byte) : EthFrame :=
  let m := s.rd (0x6140 + stream) 1
  let vid := field m 48 12
  { inPort := 10, dst := field m 0 48, src := Switch.entry s 10 4, vid := vid, tagged := decide (vid ≠ 0),
    len := max 64 (rec.length + 18 + (if vid ≠ 0 then 4 else 0)), etype := 0x88B5, data := rec }

/-- A record enters the switch at P10 in the class of a route (R403). -/
def toSwitch (route : Nat) (rec : List Byte) (s : State) : State :=
  (Switch.decide_ (gatewayFrame s (field route 4 6) rec) (some (field route 1 3)) true s).2

/-! ### Transmission (R395 to R398) -/

/-- A transmit item enters the queue of its class; false where TxQueueLimit or the Vault has no place for it. What is routed
to a sleeping segment is discarded and counted (R420). `session` owns the transfer that the frame belongs to. -/
def queueTx (k tc : Nat) (session : Option Nat) (f : CanFrame) (s : State) : Bool × State :=
  if (s.can k).asleep then (true, s.inc 0x6800 0x15)
  else if entry s k 9 ≤ (s.can k).txq.length then (false, s)
  else
    match Vault.take tc 10 (Vault.coinsOf f.data.length) true s with
    | (none, s) => (false, s)
    | (some c, s) => (true, s.modCan k fun r => { r with txq := r.txq ++ [{ frame := f, chain := c, session := session }] })

/-- An identifier with the Extended bit, as SuspendedIds holds it. -/
def idWord (f : CanFrame) : Nat := f.ident + b01 f.ext * 2 ^ 29

/-- The suspended identifiers (R401). -/
def suspendedIds (s : State) (k : Nat) : List Nat :=
  (List.range 4).filterMap fun i =>
    let v := field (entry s k 0x15) (32 * i) 32
    if bitOf v 31 then some (field v 0 30) else none

/-- A transmit item is withdrawn from the Vault, counted in TxWithdrawn. -/
def withdrawItem (k : Nat) (x : CanItem) (s : State) : State := (Vault.free x.chain s).inc (0x6400 + k) 0x18

/-- Heads with a suspended identifier are withdrawn as they reach the head of their queue (R401). -/
def dropSuspended (k tc : Nat) : Nat → State → State
  | 0, s => s
  | n + 1, s =>
    match (s.can k).txq.find? fun x => x.chain.tc = tc with
    | some x =>
      if (suspendedIds s k).contains (idWord x.frame) then
        dropSuspended k tc n (withdrawItem k x (s.modCan k fun r => { r with txq := r.txq.erase x }))
      else s
    | none => s

/-- R401: on the controllers that hold a suspended identifier, the items at the heads of their queues that carry it. -/
def suspendedHeads (s : State) : State :=
  (s.listed 0x6400 0x640F 0x15).foldl (fun s p =>
    let k := p.1 - 0x6400
    [7, 6, 5, 4, 3, 2, 1, 0].foldl (fun s tc => dropSuspended k tc (s.can k).txq.length s) s) s

/-- The frame a slot takes: the head of the highest class whose queue is not empty; one whose tenor has ended is withdrawn
before it could go (R366). -/
def nextItem (s : State) (k : Nat) : Option CanItem :=
  [7, 6, 5, 4, 3, 2, 1, 0].findSome? fun tc => (s.can k).txq.find? fun x => decide (x.chain.tc = tc) && !Vault.expired s x.chain

/-- The frame of a slot. -/
def slot (s : State) (k i : Nat) : Option CanSlot := Map.get none (s.can k).slots i

/-- A slot's frame set. -/
def setSlot (k i : Nat) (x : Option CanSlot) (s : State) : State :=
  s.modCan k fun r => { r with slots := Map.put none r.slots i x }

/-- The controller takes part in bus traffic. -/
def onBus (s : State) (k : Nat) : Bool :=
  s.active ⟨6, k⟩ && !(s.can k).integrating && !(s.can k).busOff && !(s.can k).asleep

/-- CAN_SLOT_REFILL. -/
def refill (k i : Nat) (s : State) : State :=
  if s.active ⟨6, k⟩ ∧ (slot s k i).isNone then
    let s := [7, 6, 5, 4, 3, 2, 1, 0].foldl (fun s tc => dropSuspended k tc (s.can k).txq.length s) s
    match nextItem s k with
    | none => s
    | some x =>
      setSlot k i (some { item := x, order := (s.can k).loads })
        (s.modCan k fun r => { r with txq := r.txq.erase x, loads := r.loads + 1 })
  else s

/-- The bits of arbitration: base identifier, then SRR or RTR, IDE, the extension and RTR; the lowest wins.
DESIGN CHOICE: notes/assumptions/106.md. -/
def arbitration (f : CanFrame) : Nat :=
  if f.ext then f.ident / 2 ^ 18 * 2 ^ 21 + 2 ^ 20 + 2 ^ 19 + f.ident % 2 ^ 18 * 2 + b01 f.remote
  else f.ident % 2 ^ 11 * 2 ^ 21 + b01 f.remote * 2 ^ 20

/-- R396: whether a slot is offered before another; frames with one identifier go in the order in which they were loaded. -/
def before (byOrder : Bool) (a b : CanSlot) : Bool :=
  if byOrder ∨ idWord a.item.frame = idWord b.item.frame then decide (a.order < b.order)
  else decide (arbitration a.item.frame < arbitration b.item.frame)

/-- The slot offered to the bus, but none whose frame's tenor has ended (R366). -/
def offered (s : State) (k : Nat) : Option Nat :=
  let byOrder := s.rdBit (0x6400 + k) 8 3
  ([0, 1, 2].foldl (fun (best : Option (Nat × CanSlot)) i =>
    match (slot s k i).filter fun x => !Vault.expired s x.item.chain, best with
    | none, b => b
    | some x, none => some (i, x)
    | some x, some b => if before byOrder x b.2 then some (i, x) else some b) none).map (·.1)

/-- CAN_ATTEMPT_START: in normal operation the controller offers one slot (R394, R396). -/
def attemptStart (k : Nat) (s : State) : State :=
  if onBus s k ∧ (s.can k).attempt.isNone ∧ entry s k 4 = 0 ∧ !(s.can k).sleepAsked ∧ !s.supply.onBackup then
    s.modCan k fun r => { r with attempt := offered s k }
  else s

/-! ### Error confinement (R399 to R401) -/

/-- ErrorState: 0 active, 1 passive, 2 bus-off (Table 14-7). -/
def errorState (x : Can) : Nat := if x.busOff then 2 else if 127 < x.tec ∨ 127 < x.rec_ then 1 else 0

/-- TEC and REC as they read. -/
def showCounters (k : Nat) (s : State) : State :=
  (s.wr (0x6400 + k) 0x11 (min 255 (s.can k).tec)).wr (0x6400 + k) 0x12 (min 255 (s.can k).rec_)

/-- The counters change; error passive and bus-off are entered where they rise past their limits. -/
def setCounters (k tec rec_ : Nat) (s : State) : State :=
  let old := errorState (s.can k)
  let off := decide (255 < tec)
  let s := showCounters k (s.modCan k fun r => { r with tec := tec, rec_ := rec_, busOff := r.busOff || off })
  let new := errorState (s.can k)
  let s := Audit.raiseIf (decide (old = 0 ∧ new = 1)) (0x1600 + k * 8 + 1) s
  if old ≠ 2 ∧ new = 2 then Audit.raise (0x1600 + k * 8) ((s.inc (0x6400 + k) 0x1C).modCan k fun r => { r with attempt := none })
  else s

/-- R400: AckErrorRun, with Alone at 16. -/
def ackError (k : Nat) (s : State) : State :=
  let n := min 255 (entry s k 0x14 + 1)
  let s := s.wr (0x6400 + k) 0x14 n
  if n = 16 then Audit.raise (0x1600 + k * 8 + 2) (s.modCan k fun r => { r with alone := true }) else s

/-- R400: a success or a received frame returns AckErrorRun to 0 and clears Alone. -/
def ackClear (k : Nat) (s : State) : State := (s.wr (0x6400 + k) 0x14 0).modCan k fun r => { r with alone := false }

/-- R401: an identifier enters SuspendedIds where one of its four places is free. -/
def suspend (k w : Nat) (s : State) : State :=
  match (List.range 4).find? fun i => !bitOf (entry s k 0x15) (32 * i + 31) with
  | some i => if (suspendedIds s k).contains w then s else s.wrField (0x6400 + k) 0x15 (32 * i) 32 (w + 2 ^ 31)
  | none => s

/-- R401: the fourth consecutive clash of a slot's frame. -/
def clash (k i : Nat) (x : CanSlot) (s : State) : State :=
  let s := Audit.raise (0x1600 + k * 8 + 3) (s.inc (0x6400 + k) 0x1D)
  if s.rdBit (0x6400 + k) 8 4 ∧ (suspendedIds s k).length < 4 then
    withdrawItem k x.item (setSlot k i none (suspend k (idWord x.item.frame) s))
  else s

/-- R398: a slot's frame whose tenor has ended is withdrawn at the end of a failed attempt. -/
def expireSlot (k i : Nat) (s : State) : State :=
  match slot s k i with
  | some x =>
    if Vault.expired s x.item.chain then
      withdrawItem k x.item (Vault.countTenor x.item.chain.tc 10 (setSlot k i none s))
    else s
  | none => s

/-- LastError of an outcome (Table 14-6). -/
def lastError : CanOutcome → Nat
  | .bit | .bitAfterArbitration => 1 | .stuff => 2 | .form => 3 | .ack _ => 4 | .crc => 5 | _ => 0

/-- CAN_ATTEMPT_END: the attempt in progress succeeds, loses arbitration or meets an error (R397 to R401). -/
def attemptEnd (k : Nat) (o : CanOutcome) (s : State) : State :=
  match (s.can k).attempt.bind fun i => (slot s k i).map fun x => (i, x) with
  | none => s
  | some (i, x) =>
    let r := s.can k
    let s := s.modCan k fun r => { r with attempt := none }
    match o with
    | .sent =>
      let s := setCounters k (r.tec - 1) r.rec_ (ackClear k s)
      ((Vault.free x.item.chain (setSlot k i none s)).inc (0x6400 + k) 0x16).send (.can k (idWord x.item.frame) x.item.frame.data)
    | .lost => expireSlot k i s
    | o =>
      let run := if o = .bitAfterArbitration then x.clashRun + 1 else 0
      let quiet := match o with
        | .ack dominant => decide (errorState r = 1) && !dominant
        | _ => false
      let s := (setSlot k i (some { x with clashRun := run }) s).wr (0x6400 + k) 0x13 (lastError o)
      let s := match o with
        | .ack _ => ackError k s
        | _ => s
      let s := setCounters k (if quiet then r.tec else r.tec + 8) r.rec_ s
      let s := if run = 4 then clash k i x s else s
      expireSlot k i s

/-- BUS_OFF_RECOVER: recovery starts in bus-off. -/
def recover (k : Nat) (s : State) : State := s.modCan k fun r => { r with recovering := true }

/-- BUS_OFF_RECOVERY_DONE: error active with TEC and REC at 0. -/
def recovered (k : Nat) (s : State) : State :=
  if (s.can k).recovering then
    showCounters k (s.modCan k fun r => { r with recovering := false, busOff := false, tec := 0, rec_ := 0 })
  else s

/-- CAN_INTEGRATION_DONE. -/
def integrated (k : Nat) (s : State) : State := s.modCan k fun r => { r with integrating := false }

/-- CLASH_CLEAR. -/
def clashClear (k : Nat) (s : State) : State := s.wr (0x6400 + k) 0x15 0

/-- TRANSCEIVER_FAULT: TransceiverFault sets or clears. -/
def transceiver (k : Nat) (b : Bool) (s : State) : State :=
  Audit.raiseIf (b && !(s.can k).transceiver) (0x1600 + k * 8 + 5) (s.modCan k fun r => { r with transceiver := b })

/-- CanStatus (Table 14-7). -/
def status (s : State) (k : Nat) : Nat :=
  let x := s.can k
  errorState x + b01 x.alone * 4 + b01 x.recovering * 8 + b01 x.integrating * 16
    + ((List.range 3).map fun i => b01 (slot s k i).isSome * 2 ^ (5 + i)).sum
    + (suspendedIds s k).length * 256 + b01 x.transceiver * 2048

/-! ### TransmitFrame (R406) -/

/-- The status of a TransmitFrame value by its fields: reserved bits, then ranges. -/
def transmitStatus (s : State) (k : Nat) (l : List Byte) : Status :=
  let o (i : Nat) : Nat := (l.getD i 0).toNat
  let ident := num l 4 4
  if 64 ≤ o 0 ∨ 8 ≤ o 1 ∨ o 3 ≠ 0 ∨ 2 ^ 29 ≤ ident ∨ num l 8 4 ≠ 0 then .reserved
  else if 2 ≤ o 0 % 4 ∨ !enabled s k (o 0 % 4) ∨ !lengthOk (o 0 % 4) (o 2) then .range
  else .ok

/-- A TransmitFrame value queued; false where it would exceed TxQueueLimit. -/
def transmit (k : Nat) (l : List Byte) (s : State) : Bool × State :=
  let o (i : Nat) : Nat := (l.getD i 0).toNat
  queueTx k (o 1 % 8) none (ofFormat (o 0) (num l 4 4) ((l.drop 12).take (o 2))) s

/-! ### Reception and the gateway (R402, R403, R405) -/

/-- RxRoute of a receive queue. -/
def route (s : State) (k q : Nat) : Nat := entry s k (0x0B + q)

/-- The lowest-numbered matching filter (R402). -/
def filter (s : State) (k : Nat) (f : CanFrame) : Option Nat :=
  (List.range 32).find? fun i =>
    let c := entry s k (0x60 + i)
    bitOf c 0 && bitOf c (2 + f.format) &&
      decide (Nat.land (Nat.xor (idWord f) (entry s k (0x20 + i))) (entry s k (0x40 + i)) = 0)

/-- R403: a matched frame is placed in its receive queue. -/
def queueRx (k q : Nat) (f : CanFrame) (s : State) : State :=
  let r := route s k q
  if !bitOf r 0 then s.inc (0x6400 + k) 0x1A
  else if entry s k 0x0A ≤ ((s.can k).rxq.filter (·.queue = q)).length then
    Audit.raise (0x1600 + k * 8 + 4) (s.inc (0x6400 + k) 0x19)
  else
    match Vault.take (field r 1 3) 10 (Vault.coinsOf f.data.length) true s with
    | (none, s) => Vault.countNoCoin (field r 1 3) 10 s
    | (some c, s) => s.modCan k fun x => { x with rxq := x.rxq ++ [{ queue := q, frame := f, time := s.now, chain := c }] }

/-- The gateway takes the frames of the receive queues while P10 forwards: each becomes one Ethernet frame; an XL frame too
long for one counts in GatewayRejects (R403). DESIGN CHOICE: notes/assumptions/104.md. -/
def drainRx (k : Nat) (s : State) : State :=
  if Switch.up s 10 then
    (s.can k).rxq.foldl (fun s x =>
      let s := Vault.free x.chain (s.modCan k fun r => { r with rxq := r.rxq.erase x })
      if 1476 < x.frame.data.length then s.inc (0x6400 + k) 0x1B
      else toSwitch (route s k x.queue) (record k 1 x.frame x.time) s) s
  else s

/-- R402: a correctly received frame beside the BLL channels: FramesReceived, AckErrorRun and REC, then the filters. -/
def received (k : Nat) (f : CanFrame) (s : State) : State :=
  match filter s k f with
  | some i => drainRx k (queueRx k (b01 (bitOf (entry s k (0x60 + i)) 1)) f s)
  | none => s.inc (0x6400 + k) 0x1A

/-- The counters of a correctly received frame; a REC above 127 returns to a value between 119 and 127, which ISO 11898-1
leaves open. DESIGN CHOICE: notes/assumptions/105.md. -/
def countReceived (k : Nat) (s : State) : State :=
  let r := s.can k
  let o := s.open_
  let s := ackClear k (s.inc (0x6400 + k) 0x17)
  if 127 < r.rec_ then setCounters k r.tec (119 + o.1 % 9) { s with free := o.2.free }
  else setCounters k r.tec (r.rec_ - 1) s

/-- Whether a controller receives frames of a format. -/
def listening (s : State) (k : Nat) (f : CanFrame) : Bool := onBus s k && enabled s k f.format

/-- R405: a Kind 1 record becomes a transmit item of its controller. -/
def gatewayCan (tc : Nat) (l : List Byte) (s : State) : State :=
  let k := (l.getD 1 0).toNat % 16
  let fmt := (l.getD 2 0).toNat
  let len := num l 16 2
  let reject (s : State) := s.inc (0x6400 + k) 0x1B
  if 64 ≤ fmt ∨ fmt % 4 = 3 ∨ (l.getD 3 0).toNat ≠ 0 ∨ 2 ^ 29 ≤ num l 4 4 ∨ !enabled s k (fmt % 4) ∨ !lengthOk (fmt % 4) len
      ∨ l.length < 24 + len ∨ (fmt % 4 ≠ 2 ∧ num l 18 6 ≠ 0) then reject s
  else
    let f := { ofFormat fmt (num l 4 4) ((l.drop 24).take len) with sdt := num l 18 1, vcid := num l 19 1, accept := num l 20 4 }
    let q := queueTx k tc none f s
    if q.1 then q.2 else reject q.2

/-- The frame reached P10 through a stream whose EgressPorts names it, with EtherType 0x88B5 (R405). -/
def forGateway (s : State) (f : EthFrame) : Bool :=
  decide (f.etype = 0x88B5) && (Switch.match_ s f).any fun k => (Switch.egressPorts (Switch.control s k)).contains 10

/-! ### Life of a controller (R394, R408) -/

/-- On entry to Active the controller integrates. -/
def enterActive (k : Nat) (s : State) : State := s.modCan k fun r => { r with integrating := true }

/-- A controller leaves Active: an attempt in progress ends and the bus is only monitored. -/
def leaveActive (k : Nat) (s : State) : State := s.modCan k fun r => { r with attempt := none, integrating := false }

/-- Slots and queues are emptied without a tenor count. -/
def empty (k : Nat) (s : State) : State :=
  let r := s.can k
  let l := r.txq.map (·.chain) ++ r.slots.filterMap (fun p => p.2.map (·.item.chain)) ++ r.rxq.map (·.chain)
  (l.foldl (fun s c => Vault.free c s) s).modCan k fun r => { r with txq := [], slots := [], rxq := [], attempt := none }

/-- Frames of a session's transfers that wait for the bus are withdrawn; one on its way completes (R100, R367). -/
def withdrawSession (k j : Nat) (s : State) : State :=
  let mine (x : CanItem) : Bool := decide (x.session = some j)
  let s := ((s.can k).txq.filter mine).foldl (fun s x =>
    Vault.free x.chain (s.modCan k fun r => { r with txq := r.txq.erase x })) s
  [0, 1, 2].foldl (fun s i => match slot s k i with
    | some x => if mine x.item ∧ (s.can k).attempt ≠ some i then Vault.free x.item.chain (setSlot k i none s) else s
    | none => s) s

/-- CountersClear of a controller. -/
def clearCounters (k : Nat) (s : State) : State := s.zero ((List.range 8).map fun j => (0x6400 + k, 0x16 + j))

/-- R408, beside the BLL transfers; the counters are those of the group's CountersClear. DEDUCED: notes/assumptions/172.md. -/
def reset (k : Nat) (s : State) : State :=
  clashClear k (clearCounters k (showCounters k ((empty k s).modCan k fun r => { r with
    busOff := false, recovering := false, tec := 0, rec_ := 0, integrating := true })))

/-- R398: items of a controller whose tenor has ended, but the frame of an attempt in progress. -/
def expire (k : Nat) (s : State) : State :=
  let s := ((s.can k).txq.filter fun x => Vault.expired s x.chain).foldl (fun s x =>
    withdrawItem k x (Vault.countTenor x.chain.tc 10 (s.modCan k fun r => { r with txq := r.txq.erase x }))) s
  let s := [0, 1, 2].foldl (fun s i => if (s.can k).attempt = some i then s else expireSlot k i s) s
  ((s.can k).rxq.filter fun x => Vault.expired s x.chain).foldl (fun s x =>
    Vault.free x.chain (Vault.countTenor x.chain.tc 10 (s.modCan k fun r => { r with rxq := r.rxq.erase x }))) s

/-- The bit rate of a timing in bit/s (R392). -/
def rate (v : Nat) : Nat := 80000000 / (max 1 (field v 0 8) * (1 + field v 8 8 + field v 16 7))

end Bus

end Sys2Proof.Machine
end

