-- ==== Sys2Proof/Machine/Lin.lean ====
section
/-! DEFINITION. LIN channels and 10BASE-T1S segments (chapter 14, R409 to R415, R418). -/

namespace Sys2Proof.Machine

/-- The record of a LIN channel. -/
def State.lin (s : State) (k : Nat) : Lin := Map.get {} s.lins k

/-- The state with a channel's record changed. -/
def State.modLin (s : State) (k : Nat) (f : Lin → Lin) : State := { s with lins := Map.modify {} s.lins k f }

/-- The record of a T1S segment. -/
def State.t1s (s : State) (k : Nat) : T1s := Map.get {} s.t1ss k

/-- The state with a segment's record changed. -/
def State.modT1s (s : State) (k : Nat) (f : T1s → T1s) : State := { s with t1ss := Map.modify {} s.t1ss k f }

namespace LinBus

/-! ### Frames (R409, R411, Table 14-8) -/

/-- LinFrame of a frame entry. -/
def frame (s : State) (k f : Nat) : Nat := s.rd (0x6500 + k) (0x10 + f)

/-- FrameId of a frame entry. -/
def ident (s : State) (k f : Nat) : Nat := field (frame s k f) 0 6

/-- The response octets of a publish entry. -/
def data (s : State) (k f : Nat) : List Byte := octets (field (frame s k f) 10 4) (s.rd (0x6500 + k) (0x50 + f))

/-- A LinFrame value that the table's fields admit and R409 refuses: an event-triggered entry without associated entries,
frames 0x3C and 0x3D with enhanced checksum. -/
def frameBad (v : Nat) : Bool :=
  (decide (field v 8 2 = 1) && decide (field v 22 3 = 0)) || (decide (60 ≤ field v 0 6 ∧ field v 0 6 ≤ 61) && bitOf v 14)

/-- The enabled frame entry of an identifier. -/
def find (s : State) (k id : Nat) : Option Nat :=
  (List.range 64).find? fun f => bitOf (frame s k f) 6 && decide (ident s k f = id)

/-- A publish buffer is written (R411). -/
def writeData (k f : Nat) (s : State) : State :=
  s.modLin k fun r => { r with written := f :: r.written.erase f, fresh := f :: r.fresh.erase f }

/-- R411: a Kind 2 record overwrites the buffer of the publish entry with its identifier, or counts in GatewayRejects.
DESIGN CHOICE: notes/assumptions/108.md. -/
def gateway (l : List Byte) (s : State) : State :=
  let k := (l.getD 1 0).toNat % 16
  if (s.lin k).asleep then s.inc 0x6800 0x15 else
  match (List.range 64).find? fun f => bitOf (frame s k f) 6 && !bitOf (frame s k f) 7 && decide (ident s k f = Bus.num l 4 4) with
  | some f => writeData k f (s.wr (0x6500 + k) (0x50 + f) (leNat (((l.drop 24).take (Bus.num l 16 2)).take 8)))
  | none => s.inc (0x6500 + k) 0x0C

/-- A published response is sent, where its buffer has been written. -/
def publish (k f : Nat) (s : State) : State :=
  if (s.lin k).written.contains f then
    (s.modLin k fun r => { r with fresh := r.fresh.erase f }).send (.lin k (ident s k f) (data s k f))
  else s

/-! ### The schedule (R410) -/

/-- The channel is a commander that may send. -/
def commander (s : State) (k : Nat) : Bool := s.active ⟨7, k⟩ && decide (s.rd (0x6500 + k) 4 = 0) && !(s.lin k).asleep && !s.supply.onBackup

/-- Slot `i` of table `t`. -/
def slotOf (s : State) (k t i : Nat) : Nat := s.rd (0x6500 + k) (0x90 + 16 * (t - 1) + i)

/-- The next slot of a table: slot `i` where it is enabled, otherwise slot 0. -/
def nextSlot (s : State) (k t i : Nat) : Option Nat :=
  if i < 16 ∧ bitOf (slotOf s k t i) 6 then some i else if bitOf (slotOf s k t 0) 6 then some 0 else none

/-- The end of the present slot: a selection takes effect, or the go-to-sleep frame is sent and the schedule stops (R410,
R412). -/
def endSlot (k : Nat) (s : State) : State :=
  let x := s.lin k
  let s := match x.select with
    | some t => s.modLin k fun r => { r with table := t, slot := 0, select := none }
    | none => s
  if x.sleepAsked then
    (((s.modLin k fun r => { r with
      sleepAsked := false, table := 0, busSleep := true, asleep := r.netSleep, netSleep := false, resume := r.table }).wr (0x6500 + k) 6 0)).send
      (.lin k 0x3C (0x00 :: List.replicate 7 0xFF))
  else s

/-- The header of a frame entry: a publish entry is answered by the channel, a subscribe entry awaits its response; a
sporadic frame goes only when its buffer is fresh. -/
def header (k f : Nat) (s : State) : State :=
  let v := frame s k f
  if !bitOf v 6 then s
  else if field v 8 2 = 2 ∧ !(s.lin k).fresh.contains f then s
  else (s.modLin k fun r => { r with awaiting := some f, busSleep := false, busHeld := false }).send (.lin k (ident s k f) [])

/-- LIN_SLOT: a slot starts; entries to poll after a collision come first (R410). -/
def startSlot (k : Nat) (s : State) : State :=
  if commander s k ∧ (s.lin k).slotEnd ≤ s.ticks then
    let s := endSlot k s
    let x := s.lin k
    if x.table = 0 then s
    else
      match nextSlot s k x.table x.slot with
      | none => s
      | some i =>
        let v := slotOf s k x.table i
        let wait := s.ticks + field v 7 9 * 1000
        match x.polls with
        | f :: r => header k f (s.modLin k fun y => { y with polls := r, slotEnd := wait, awaiting := none })
        | [] => header k (field v 0 6) (s.modLin k fun y => { y with slot := i + 1, slotEnd := wait, awaiting := none })
  else s

/-- SCHEDULE_SELECT: effect at the end of the present slot; an idle schedule starts at once. -/
def select (k v : Nat) (s : State) : State := s.modLin k fun r => { r with select := some v }

/-- SLEEP_COMMAND. -/
def sleep (k : Nat) (s : State) : State := s.modLin k fun r => { r with sleepAsked := true }

/-! ### Responses and faults (R411, R412) -/

/-- A response received on a subscribe entry is routed as a Kind 2 record (R411). -/
def route (k f : Nat) (l : List Byte) (s : State) : State :=
  let r := s.rd (0x6500 + k) 8
  if bitOf r 0 ∧ Switch.up s 10 then
    Bus.toSwitch r (Bus.record k 2 { ident := ident s k f, data := l.take (field (frame s k f) 10 4) } s.now) s
  else s

/-- Faults are counted in the commander role (R412). -/
def counting (s : State) (k : Nat) : Bool := decide (s.rd (0x6500 + k) 4 = 0)

/-- A response whose checksum fails; on an event-triggered frame it is a collision, and the associated entries are polled
in the slots that follow (R410). DESIGN CHOICE: notes/assumptions/109.md. -/
def badResponse (k f : Nat) (s : State) : State :=
  let v := frame s k f
  let s := s.modLin k fun r => { r with missed := Map.put 0 r.missed f 0 }
  let s := if counting s k then Audit.raise (0x1680 + k * 8 + 1) (s.inc (0x6500 + k) 0x0A) else s
  if field v 8 2 = 1 then s.modLin k fun r => { r with polls := (List.range (field v 22 3)).map (field v 16 6 + ·) } else s

/-- LIN_RESPONSE: the awaited response is received, or the published one is sent. -/
def response (k : Nat) (l : List Byte) (ok : Bool) (s : State) : State :=
  match (s.lin k).awaiting with
  | none => s
  | some f =>
    let s := s.modLin k fun r => { r with awaiting := none, busHeld := false }
    if !bitOf (frame s k f) 7 then publish k f s
    else if ok then route k f l (s.modLin k fun r => { r with missed := Map.put 0 r.missed f 0 })
    else badResponse k f s

/-- LIN_NO_RESPONSE: three consecutive ones on a frame raise NO_RESPONSE. -/
def noResponse (k : Nat) (s : State) : State :=
  match (s.lin k).awaiting with
  | none => s
  | some f =>
    if bitOf (frame s k f) 7 ∧ counting s k then
      let n := Map.get 0 (s.lin k).missed f + 1
      let s := (s.inc (0x6500 + k) 9).modLin k fun r => { r with awaiting := none, missed := Map.put 0 r.missed f n }
      Audit.raiseIf (n = 3) (0x1680 + k * 8) s
    else s

/-- LIN_HEADER: a responder answers a header of an enabled entry, or raises SYNC on an invalid sync field.
DESIGN CHOICE: notes/assumptions/109.md. -/
def headerIn (k id : Nat) (syncOk : Bool) (s : State) : State :=
  if s.active ⟨7, k⟩ ∧ s.rd (0x6500 + k) 4 = 1 ∧ !(s.lin k).asleep then
    if syncOk then
      match find s k id with
      | some f => s.modLin k fun r => { r with awaiting := some f, busSleep := false }
      | none => s
    else Audit.raise (0x1680 + k * 8 + 3) s
  else s

/-- LIN_BUS_FAULT: a bit read back differently, or the bus held dominant. -/
def busFault (k : Nat) (held : Bool) (s : State) : State :=
  if s.active ⟨7, k⟩ ∧ counting s k then
    Audit.raise (0x1680 + k * 8 + 2) ((s.inc (0x6500 + k) 0x0B).modLin k fun r => { r with busHeld := held })
  else s

/-- LinStatus (R413). -/
def status (s : State) (k : Nat) : Nat :=
  let x := s.lin k
  b01 (decide (x.table ≠ 0)) + (if x.table = 0 then 0 else x.table - 1) * 2 + b01 x.busSleep * 8

/-- CountersClear of a channel. -/
def clearCounters (k : Nat) (s : State) : State := s.zero ((List.range 4).map fun j => (0x6500 + k, 9 + j))

/-- R413: a per-function reset; publish buffers return to unwritten. -/
def reset (k : Nat) (s : State) : State :=
  let s := (List.range 64).foldl (fun s f => s.wr (0x6500 + k) (0x50 + f) 0) ((clearCounters k s).wr (0x6500 + k) 6 0)
  s.modLin k fun r => { asleep := r.asleep }

/-- A channel leaves Active: its schedule stands. -/
def leaveActive (k : Nat) (s : State) : State :=
  s.modLin k fun r => { r with awaiting := none, polls := [] }

end LinBus

namespace Plca

/-- The segment is a PLCA follower. -/
def follower (s : State) (k : Nat) : Bool :=
  s.rdBit (0x6600 + k) 4 16 && decide (s.rdField (0x6600 + k) 4 0 8 ≠ 0)

/-- PLCA_BEACON_LOSS: a follower falls back to CSMA/CD (R414). -/
def beaconLoss (k : Nat) (s : State) : State :=
  if s.active ⟨8, k⟩ ∧ follower s k ∧ !(s.t1s k).beaconLost then
    Audit.raise (0x16C0 + k * 4) ((s.inc (0x6600 + k) 7).modT1s k fun r => { r with beaconLost := true })
  else s

/-- PLCA_BEACON_RETURN. -/
def beaconReturn (k : Nat) (s : State) : State := s.modT1s k fun r => { r with beaconLost := false }

/-- T1S_COLLISION: more than 100 in a window of 1 s raise COLLISIONS. -/
def collision (k : Nat) (s : State) : State :=
  if s.active ⟨8, k⟩ then
    let x := s.t1s k
    let fresh := match x.windowAt with
      | some t => s.elapsed t 1000000
      | none => true
    let n := if fresh then 1 else x.inWindow + 1
    let s := (s.inc (0x6600 + k) 6).modT1s k fun r => { r with
      windowAt := if fresh then some s.ticks else r.windowAt, inWindow := n }
    Audit.raiseIf (n = 101) (0x16C0 + k * 4 + 1) s
  else s

/-- PHY_FAULT. -/
def phyFault (k : Nat) (b : Bool) (s : State) : State :=
  Audit.raiseIf (b && !(s.t1s k).phyFault) (0x16C0 + k * 4 + 2) (s.modT1s k fun r => { r with phyFault := b })

/-- T1sStatus (Table 14-10). -/
def status (s : State) (k : Nat) : Nat :=
  let on := s.active ⟨8, k⟩ && s.rdBit (0x6600 + k) 4 16
  let co := decide (s.rdField (0x6600 + k) 4 0 8 = 0)
  let seen := on && !co && !(s.t1s k).beaconLost
  b01 (on && (co || seen)) + b01 seen * 2 + b01 (on && co) * 4

/-- R415: a per-function reset restarts the PHY and its PLCA state. -/
def reset (k : Nat) (s : State) : State :=
  (s.zero [(0x6600 + k, 6), (0x6600 + k, 7)]).modT1s k fun _ => {}

end Plca

end Sys2Proof.Machine
end

