-- ==== Sys2Proof/Machine/Iso.lean ====
section
/-! DEFINITION. ISO 15765-2 transfers on CAN: BLL channels and relays (R78, R417). -/

namespace Sys2Proof.Machine

/-- The record of an ISO-TP channel. -/
def State.isoTp (s : State) (c : Nat) : IsoTp := Map.get {} s.iso c

/-- The state with a channel's record changed. -/
def State.modIso (s : State) (c : Nat) (f : IsoTp → IsoTp) : State := { s with iso := Map.modify {} s.iso c f }

namespace Iso

/-- The controller of a channel. -/
def controller (c : Nat) : Nat := if c < 64 then c / 4 else (c - 64) / 256

/-- The relay channel of a device on a controller. -/
def relayChannel (k dev : Nat) : Nat := 64 + k * 256 + dev

/-- The identifier on which a channel sends: its response identifier, or that of a relay request (R417). -/
def sendId (s : State) (c : Nat) : Nat × Bool :=
  if c < 64 then let v := s.rd 0x1183 (0x41 + c); (field v 0 29, bitOf v 29)
  else (0x18DA0000 + (c - 64) % 256 * 256 + s.rd (0x6400 + controller c) 0x10, true)

/-- A channel sends CAN FD frames: bit 30 of its request identifier; relays are classical. -/
def fd (s : State) (c : Nat) : Bool := decide (c < 64) && s.rdBit 0x1183 (1 + c) 30

/-- The channel a received frame belongs to: the enabled request identifiers of the controller, then the answers of relays
in progress (R402, R417). Remote and CAN XL frames belong to none (R78). -/
def channelOf (s : State) (k : Nat) (f : CanFrame) : Option Nat :=
  if f.remote ∨ 2 ≤ f.format then none else
  match [4 * k, 4 * k + 1, 4 * k + 2, 4 * k + 3].find? fun c =>
      let v := s.rd 0x1183 (1 + c)
      bitOf v 31 && decide (field v 0 29 = f.ident ∧ bitOf v 29 = f.ext) with
  | some c => some c
  | none =>
    let r := s.rd (0x6400 + k) 0x10
    if f.ext ∧ f.ident / 65536 = 0x18DA ∧ f.ident / 256 % 256 = r ∧ Map.get 0 s.relayTags (65536 + k * 256 + f.ident % 256) ≠ 0 then
      some (relayChannel k (f.ident % 256))
    else none

/-- The data length of a frame of `n` octets: classical frames are padded to 8, FD frames to a valid length (R78). -/
def padded (fdFrame : Bool) (n : Nat) : Nat :=
  if fdFrame then ([8, 12, 16, 20, 24, 32, 48, 64].find? (n ≤ ·)).getD 64 else 8

/-- A CAN frame of a channel is queued, padded with 0xCC; false where the controller's queue or the Vault has no place for it
yet. -/
def sendFrame (c : Nat) (l : List Byte) (s : State) : Bool × State :=
  let id := sendId s c
  let d := fd s c
  Bus.queueTx (controller c) (s.isoTp c).tc (s.isoTp c).session
    { format := b01 d, ext := id.2, ident := id.1, data := l ++ List.replicate (padded d l.length - l.length) 0xCC } s

/-- The octets a frame of a channel carries at most. -/
def room (s : State) (c : Nat) : Nat := if fd s c then 64 else 8

/-! ### Transmission -/

/-- The oldest message that waits for a channel: its tenor has not ended (R366). -/
def waiting (s : State) (c : Nat) : Option VItem :=
  s.vault.find? fun x => x.ports.contains (12 + c) && !Vault.expired s x.chain

/-- The octets of a message of a channel and the session it belongs to. -/
def message : Cargo → List Byte × Option Nat
  | .bll _ _ k l => (l, some k)
  | .relay l => (l, none)
  | _ => ([], none)

/-- The first frame of a message and what it leaves to send: a single frame, or a first frame. -/
def firstFrame (s : State) (c : Nat) (l : List Byte) : List Byte × List Byte :=
  let n := l.length
  if n ≤ 7 then (BitVec.ofNat 8 n :: l, [])
  else if n + 2 ≤ room s c then (0 :: BitVec.ofNat 8 n :: l, [])
  else (BitVec.ofNat 8 (16 + n / 256) :: BitVec.ofNat 8 n :: l.take (room s c - 2), l.drop (room s c - 2))

/-- The transfer in progress of a channel ends, and its message leaves the Vault (R363). -/
def finish (c : Nat) (s : State) : State :=
  let x := s.isoTp c
  let s := s.modIso c fun y => { y with item := none, session := none, rest := [], fcBy := none, block := none }
  x.item.elim s fun id => Vault.leave id (12 + c) s

/-- The transfer of the oldest waiting message begins: a single frame, or a first frame after which a flow control is awaited
for 1,000 ms. One transfer at a time in each direction (R78). -/
def begin_ (c : Nat) (s : State) : State :=
  match waiting s c with
  | none => s
  | some x =>
    let s' := Switch.beginCargo x.id (Vault.depart x.id (12 + c) id s)
    let m := ((Vault.find s' x.id).map fun y => message y.cargo).getD ([], none)
    let s' := s'.modIso c fun y => { y with tc := x.chain.tc, session := m.2, item := some x.id }
    let f := firstFrame s' c m.1
    let q := sendFrame c f.1 s'
    if !q.1 then s
    else if f.2 = [] then finish c q.2
    else q.2.modIso c fun y => { y with rest := f.2, txSn := 1, fcBy := some (s.ticks + 1000000), block := none }

/-- The consecutive frames that are due: while no flow control is awaited, at most the block, STmin apart; a frame for which
the controller has no place yet waits. DESIGN CHOICE: notes/assumptions/43.md. -/
def consecutive (c : Nat) : Nat → State → State
  | 0, s => s
  | n + 1, s =>
    let x := s.isoTp c
    if x.item.isSome ∧ x.fcBy.isNone ∧ x.nextAt ≤ s.ticks then
      let k := room s c - 1
      let q := sendFrame c (BitVec.ofNat 8 (32 + x.txSn) :: x.rest.take k) s
      if q.1 then
        let rest := x.rest.drop k
        let left := x.block.map (· - 1)
        let s := q.2.modIso c fun y => { y with
          rest := rest, txSn := (x.txSn + 1) % 16, block := left, nextAt := s.ticks + x.stMin,
          fcBy := if left = some 0 ∧ rest ≠ [] then some (s.ticks + 1000000) else none }
        if rest = [] then finish c s else consecutive c n s
      else s
    else s

/-- The flow control that a channel owes is sent: in its own the module sends BS 0 and STmin 0 (R78). -/
def sendFlow (c : Nat) (s : State) : State :=
  if (s.isoTp c).owesFlow then
    let q := sendFrame c [0x30, 0, 0] s
    if q.1 then q.2.modIso c fun y => { y with owesFlow := false } else s
  else s

/-- A channel goes on: its flow control, its transfer in progress, and then the messages that wait. -/
def pump (c : Nat) : Nat → State → State
  | 0, s => s
  | n + 1, s =>
    let s := consecutive c ((s.isoTp c).rest.length + 1) (sendFlow c s)
    if (s.isoTp c).item.isSome ∨ (waiting s c).isNone then s else pump c n (begin_ c s)

/-- Every channel with something to send goes on. -/
def pumpAll (s : State) : State :=
  let l := (s.vault.flatMap (·.ports)).filterMap fun q => if 12 ≤ q then some (q - 12) else none
  let m := s.iso.filterMap fun p => if p.2.item.isSome ∨ p.2.owesFlow then some p.1 else none
  (l ++ m).eraseDups.foldl (fun s c => pump c (s.vault.length + 1) s) s

/-! ### Reception -/

/-- STmin in µs. -/
def stMin (b : Nat) : Nat := if b ≤ 127 then b * 1000 else if 0xF1 ≤ b ∧ b ≤ 0xF9 then (b - 0xF0) * 100 else 127000

/-- A flow control: continue to send, wait, or overflow. -/
def flowControl (c : Nat) (l : List Byte) (s : State) : State :=
  let x := s.isoTp c
  if x.item.isSome ∧ x.fcBy.isSome then
    match (l.getD 0 0).toNat % 16 with
    | 0 =>
      let bs := (l.getD 1 0).toNat
      s.modIso c fun y => { y with
        fcBy := none, block := if bs = 0 then none else some bs, stMin := stMin (l.getD 2 0).toNat, nextAt := s.ticks }
    | 1 => s.modIso c fun y => { y with fcBy := some (s.ticks + 1000000) }
    | _ => finish c s
  else s

/-- A frame of a channel: the octets of a message that it completes. A first frame is owed a flow control. -/
def receive (c : Nat) (l : List Byte) (s : State) : Option (List Byte) × State :=
  let b := (l.getD 0 0).toNat
  match b / 16 with
  | 0 =>
    let m := if b % 16 = 0 then (l.drop 2).take (l.getD 1 0).toNat else (l.drop 1).take (b % 16)
    (if m = [] then none else some m, s.modIso c fun x => { x with rxBy := none, got := [], need := 0 })
  | 1 =>
    let n := b % 16 * 256 + (l.getD 1 0).toNat
    (none, s.modIso c fun x => { x with
      need := n, got := l.drop 2, rxSn := 1, rxBy := some (s.ticks + 1000000), owesFlow := true })
  | 2 =>
    let x := s.isoTp c
    if x.rxBy.isSome ∧ b % 16 = x.rxSn then
      let got := (x.got ++ l.drop 1).take x.need
      if x.need ≤ got.length then (some got, s.modIso c fun y => { y with rxBy := none, got := [], need := 0 })
      else (none, s.modIso c fun y => { y with got := got, rxSn := (x.rxSn + 1) % 16, rxBy := some (s.ticks + 1000000) })
    else (none, s.modIso c fun y => { y with rxBy := none, got := [], need := 0 })
  | 3 => (none, flowControl c l s)
  | _ => (none, s)

/-- ISO_TP_TIMEOUT: N_Cr ends a reception, N_Bs a transmission. -/
def timeout (c : Nat) (receiving : Bool) (s : State) : State :=
  let x := s.isoTp c
  if receiving then
    (if x.rxBy.any (· ≤ s.ticks) then s.modIso c fun y => { y with rxBy := none, got := [], need := 0 } else s)
  else if x.fcBy.any (· ≤ s.ticks) then finish c s
  else s

/-- R408: transfers in progress on a controller are abandoned, and what waits for its channels is withdrawn with its transmit
queues. -/
def abandon (k : Nat) (s : State) : State :=
  let mine (q : Nat) : Bool := decide (12 ≤ q ∧ controller (q - 12) = k)
  let s := (s.vault.filter fun x => x.ports.any mine || x.sending.any mine).foldl (fun s x =>
    Switch.lost x (Vault.drop x.id s)) s
  { s with iso := s.iso.filter fun p => controller p.1 ≠ k }

/-- R100: what a session has on a channel is withdrawn: a transfer in progress ends, and its frames that wait for the bus go. -/
def withdraw (c j : Nat) (s : State) : State :=
  Bus.withdrawSession (controller c) j (if (s.isoTp c).session = some j then finish c s else s)

end Iso

end Sys2Proof.Machine
end

