-- ==== Sys2Proof/Machine/Sleep.lean ====
section
/-! DEFINITION. Partial networks, the tally ring, the seal, wake sources and waking (chapter 15, R419 to R439). -/

namespace Sys2Proof.Machine

/-- The state with the tally record changed. -/
def State.modTally (s : State) (f : Tally → Tally) : State := { s with tally := f s.tally }

namespace Sleep

/-! ### Segments (R419, R420) -/

/-- The partial network of a segment: 0 to 5 T1S, 6 to 21 CAN, 22 to 29 LIN (Table 15-7). -/
def network (s : State) (i : Nat) : Nat := s.rd 0x6802 (1 + i)

/-- Whether a segment belongs to a partial network of a mask. -/
def inMask (s : State) (m i : Nat) : Bool := decide (network s i < 8) && bitOf m (network s i)

/-- Whether a segment sleeps. -/
def asleep (s : State) (i : Nat) : Bool :=
  if i < 6 then (s.port (2 + i)).asleep else if i < 22 then (s.can (i - 6)).asleep else (s.lin (i - 22)).asleep

/-- SleepDiscards advanced. -/
def discard (n : Nat) (s : State) : State := s.incBy 0x6800 0x15 u32max n

/-- A T1S segment sleeps: its PHY stops, and its items are withdrawn. -/
def t1sSleep (k : Nat) (s : State) : State :=
  let p := 2 + k
  let l := s.vault.filter fun x => x.ports.contains p || x.sending.contains p
  let s := discard l.length (l.foldl (fun s x => Switch.lost x (Vault.leave x.id p s)) (Switch.noteReads s))
  s.modPort p fun r => { r with asleep := true, sending := none }

/-- A CAN controller sleeps at the end of an attempt in progress; what waits to be sent is withdrawn. -/
def canSleep (k : Nat) (s : State) : State :=
  let r := s.can k
  if r.attempt.isSome then s.modCan k fun r => { r with sleepAsked := true }
  else
    let l := r.txq.map (·.chain) ++ r.slots.filterMap fun p => p.2.map (·.item.chain)
    let n := (s.vault.filter fun x => x.ports.any fun q => decide (12 ≤ q ∧ Iso.controller (q - 12) = k)).length
    Iso.abandon k ((discard (l.length + n) (l.foldl (fun s c => Vault.free c s) s)).modCan k fun r => { r with
      txq := [], slots := [], asleep := true, sleepAsked := false })

/-- A LIN commander asks for its go-to-sleep frame, a responder enters bus sleep at once. A channel that is not Active has
nothing to send. -/
def linSleep (k : Nat) (s : State) : State :=
  if LinBus.commander s k then s.modLin k fun r => { r with sleepAsked := true, netSleep := true }
  else s.modLin k fun r => { r with busSleep := true, asleep := true, awaiting := none }

/-- A segment enters sleep; its function state and configuration stay. -/
def segment (i : Nat) (s : State) : State :=
  if asleep s i then s
  else if i < 6 then t1sSleep i s else if i < 22 then canSleep (i - 6) s else linSleep (i - 22) s

/-- The networks of a mask go to sleep; `all` puts the segments of no network to sleep as well (R419). -/
def networks (m : Nat) (all : Bool) (s : State) : State :=
  let s := (List.range 30).foldl (fun s i => if all || inMask s m i then segment i s else s) s
  s.modTally fun t => { t with sleeping := (List.range 8).foldl (fun a n => if bitOf m n then setBit a n true else a) t.sleeping }

/-- A segment that sleeps, or waits for its sleep, wakes (R435). -/
def wakeSegment (i : Nat) (s : State) : State :=
  if i < 6 then s.modPort (2 + i) fun r => { r with asleep := false }
  else if i < 22 then
    let k := i - 6
    let slept := (s.can k).asleep
    let s := s.modCan k fun r => { r with asleep := false, sleepAsked := false }
    if slept ∧ s.active ⟨6, k⟩ then Bus.enterActive k s else s
  else
    let k := i - 22
    let x := s.lin k
    if x.asleep then
      let s := s.modLin k fun r => { r with asleep := false, busSleep := false, sleepAsked := false, netSleep := false }
      if s.active ⟨7, k⟩ ∧ s.rd (0x6500 + k) 4 = 0 then
        (s.modLin k fun r => { r with table := r.resume, slot := 0, slotEnd := s.ticks + 100000 }).send (.linWake k)
      else s
    else if x.netSleep then s.modLin k fun r => { r with sleepAsked := false, netSleep := false }
    else s

/-- The networks of a mask wake; `all` wakes the segments of no network as well. -/
def wakeNetworks (m : Nat) (all : Bool) (s : State) : State :=
  let s := (List.range 30).foldl (fun s i =>
    if inMask s m i || (all && decide (8 ≤ network s i)) then wakeSegment i s else s) s
  s.modTally fun t => { t with sleeping := (List.range 8).foldl (fun a n => if bitOf m n then setBit a n false else a) t.sleeping }

/-! ### Messages (R422, R423) -/

/-- The octets of a tally message before its tag (Table 15-1). -/
def body (type : Nat) (m : TallyMsg) : List Byte :=
  octets 1 m.version ++ octets 1 type ++ octets 2 m.ring ++ octets 2 m.dest ++ octets 2 m.source ++ octets 2 m.round
    ++ octets 1 m.mask ++ octets 1 m.depth ++ octets 1 m.reason ++ octets 3 m.reserved ++ octets 8 m.sealEnd

/-- The tag of a message: the first 8 octets of its CMAC under TallyKey. -/
def tag (s : State) (type : Nat) (m : TallyMsg) : Nat := Config.cmac (s.rd 0x6800 9) (body type m) % 2 ^ 64

/-- A message passes its tag; none does while TallyKey is empty. -/
def tagOk (s : State) (type : Nat) (m : TallyMsg) : Bool := decide (s.rd 0x6800 9 ≠ 0 ∧ m.tag = tag s type m)

/-- NodeAddress. -/
def node (s : State) : Nat := s.rd 0x1180 1

/-- ParentRingId and OwnRingId. -/
def ring (s : State) (own : Bool) : Nat := s.rd 0x6800 (if own then 3 else 2)

/-- The Ethernet frame of a message (R423). DESIGN CHOICE: notes/assumptions/111.md. -/
def frame (s : State) (data : List Byte) : EthFrame :=
  { inPort := 9, dst := 2 ^ 48 - 1, src := Switch.entry s 9 4, vid := s.rd 0x6800 7, tagged := true, pcp := s.rd 0x6800 8,
    len := 68, etype := 0x88B6, data := data }

/-- A message is sent on P0 and P1; to a ring the module has not (Id 0) nothing is sent. -/
def send (own : Bool) (type dest round mask depth reason sealEnd : Nat) (s : State) : State :=
  if ring s own = 0 then s
  else
    let m : TallyMsg := { ring := ring s own, dest := dest, source := node s, round := round, mask := mask, depth := depth,
                          reason := reason, sealEnd := sealEnd, tag := 0 }
    let data := body type m ++ octets 8 (tag s type m)
    Switch.emit [0, 1] (s.rd 0x6800 8) (frame s data) (s.send (.tally mask data))

/-- R423: a received message is for this module. -/
def forUs (s : State) (m : TallyMsg) : Bool :=
  decide (m.version = 1 ∧ m.reserved = 0) && decide (m.ring ≠ 0 ∧ (m.ring = ring s true ∨ m.ring = ring s false))
    && decide (m.dest = 0 ∨ m.dest = node s)

/-- TALLY_AUTH: a failing tag is counted. -/
def authFailed (s : State) : State := Audit.raise 0x1702 (s.inc 0x6800 0x14)

/-- Reception of a message of a type: `f` is its effect where it is for this module and not stale.
DESIGN CHOICE: notes/assumptions/110.md. -/
def receive (type : Nat) (m : TallyMsg) (f : State → State) (s : State) : State :=
  if s.power < 2 then s
  else if !tagOk s type m then authFailed s
  else if forUs s m then f s
  else s

/-! ### Consent (R425, Table 15-4) -/

/-- The cells' applied commands allow a depth (reason 4). DESIGN CHOICE: notes/assumptions/117.md. -/
def outputsOk (s : State) (d : Nat) : Bool :=
  s.cells.all (fun p =>
    let a := Cells.applied p.2
    if d = 1 then decide (a = 0 ∨ a = 1 ∨ a = 2 ∨ a = 5) else decide (d = 0 ∨ a = 0 ∨ a = 5))
  && (decide (d ≠ 1) || (s.loops.all (fun p => decide (p.2.st ≠ 1 ∧ p.2.st ≠ 2))
        && s.coils.all fun p => !Coil.energised s (p.1 / 4) (p.1 % 4)))

/-- The conditions that a committed write shows at once: reasons 1, 3, 5, 6 and 7. -/
def standing (s : State) (m d : Nat) : Option Nat :=
  if (List.range 8).any fun n => s.rdBit 0x6800 0x0B n && bitOf m n then some 1
  else if 1 ≤ d ∧ (List.range 30).any fun i => decide (network s i < 8) && !bitOf m (network s i) then some 3
  else if 1 ≤ d ∧ (!(Teller.inFlight s.teller).isEmpty ∨ !s.teller.queue.isEmpty) then some 5
  else if !(Escrow.cellsOf s 0xF000).isEmpty ∨ !(Escrow.limpCells s).isEmpty then some 6
  else if d = 2 ∧ s.rd 0x7C00 1 = 5 then some 7
  else none

/-- The first condition that fails for a round, by its reason; none where the module consents. -/
def refusal (s : State) (m d : Nat) : Option Nat :=
  if (List.range 8).any fun n => s.rdBit 0x6800 0x0B n && bitOf m n then some 1
  else if s.tally.depth < d then some 2
  else if 1 ≤ d ∧ (List.range 30).any fun i => decide (network s i < 8) && !bitOf m (network s i) then some 3
  else if !outputsOk s d then some 4
  else match standing s m d with
    | some r => some r
    | none => if s.tally.latched.isSome then some 8 else none

/-! ### Ends of a round (R426, R427) -/

/-- LastRound and LastReason: outcomes 1 sealed, 2 refused, 3 aborted, 4 timed out, 5 seal missed.
DESIGN CHOICE: notes/assumptions/115.md. -/
def record (round mask depth outcome reason node : Nat) (s : State) : State :=
  (s.wr 0x6800 0x0D (round % 65536 + mask * 65536 + depth * 2 ^ 24 + outcome * 2 ^ 26)).wr 0x6800 0x0E (reason + node % 2 ^ 14 * 256)

/-- The module is no member of a parent ring: its PowerStateRequest starts rounds, and it retries them.
DEDUCED: notes/assumptions/113.md. -/
def root (s : State) : Bool := ring s false = 0

/-- A PowerStateRequest that still runs is answered (R72, R427). -/
def answer (st : Status) (s : State) : State :=
  if s.tally.requested then (s.wr 0x1300 2 st.code).modTally fun t => { t with requested := false } else s

/-- The start of a retry, drawn in whole ms from [RoundRetry, 1.5 × RoundRetry) after the end (R427).
DESIGN CHOICE: notes/assumptions/114.md. -/
def planRetry (s : State) : State :=
  if root s ∧ 1 ≤ s.tally.depth then
    let r := s.rd 0x6800 6
    let d := s.draw
    d.2.modTally fun t => { t with retryAt := some (s.ticks + (r + d.1 % max 1 ((r + 1) / 2)) * 1000) }
  else s

/-- The action that started a round of the module's own is answered as the round ends without a seal: RoundStart, or
PowerStateRequest, whose consent depth has the round retried (R424, R427). -/
def unsealed (started : Bool) (s : State) : State :=
  if started then s.wr 0x6800 0x0C Status.state.code else planRetry (answer .state s)

/-- A round of the module's own ring ends without a seal. -/
def endRound (outcome reason node : Nat) (s : State) : State :=
  match s.tally.run with
  | none => s
  | some r =>
    let s := record s.tally.ownRound r.mask r.depth outcome reason node s
    let s := if outcome = 2 then s.inc 0x6800 0x12 else if outcome = 3 then s.inc 0x6800 0x13 else s
    let s := s.modTally fun t => { t with run := none, bound := t.bound.filter fun b => !b.own }
    if r.child then s else unsealed r.started s

/-- The answer of a member to the CALL it has been called with: REFUSE. -/
def refuse (reason : Nat) (s : State) : State :=
  match s.tally.called with
  | none => s
  | some (round, mask, depth, steward) =>
    (send false 3 steward round mask depth reason 0 s).modTally fun t => { t with called := none }

/-- A member consents: it is bound from its CONSENT. -/
def consent (s : State) : State :=
  match s.tally.called with
  | none => s
  | some (round, mask, depth, steward) =>
    (send false 2 steward round mask depth 0 0 s).modTally fun t => { t with
      called := none,
      bound := some { own := false, round := round, mask := mask, depth := depth, at_ := s.ticks, node := steward } }

/-- Every member has consented: the seal is sent, or a member answers its CALL (R425, R426). -/
def allConsented (r : Round) (s : State) : State :=
  if r.child then consent (s.modTally fun t => { t with run := none })
  else
    let e := s.now + s.rd 0x6800 4 * 1000000
    let n := s.tally.ownRound
    let s := send true 4 0 n r.mask r.depth 0 e s
    let s := (record n r.mask r.depth 1 0 0 s).inc 0x6800 0x11
    let s := if r.started then s.wr 0x6800 0x0C Status.ok.code else s
    s.modTally fun t => { t with
      run := none, retryAt := if 1 ≤ r.depth then none else t.retryAt,
      bound := some { own := true, round := n, mask := r.mask, depth := r.depth, at_ := s.ticks, node := node s, sealEnd := some e,
                      started := r.started } }

/-- The next member is called, or the round is complete. -/
def next (s : State) : State :=
  match s.tally.run with
  | none => s
  | some r =>
    match r.left with
    | m :: _ => send true 1 m s.tally.ownRound r.mask r.depth 0 0 s
    | [] => allConsented r s

/-- The members of the module's own ring in order. -/
def members (s : State) : List Nat :=
  if ring s true = 0 then [] else ((List.range 16).map fun i => s.rd 0x6801 (1 + i)).filter (· ≠ 0)

/-- R424, R426, R429: a round of the module's own ring starts; the steward's own consent comes first, and it is bound from
its first CALL, in a child round too. -/
def start (mask depth : Nat) (child started : Bool) (s : State) : State :=
  let s := s.modTally fun t => { t with
    ownRound := (t.ownRound + 1) % 65536, retryAt := if started then t.retryAt else none,
    run := some { mask := mask, depth := depth, began := s.ticks, left := members s, child := child, started := started } }
  match refusal s mask depth with
  | some r =>
    let s := endRound 2 r 0 s
    if child then refuse r s else s
  | none =>
    let s := if members s = [] then s
      else s.modTally fun t => { t with
        bound := some { own := true, round := t.ownRound, mask := mask, depth := depth, at_ := s.ticks, node := node s,
                        started := started } }
    next s

/-! ### Answers to a steward -/

/-- A message answers the CALL that the steward waits on. -/
def answers (s : State) (m : TallyMsg) : Bool :=
  match s.tally.run with
  | some r => decide (m.ring = ring s true ∧ m.round = s.tally.ownRound) && decide (r.left.head? = some m.source)
  | none => false

/-- CONSENT (R426). -/
def onConsent (m : TallyMsg) (s : State) : State :=
  if answers s m then next (s.modTally fun t => { t with run := t.run.map fun r => { r with left := r.left.tail } }) else s

/-- A running round ends by a refusal or a timeout: ABORT with its reason, then the end; a child round makes the member
refuse. -/
def fail (outcome reason n childReason : Nat) (s : State) : State :=
  match s.tally.run with
  | none => s
  | some r =>
    let s := endRound outcome reason n (send true 5 0 s.tally.ownRound r.mask r.depth reason 0 s)
    if r.child then refuse childReason s else s

/-- REFUSE (R426). -/
def onRefuse (m : TallyMsg) (s : State) : State := if answers s m then fail 2 m.reason m.source 9 s else s

/-- ROUND_TIMEOUT (R426). -/
def timeout (s : State) : State :=
  match s.tally.run with
  | none => s
  | some r => if s.elapsed r.began (s.rd 0x6800 5 * 1000) then Audit.raise 0x1700 (fail 4 0x10 0 10 s) else s

/-- ROUND_RETRY (R427): a round with the mask of a request and the consent depth. -/
def retry (s : State) : State :=
  match s.tally.retryAt with
  | none => s
  | some t =>
    if t ≤ s.ticks ∧ s.tally.run.isNone ∧ s.tally.bound.isNone ∧ s.tally.entering.isNone ∧ 1 ≤ s.tally.depth then
      start 0xFF s.tally.depth false false ((s.wr 0x1300 2 Status.busy.code).modTally fun x => { x with requested := true, retryAt := none })
    else s

/-! ### The member's side (R424, R425, R428) -/

/-- How far a Round is ahead of the last one seen. -/
def ahead (s : State) (own : Bool) (n : Nat) : Nat :=
  (n + 65536 - (if own then s.tally.ownRound else s.tally.parentRound)) % 65536

/-- TALLY_CALL: a fresh CALL is answered at once, or after a round of the module's own ring.
DESIGN CHOICE: notes/assumptions/112.md. -/
def onCall (m : TallyMsg) (s : State) : State :=
  let a := ahead s false m.round
  if m.ring = ring s false ∧ 1 ≤ a ∧ a ≤ 32767 ∧ m.dest = node s then
    let s := s.modTally fun t => { t with parentRound := m.round, called := some (m.round, m.mask, m.depth, m.source) }
    match refusal s m.mask m.depth with
    | some r => refuse r s
    | none =>
      if members s = [] then consent s
      else if s.tally.run.isSome ∨ s.tally.bound.isSome then refuse 9 s
      else start m.mask m.depth true false s
  else s

/-- The round the module is bound to as a member of the parent ring. -/
def memberOf (s : State) (m : TallyMsg) : Option Bound :=
  s.tally.bound.filter fun b => !b.own && decide (m.ring = ring s false ∧ m.round = b.round)

/-- SEAL (R428): SealEnd as sent where module time is locked, otherwise the module's own SealTime from the receipt; the
module's own ring is sealed at the same instant. -/
def onSeal (m : TallyMsg) (s : State) : State :=
  match memberOf s m with
  | none => s
  | some b =>
    if b.sealEnd.isSome then s
    else
      let e := if s.rd 0x1200 3 = 2 then m.sealEnd else s.now + s.rd 0x6800 4 * 1000000
      let s := s.modTally fun t => { t with bound := some { b with sealEnd := some e } }
      if members s = [] then s
      else (record s.tally.ownRound b.mask b.depth 1 0 0 (send true 4 0 s.tally.ownRound b.mask b.depth 0 m.sealEnd s)).inc 0x6800 0x11

/-- SEAL_MISSED (R432): the member's PowerStateRequest ends as after an ABORT. DESIGN CHOICE: notes/assumptions/164.md. -/
def sealMissed (s : State) : State :=
  match s.tally.bound with
  | none => s
  | some b =>
    if !b.own ∧ b.sealEnd.isNone ∧ s.elapsed b.at_ (s.rd 0x6800 5 * 1000) then
      let s := record b.round b.mask b.depth 5 0 0 s
      answer .state (Audit.raise 0x1701 (s.modTally fun t => { t with bound := none }))
    else s

/-! ### The seal (R431, R532) -/

/-- SealEnd has been reached. -/
def sealed (s : State) : Bool := s.tally.bound.any fun b => b.sealEnd.any (· ≤ s.now)

/-- SEAL_END: the segments of the mask sleep; for Standby or Sleep the uplinks are asked to sleep and the entry begins. -/
def sealEnd (s : State) : State :=
  match s.tally.bound with
  | none => s
  | some b =>
    if sealed s then
      let s := networks b.mask (decide (1 ≤ b.depth)) s
      let s := s.modTally fun t => { t with bound := none, entering := some b.depth }
      if b.depth = 0 then s
      else
        let up := (List.range 2).filter fun p => (s.port p).link
        let s := (List.range 2).foldl (fun s p => (s.modPort p fun r => { r with asleep := true }).send (.tc10 p false)) s
        s.modTally fun t => { t with tc10 := up.map fun p => (p, s.ticks) }
    else s

/-- TC10_SLEEP_TIMEOUT: a partner has not acknowledged within 10 ms. DESIGN CHOICE: notes/assumptions/124.md. -/
def tc10Timeout (p : Nat) (s : State) : State :=
  if (s.tally.tc10.any fun x => decide (x.1 = p) && s.elapsed x.2 10000) && (s.port p).link then
    Audit.raise 0x1704 ((Switch.dropLink p s).modTally fun t => { t with tc10 := t.tc10.filter (·.1 ≠ p) })
  else s

/-! ### Wakes (R430, R431, R433, R435) -/

/-- The wake record (Table 15-9). -/
def latchRecord (w : Wakeup) (s : State) : State :=
  Audit.raise 0x1703 ((((s.wr 0x6805 1 (w.inst + w.kind * 256)).wr 0x6805 2 w.time).wr 0x6805 3 w.nets).inc 0x6805 4)

/-- WAKE is sent to the rings of the module as soon as an uplink has link. -/
def sendWake (nets : Nat) (s : State) : State :=
  if (s.port 0).link ∨ (s.port 1).link then
    (send true 6 0 s.tally.ownRound nets 0 0 0 (send false 6 0 s.tally.parentRound nets 0 0 0 s)).modTally fun t => { t with owed := 0 }
  else s.modTally fun t => { t with owed := (List.range 8).foldl (fun a n => if bitOf nets n then setBit a n true else a) t.owed }

/-- A wake is served: its networks wake, and the module enters Run. DESIGN CHOICE: notes/assumptions/123.md. -/
def serve (w : Wakeup) (tell : Bool) (s : State) : State :=
  let standby := decide (s.power = 2)
  let s := wakeNetworks w.nets standby s
  let s := if standby then
      { ((List.range 2).foldl (fun s p => (s.modPort p fun r => { r with asleep := false }).send (.tc10 p true)) s) with power := 3 }
    else s
  if tell then sendWake w.nets s else s

/-- The round the module has consented to ends by a wake or an ABORT: it returns to Awake, tells its rings, and a steward
records ABORTED (R430); the parent ring of an aborted child round is refused with CHILD (R425). `from_` names the ring the ABORT came from, none for a wake of its own. -/
def abort (reason n : Nat) (from_ : Option Bool) (s : State) : State :=
  match s.tally.bound with
  | none => s
  | some b =>
    let s := if from_ = some b.own then s else send b.own 5 0 b.round b.mask b.depth reason 0 s
    if b.own then
      let s := record b.round b.mask b.depth 3 reason n (s.inc 0x6800 0x13)
      let started := b.started
      let child := s.tally.run.any (·.child)
      let s := s.modTally fun t => { t with bound := none, run := none }
      if child then refuse 9 s else unsealed started s
    else
      let nested := !(members s).isEmpty
      let s := if nested ∧ from_ ≠ some true then send true 5 0 s.tally.ownRound b.mask b.depth reason 0 s else s
      let s := if nested then record s.tally.ownRound b.mask b.depth 3 reason n (s.inc 0x6800 0x13) else s
      answer .state (s.modTally fun t => { t with bound := none })

/-- A wake is latched; of several, the first is kept with the networks of them all, for none is lost (R431).
DESIGN CHOICE: notes/assumptions/173.md. -/
def latch (w : Wakeup) (s : State) : State :=
  s.modTally fun t => { t with latched := some (t.latched.elim w fun x => { x with
    nets := (List.range 8).foldl (fun a n => if bitOf w.nets n then setBit a n true else a) x.nets }) }

/-- A wake latched in Sleep has AON ask the uplinks to wake and drive WAKE_OUT for its pulse (R435). -/
def aonWake (s : State) : State :=
  let s := (List.range 2).foldl (fun s p => s.send (.tc10 p true)) s
  let v := s.rd 0x6804 0x1A
  if bitOf v 0 then s.modTally fun t => { t with wakeOut := some (s.ticks + field v 1 10 * 1000) } else s

/-- A wake that counts: latched and served by what the module is doing (R430, R431, R533). In Sleep it waits for the
start. DESIGN CHOICE: notes/assumptions/122.md. -/
def wake (w : Wakeup) (s : State) : State :=
  let s := sealEnd s
  if s.power = 1 then latch w (if s.tally.latched.isSome then s else aonWake s)
  else
    let s := latchRecord w s
    if s.tally.entering.isSome then latch w s else serve w true (abort (0x20 + w.kind) (node s) none s)

/-- Where the columns of Table 15-3 stand: 0 Run without consent, 1 before the seal, 2 Standby or its entry, 3 Sleep or its
entry. DEDUCED: notes/assumptions/119.md. -/
def column (s : State) : Nat :=
  if s.power = 1 then 3
  else if s.power = 2 then 2
  else match s.tally.entering with
    | some 2 => 3
    | some 1 => 2
    | _ =>
      match s.tally.bound with
      | some b => if sealed s then (if b.depth = 2 then 3 else if b.depth = 1 then 2 else 0) else 1
      | none => 0

/-- The networks that a segment's wake or a local wake names: its own and LocalWakeNetworks. -/
def nets (s : State) (i : Option Nat) : Nat :=
  let l := s.rd 0x6800 0x10
  match i with
  | some i => if network s i < 8 then setBit l (network s i) true else l
  | none => l

/-- A wake of a kind and instance at this instant. -/
def signal (kind inst nets : Nat) (s : State) : State := wake { kind := kind, inst := inst, nets := nets, time := s.now } s

/-- The mask of the round the module is bound to. -/
def boundMask (s : State) : Nat := s.tally.bound.elim 0 (·.mask)

/-- Kinds 1, 2 and 9: before the seal, in Standby and in Sleep. -/
def localSource (kind inst : Nat) (s : State) : State :=
  if 1 ≤ column s then signal kind inst (nets s none) s else s

/-- R433, kind 1: an accepted level of an enabled wake input that matches its Edge. -/
def inputAccepted (n : Nat) (rising : Bool) (s : State) : State :=
  let v := Inputs.wakeCfg s n
  let e := field v 1 2
  if n < 64 ∧ bitOf v 0 ∧ (e = 0 ∨ (e = 1 ∧ rising) ∨ (e = 2 ∧ !rising)) ∧ column s ≠ 3 then localSource 1 n s else s

/-- CAN_WAKE_PATTERN (kind 3). DEDUCED: notes/assumptions/120.md. -/
def canPattern (k : Nat) (s : State) : State :=
  let i := 6 + k
  let c := column s
  if s.rd 0x6803 (1 + k) ≠ 0 ∧ (if c = 3 then decide (k < 4) else if c = 2 then true else asleep s i) then
    signal 3 k (nets s (some i)) s
  else s

/-- R434: a classical frame matches the filter of a controller. -/
def frameMatches (s : State) (k : Nat) (f : CanFrame) : Bool :=
  let id := f.ident + b01 f.ext * 2 ^ 29
  let m := s.rd 0x6803 (0x15 + k)
  let d := s.rd 0x6803 (0x19 + k)
  decide (f.format = 0) && ((List.range 30).all fun b => !bitOf m b || decide (bitOf id b = bitOf (s.rd 0x6803 (0x11 + k)) b))
    && decide (f.data.length = d)
    && (decide (d = 0) || (List.range 64).any fun b => bitOf (leNat f.data) b && s.rdBit 0x6803 (0x1D + k) b)

/-- CAN_WAKE_FRAME (kind 4): a correct frame lowers FrameErrorCount; it wakes where it matches. -/
def canFrame (k : Nat) (f : CanFrame) (s : State) : State :=
  let i := 6 + k
  let c := column s
  if s.rd 0x6803 (1 + k) = 2 then
    let s := if f.format = 0 then s.wr 0x6803 (0x21 + k) (s.rd 0x6803 (0x21 + k) - 1) else s
    if frameMatches s k f ∧ (if c = 1 then inMask s (boundMask s) i || asleep s i else decide (2 ≤ c) || asleep s i) then
      signal 4 k (nets s (some i)) s
    else s
  else s

/-- CAN_FRAME_ERRORS (kind 5): one erroneous frame; the wake occurs when the count reaches 32.
DESIGN CHOICE: notes/assumptions/121.md. -/
def canErrors (k : Nat) (s : State) : State :=
  let i := 6 + k
  if s.rd 0x6803 (1 + k) = 2 ∧ (2 ≤ column s ∨ asleep s i) then
    let n := min 255 (s.rd 0x6803 (0x21 + k) + 1)
    let s := s.wr 0x6803 (0x21 + k) n
    if n = 32 then signal 5 k (nets s (some i)) (Audit.raise (0x1710 + k) s) else s
  else s

/-- LIN_WAKE_SIGNAL (kind 6). -/
def linSignal (k : Nat) (s : State) : State :=
  let i := 22 + k
  let c := column s
  if s.rd 0x6804 (1 + k) = 1 ∧ (if c = 1 then inMask s (boundMask s) i || asleep s i else decide (c = 2) || (decide (c = 0) && asleep s i)) then
    signal 6 k (nets s (some i)) s
  else s

/-- T1S_ACTIVITY (kind 7). -/
def t1sActivity (k : Nat) (s : State) : State :=
  let c := column s
  if s.rd 0x6804 (9 + k) = 1 ∧ (c = 2 ∨ (c < 2 ∧ asleep s k)) then signal 7 k (nets s (some k)) s else s

/-- TC10_WAKE_REQUEST (kind 8). -/
def tc10Wake (p : Nat) (s : State) : State :=
  if s.rdBit 0x6804 0x10 p ∧ 2 ≤ column s then signal 8 p (nets s none) s else s

/-- WAKE_ALARM (kind 9): module time has reached WakeAlarm, which then reads 0. -/
def alarm (s : State) : State :=
  let t := s.rd 0x6804 0x19
  if t ≠ 0 ∧ t ≤ s.now then localSource 9 0 (s.wr 0x6804 0x19 0) else s

/-- SERVICE_LINK_WAKE (kind 12): a link on P8 in Standby. -/
def serviceLink (s : State) : State :=
  let s := s.modPort 8 fun r => { r with link := true }
  if column s = 2 then signal 12 0 (nets s none) s else s

/-- One reading of a handle input, in 0.1 pF, against its baseline: true where Confirm consecutive readings lie above the baseline
by Threshold. While none does, the baseline follows the readings with a time constant of 10 s (R434).
DESIGN CHOICE: notes/assumptions/125.md. -/
def capPoll (i r : Nat) (s : State) : Bool × State :=
  let v := s.rd 0x6804 (0x11 + i)
  let x := Map.get {} s.caps i
  let base := x.base.getD (r * 1000)
  let period := match field v 10 2 with
    | 0 => 10 | 1 => 20 | 2 => 50 | _ => 100
  let y : CapInput := if base + field v 1 7 * 1000 ≤ r * 1000 then { base := some base, run := x.run + 1 }
    else { base := some ((base * (10000 - period) + r * 1000 * period) / 10000) }
  (decide (y.run = field v 8 2 + 1), { s with caps := Map.put {} s.caps i y })

/-- HANDLE_TOUCH (kind 2): an enabled handle input. DESIGN CHOICE: notes/assumptions/125.md. -/
def handle (i : Nat) (s : State) : State := if s.rdBit 0x6804 (0x11 + i) 0 then localSource 2 i s else s

/-- ABORT (R430, R431): of the round the module has consented to, or late, which is a wake of kind 10. -/
def onAbort (m : TallyMsg) (s : State) : State :=
  match s.tally.bound with
  | none =>
    if s.tally.entering.isSome ∧ (m.round = s.tally.parentRound ∧ m.ring = ring s false ∨ m.round = s.tally.ownRound ∧ m.ring = ring s true) then
      signal 10 0 0xFF s
    else s
  | some b =>
    let onOwn := decide (m.ring = ring s true ∧ m.round = s.tally.ownRound)
    let onParent := decide (!b.own ∧ m.ring = ring s false ∧ m.round = b.round)
    if onOwn ∨ onParent then
      if sealed s then signal 10 0 0xFF s else abort m.reason m.source (some onOwn) s
    else s

/-- WAKE (R436): the sleeping networks of the mask wake, or the module does; it is relayed only where something woke. -/
def onWake (m : TallyMsg) (s : State) : State :=
  let own := decide (m.ring = ring s true)
  if 32768 ≤ ahead s own m.round then s
  else
    let s := if own then s else s.modTally fun t => { t with parentRound := m.round }
    let woke := decide (s.power = 2) || (List.range 8).any fun n => bitOf m.mask n && bitOf s.tally.sleeping n
    let w : Wakeup := { kind := 10, inst := 0, nets := m.mask, time := s.now }
    let s := sealEnd s
    if s.tally.entering.isSome then wake w s
    else if s.tally.bound.isSome ∨ woke then
      let s := serve w false (abort 0x2A (node s) none (latchRecord w s))
      if woke then send (!own) 6 0 (if own then s.tally.parentRound else s.tally.ownRound) m.mask 0 0 0 s else s
    else s

/-- LINK_UP: an owed WAKE is sent, and an uplink that has come up is no longer asked to sleep. -/
def linkUp (p : Nat) (s : State) : State :=
  if p < 2 ∧ s.tally.owed ≠ 0 then sendWake s.tally.owed s else s

/-! ### Requests and entries (R421, R424, R427, R531) -/

/-- The status of a PowerStateRequest (R72, R424). -/
def requestStatus (s : State) (v : Nat) : Status :=
  if v = 0 ∨ 4 ≤ v then .range
  else if v ≠ 3 ∧ (s.rd 0x1300 2 = Status.busy.code ∨ s.tally.run.isSome ∨ (root s ∧ (s.tally.bound.isSome ∨ s.tally.entering.isSome))) then .busy
  else .ok

/-- A committed PowerStateRequest (R424). DESIGN CHOICE: notes/assumptions/174.md. -/
def request (v : Nat) (s : State) : State :=
  if v = 3 then
    let s := s.modTally fun t => { t with depth := 0, retryAt := none }
    let s := if s.tally.requested then s.modTally fun t => { t with requested := false } else s
    let s := s.wr 0x1300 2 Status.ok.code
    if s.tally.bound.isSome then signal 11 0 (boundMask s) s
    else if s.power = 2 ∨ s.tally.entering.isSome then signal 11 0 0xFF s
    else s
  else
    let d := if v = 1 then 2 else 1
    let s := (s.wr 0x1300 2 Status.busy.code).modTally fun t => { t with depth := d, requested := true }
    if root s then start 0xFF d false false s else s

/-- The status of a RoundStart (R424). DESIGN CHOICE: notes/assumptions/116.md. -/
def roundStatus (s : State) : Status :=
  if s.tally.run.isSome ∨ s.tally.bound.isSome ∨ s.tally.entering.isSome then .busy else .ok

/-- A committed RoundStart. -/
def roundStart (v : Nat) (s : State) : State :=
  start (field v 0 8) (field v 8 2) false true (s.wr 0x6800 0x0C Status.busy.code)

/-- A committed KeepAwake: a bit set for a sleeping network wakes it; a bit in the mask of the present round ends it. -/
def keepAwake (old : Nat) (s : State) : State :=
  let v := s.rd 0x6800 0x0B
  let fresh := (List.range 8).foldl (fun a n => if bitOf v n && !bitOf old n then setBit a n true else a) 0
  let sleepy := (List.range 8).foldl (fun a n => if bitOf fresh n && bitOf s.tally.sleeping n then setBit a n true else a) 0
  if sleepy ≠ 0 then signal 11 0 sleepy s
  else if (List.range 8).any fun n => bitOf fresh n && bitOf (boundMask s) n then signal 11 0 fresh s
  else s

/-- A write that itself asks an output to do what a depth does not allow: a cell command, EngineControl Run, a coil
Energise (Table 15-4, reason 4). -/
def turnsOn (d : Nat) (x : Nat × Nat × Nat) : Bool :=
  let (i, j, v) := x
  decide (1 ≤ d) &&
    ((decide (0x4000 ≤ i ∧ i < 0x4200 ∧ j = 3) && !(if d = 1 then [0, 1, 2, 5].contains v else [0, 5].contains v))
      || decide (0x4D00 ≤ i ∧ i < 0x4D30 ∧ j = 0x0C ∧ v = 1)
      || decide (0x4C00 ≤ i ∧ i < 0x4C40 ∧ 0x10 ≤ j ∧ (j - 0x10) % 0x30 = 0x18 ∧ v = 1))

/-- R427, R531: after a commit of writes (index, sub-index, value), one that breaks a condition of the round the module is
bound to, or in Standby of depth 1 with the networks that sleep, is a wake of kind 11. `before` is what failed before the commit.
DEDUCED: notes/assumptions/118.md. -/
def afterCommit (before : Option Nat) (l : List (Nat × Nat × Nat)) (s : State) : State :=
  let md : Option (Nat × Nat) :=
    match s.tally.bound with
    | some b => some (b.mask, b.depth)
    | none => match s.tally.entering with
      | some (d + 1) => some (s.tally.sleeping, d + 1)
      | _ => if s.power = 2 then some (s.tally.sleeping, 1) else none
  match md with
  | none => s
  | some (m, d) =>
    if l.any (turnsOn d) ∨ ((standing s m d).isSome ∧ before.isNone) then signal 11 0 m s else s

/-- What `afterCommit` compares with: the standing conditions before the commit. -/
def beforeCommit (s : State) : Option Nat :=
  match s.tally.bound with
  | some b => standing s b.mask b.depth
  | none => match s.tally.entering with
    | some (d + 1) => standing s s.tally.sleeping (d + 1)
    | _ => if s.power = 2 then standing s s.tally.sleeping 1 else none

/-- TallyState (Table 15-7). -/
def tallyState (s : State) : Nat :=
  if s.tally.entering.isSome then 4
  else match s.tally.bound with
    | some b => if b.sealEnd.isSome then 3 else if s.tally.called.isSome then 1 else 2
    | none => if s.tally.called.isSome then 1 else 0

/-- WAKE_OUT_PULSE_END. -/
def pulseEnd (s : State) : State :=
  match s.tally.wakeOut with
  | some t => if t ≤ s.ticks then s.modTally fun x => { x with wakeOut := none } else s
  | none => s

/-- CountersClear of group 0x6800. -/
def clearCounters (s : State) : State := s.zero ((List.range 5).map fun j => (0x6800, 0x11 + j))

end Sleep

end Sys2Proof.Machine
end

