-- ==== Sys2Proof/Machine/Access.lean ====
section
/-! DEFINITION. The access and immobiliser engine: requests, polls, exchanges, distance, outcomes, lock-out, token memory and
enrolment (chapter 16, R440 to R460). -/

namespace Sys2Proof.Machine

/-- The state with the access engine's record changed. -/
def State.modAccess (s : State) (f : AccessEng → AccessEng) : State := { s with access := f s.access }

namespace Access

/-! ### Configuration (Tables 16-5 to 16-7) -/

/-- The engine is fitted and Active. -/
def up (s : State) : Bool := s.ca && s.active ⟨0x0A, 0⟩

/-- ZoneConfig. -/
def zone (s : State) (z : Nat) : Nat := s.rd (0x7020 + z) 1

/-- A zone's anchor, antenna and handle input; whether it is an interior zone. -/
def anchorOf (s : State) (z : Nat) : Nat := field (zone s z) 8 3
/-- LfAntenna of a zone. -/
def antennaOf (s : State) (z : Nat) : Nat := field (zone s z) 6 2
/-- Kind 1: an interior zone. -/
def interior (s : State) (z : Nat) : Bool := bitOf (zone s z) 1

/-- The radius of a zone in mm (R448). -/
def radius (s : State) (z : Nat) : Nat :=
  let r := s.rd (0x7020 + z) 2
  if r ≠ 0 then r else if interior s z then 1000 else 2000

/-- AnchorSegment: the T1S segment of the anchors. -/
def segment (s : State) : Nat := s.rd 0x7000 7

/-- AnchorStatus Present. -/
def present (s : State) (a : Nat) : Bool := (Map.get none s.access.present a).isSome

/-- The anchor segment is awake. -/
def awake (s : State) : Bool := !Sleep.asleep s (segment s)

/-- The slot of an enrolled TokenId. -/
def tokenOf (s : State) (id : Nat) : Option Nat :=
  (List.range 16).find? fun t => decide (s.rd (0x7010 + t) 2 = 1 ∧ s.rd (0x7010 + t) 1 = id)

/-- ActiveTokens. -/
def tokens (s : State) : Nat := (List.range 16).countP fun t => decide (s.rd (0x7010 + t) 2 = 1)

/-- The key of a token slot. -/
def key (s : State) (t : Nat) : Nat := Map.get 0 s.access.keys t

/-- CMAC: AES-128 CMAC truncated to its first 8 octets (R443). -/
def mac (k : Nat) (l : List Byte) : Nat := Config.cmac k l % 2 ^ 64

/-- A lock-out is in force (R451). -/
def locked (s : State) : Bool := s.access.lockedTill.any fun t => decide (s.ticks < t)

/-- RecentFailures: failed attempts of the open window. -/
def recent (s : State) : Nat := if locked s then 0 else s.access.failures.countP fun t => decide (s.ticks < t + 60000000)

/-! ### Frames to anchors (R441, Table 16-1) -/

/-- A UWB payload leaves through an anchor: a TX frame on the anchor segment's port. When to send it, in anchor time, is
open. -/
def transmit (a sts : Nat) (flags : Nat) (payload : List Byte) (s : State) : State :=
  let t := s.open_
  let s := t.2
  let data := octets 1 1 ++ octets 1 (s.rd (0x7040 + a) 1) ++ octets 1 1 ++ octets 1 flags ++ octets 5 t.1 ++ octets 1 sts
    ++ octets 2 payload.length ++ payload
  Switch.emit [2 + segment s] 6
    { inPort := 9, dst := 2 ^ 48 - 1, src := Switch.entry s 9 4, len := max 64 (data.length + 18), etype := 0x88B7, data := data }
    (s.send (.anchor a data))

/-- The present request changed. -/
def modRun (f : AccessRun → AccessRun) (s : State) : State := s.modAccess fun a => { a with run := a.run.map f }

/-! ### The end of a request (R449, R459) -/

/-- The octets of LastResult (R459). -/
def result (outcome zone slot polls d time proof pollId : Nat) : Nat :=
  leNat (octets 1 outcome ++ octets 1 zone ++ octets 1 slot ++ octets 1 polls ++ octets 2 d ++ octets 2 0 ++ octets 8 time
    ++ octets 8 proof ++ octets 4 pollId ++ octets 4 0)

/-- The key that is served: the shortest distance, then the lowest slot (R448). -/
def served (l : List (Nat × Nat × Nat)) : Option (Nat × Nat × Nat) :=
  l.foldl (fun b x => match b with
    | none => some x
    | some y => if x.1 < y.1 ∨ (x.1 = y.1 ∧ x.2.1 < y.2.1) then some x else b) none

/-- A request ends: LastResult is written and the command's action is OK. -/
def finish (outcome : Nat) (s : State) : State :=
  match s.access.run with
  | none => s
  | some r =>
    let k := if outcome = 1 then served r.qualified else none
    let t := k.elim 0xFF (·.2.1)
    let id := k.elim 0 fun x => s.rd (0x7010 + x.2.1) 1
    let proof := if outcome = 1 ∧ interior s r.zone then
        mac (s.rd 0x7000 0x0F) (octets 1 0x49 ++ octets 4 r.pollId ++ octets 8 id ++ octets 8 s.now) else 0
    let s := s.wr 0x7000 5 (result outcome r.zone t r.polls (k.elim 0xFFFF (·.1)) s.now proof r.pollId)
    let s := match k with
      | some (_, t, ks) =>
        ((((s.inc 0x7000 0x1A).wr (0x7010 + t) 5 s.now).inc (0x7010 + t) 7)).modAccess fun a => { a with
          grants := Map.put none a.grants t (some { at_ := s.ticks, ks := ks, zone := r.zone }) }
      | none => s
    let s := if outcome = 3 then Audit.raise 0x1802 s else s
    let s := if r.command then s.wr 0x7000 4 Status.ok.code else s
    s.modAccess fun a => { a with run := none }

/-- The outcome of a request whose polls and exchanges are done: the first of Table 16-3 that holds. -/
def conclude (s : State) : State :=
  match s.access.run with
  | none => s
  | some r =>
    finish (if r.qualified ≠ [] then 1 else if r.beyond then 5 else if r.noRight then 8 else if r.failed then 4
      else if r.collided ≠ [] ∧ !r.hadSingle then 3 else 2) s

/-! ### Polls (R443 to R445, R452) -/

/-- The loan of the next burst is requested (R452); `commit` says that the commit of AccessRequest raises it (R201). -/
def askLoan (commit : Bool) (s : State) : State :=
  match s.access.run with
  | none => s
  | some r =>
    Teller.ask (Teller.logicLoan s (0x1100 + antennaOf s r.zone) 8 (s.rd 0x7000 9) 21000 (s.rd 0x4A07 3)) commit
      (modRun (fun r => { r with step := .loan, replies := [], collided := [] }) s)

/-- A granted loan starts a burst: a poll with a new PollId. -/
def granted (s : State) : State :=
  match s.access.run with
  | none => s
  | some r =>
    let d := s.draw
    let id := d.1 % 2 ^ 32
    let body := octets 2 (s.rd 0x7000 6) ++ octets 4 id ++ octets 1 r.zone
    let data := octets 2 0x96A5 ++ body ++ octets 1 (crc8J1850 body)
    modRun (fun r => { r with step := .burst s.ticks, polls := r.polls + 1, pollId := id })
      ((d.2.inc 0x7000 0x16).send (.lf (antennaOf s r.zone) data))

/-- A declined loan ends the request. -/
def declined (s : State) : State := finish 6 s

/-- LF_BURST_END: the loan returns, the reply slots begin, and the antenna current is judged (R452). -/
def burstEnd (a milliamps : Nat) (s : State) : State :=
  match s.access.run with
  | some r =>
    match r.step with
    | .burst t =>
      if antennaOf s r.zone = a ∧ s.elapsed t 20480 then
        let weak := decide (milliamps * 2 < s.rd 0x7000 9)
        let s := Teller.giveBack (0x1100 + a) s
        let s := Audit.raiseIf weak (0x1810 + a) s
        let s := s.modAccess fun x => { x with lfWeak := if weak then a :: x.lfWeak.erase a else x.lfWeak.erase a }
        modRun (fun r => { r with step := .replies s.ticks }) s
      else s
    | _ => s
  | none => s

/-- A request runs once its segment is awake; the zone's anchor must be present (R442, R449). A request that waits for the
segment goes on when the anchor's STATUS frames arrive. -/
def proceed (commit : Bool) (s : State) : State :=
  match s.access.run with
  | some r =>
    match r.step with
    | .waking t => if s.ticks < t ∧ awake s ∧ present s (anchorOf s r.zone) then askLoan commit s else s
    | _ => s
  | none => s

/-- A request starts on a zone (R442). DESIGN CHOICE: notes/assumptions/130.md. -/
def start (z : Nat) (command : Bool) (s : State) : State :=
  let s := (s.inc 0x7000 0x15).modAccess fun a => { a with
    run := some { zone := z, command := command, step := .waking (s.ticks + 200000) } }
  if locked s then finish 7 s
  else if awake s ∧ !present s (anchorOf s z) then finish 9 s
  else proceed command s

/-- ANCHOR_WAKE_TIMEOUT: the segment has not woken within 200 ms. -/
def wakeTimeout (s : State) : State :=
  match s.access.run with
  | some r =>
    match r.step with
    | .waking t => if t ≤ s.ticks then finish 9 s else s
    | _ => s
  | none => s

/-- The zones that a touch on a handle input starts, in order. -/
def zonesOf (s : State) (i : Nat) : List Nat :=
  (List.range 8).filter fun z => bitOf (zone s z) 0 && bitOf (zone s z) 5 && decide (field (zone s z) 2 3 = i)

/-- A touch counts in Run while the engine is Active, and in Standby and Sleep where the handle input is armed (R434, R442). -/
def touchCounts (i : Nat) (s : State) : Bool :=
  s.ca && (if s.power = 3 then up s else decide (s.power = 1 ∨ s.power = 2) && s.rdBit 0x6804 (0x11 + i) 0)

/-- HANDLE_TOUCH: a touch is latched, one for each input; without an engine it starts nothing (R442). -/
def touch (i : Nat) (s : State) : State :=
  if touchCounts i s ∧ s.access.touches.all (·.1 ≠ i) then
    s.modAccess fun a => { a with touches := a.touches ++ [(i, s.ticks)] }
  else s

/-- The pending touch that comes next: of the earliest time, then of the lowest zone. -/
def nextTouch (s : State) : Option (Nat × Nat × Nat) :=
  s.access.touches.foldl (fun b x =>
    match zonesOf s x.1, b with
    | [], _ => b
    | z :: _, none => some (x.1, x.2, z)
    | z :: _, some y => if x.2 < y.2.1 ∨ (x.2 = y.2.1 ∧ z < y.2.2) then some (x.1, x.2, z) else b) none

/-- What the engine does by itself at once: a waiting request goes on, a pending touch is served. -/
def poll (s : State) : State :=
  let s := proceed false s
  if up s ∧ s.access.run.isNone ∧ !s.access.resetting then
    match nextTouch s with
    | some (i, _, z) => start z false (s.modAccess fun a => { a with touches := a.touches.filter (·.1 ≠ i) })
    | none => if s.access.touches.isEmpty then s else s.modAccess fun a => { a with touches := [] }
  else s

/-! ### Exchanges (R443, R446 to R448, R450, R451) -/

/-- The next exchange begins with its CHALLENGE, or the request concludes. -/
def nextExchange (s : State) : State :=
  match s.access.run with
  | none => s
  | some r =>
    match r.left with
    | [] => conclude s
    | k :: rest =>
      let d := s.draw
      let nm := d.1 % 2 ^ 64
      let id := s.rd (0x7010 + k.token) 1
      let pm := mac (key s k.token) (octets 1 0x43 ++ octets 4 r.pollId ++ octets 8 k.nt ++ octets 8 nm ++ octets 8 id)
      transmit (anchorOf s r.zone) 0 0 (octets 8 nm ++ octets 8 pm)
        (modRun (fun r => { r with left := rest, step := .exchanging { key := k, nm := nm, at_ := s.ticks } }) d.2)

/-- The reply slot of a tick, counted from E (R444). DESIGN CHOICE: notes/assumptions/126.md. -/
def slotAt (e t : Nat) : Option Nat := if e + 1000 ≤ t ∧ t < e + 9000 then some ((t - e - 1000) / 1000) else none

/-- An RX frame in a reply slot: a reply that passes its frame check, or a collision. -/
def reply (e : Nat) (f : AnchorFrame) (s : State) : State :=
  match slotAt e s.ticks with
  | none => s
  | some i =>
    if bitOf f.flags 1 ∨ bitOf f.flags 2 then modRun (fun r => { r with collided := i :: r.collided.erase i }) s
    else if f.payload.length = 16 then
      match tokenOf s (leNat (f.payload.take 8)) with
      | some t => modRun (fun r => { r with replies := r.replies ++ [{ slot := i, token := t, nt := leNat (f.payload.drop 8) }] }) s
      | none => s
    else s

/-- The Single replies of a poll in slot order: one reply in a slot without a collision. -/
def singles (r : AccessRun) : List KeyReply :=
  (List.range 8).filterMap fun i =>
    if r.collided.contains i then none
    else match r.replies.filter (·.slot = i) with
      | [k] => some k
      | _ => none

/-- REPLY_PHASE_END: another poll after a collision, at most four, then the exchanges (R445). -/
def phaseEnd (s : State) : State :=
  match s.access.run with
  | some r =>
    match r.step with
    | .replies e =>
      if s.elapsed e 9000 then
        let s := s.incBy 0x7000 0x17 u32max r.collided.length
        if r.collided ≠ [] ∧ r.polls < 4 then askLoan false s
        else nextExchange (modRun (fun r => { r with left := singles r, hadSingle := decide (singles r ≠ []) }) s)
      else s
    | _ => s
  | none => s

/-- R450, R451: a failed attempt; the fifth within 60 s begins the lock-out and ends the request with LOCKED. -/
def failedAttempt (s : State) : State :=
  let s := Audit.raise 0x1800 (s.inc 0x7000 0x18)
  let l := s.ticks :: s.access.failures.filter fun t => decide (s.ticks < t + 60000000)
  let s := modRun (fun r => { r with failed := true }) (s.modAccess fun a => { a with failures := l })
  if 5 ≤ l.length then
    let d := s.rd 0x7000 0x0A * 60
    let s := (s.inc 0x7000 0x19).modAccess fun a => { a with lockedTill := some (s.ticks + d * 1000000) }
    finish 7 (Audit.raise 0x1801 (s.wr 0x7000 0x0B (s.now + d * 1000000000)))
  else nextExchange s

/-- An interval in anchor units × 10⁷, corrected by AntennaDelay in ps. DESIGN CHOICE: notes/assumptions/128.md. -/
def corrected (x : Nat) (delay : Int) : Int := (x : Int) * 10000000 - delay * 638976

/-- R447: the distance in mm from the four intervals, rounded to the nearest; none where their sum is not positive. -/
def distance (ra da db rb : Nat) (delay : Int) : Option Int :=
  let a := corrected ra delay
  let b := corrected rb delay
  let c := corrected da delay
  let e := corrected db delay
  let sum := a + b + c + e
  if sum ≤ 0 then none
  else
    let num := 299792458000 * (a * b - c * e)
    let den := sum * 638976000000000000
    some ((2 * num + den) / (2 * den))

/-- A 40-bit anchor interval. -/
def interval (a b : Nat) : Nat := (b + 2 ^ 40 - a) % 2 ^ 40

/-- R446 to R448: the RESULT of an exchange. -/
def onResult (x : Exchange) (t1 t2 t3 : Nat) (l : List Byte) (s : State) : State :=
  match s.access.run with
  | none => s
  | some r =>
    if l.length ≠ 16 then nextExchange s
    else
      let db := leNat (l.take 4)
      let rb := leNat ((l.drop 4).take 4)
      let ks := Config.cmac (key s x.key.token) (octets 1 0x53 ++ octets 8 x.nm ++ octets 8 x.key.nt)
      if leNat (l.drop 8) ≠ mac ks (octets 1 0x52 ++ octets 4 r.pollId ++ octets 4 db ++ octets 4 rb) then failedAttempt s
      else
        let o := s.open_
        let (d, s) := match distance (interval t1 t2) (interval t2 t3) db rb (signed 16 (s.rd (0x7040 + anchorOf s r.zone) 2)) with
          | some d => (d, s)
          | none => ((o.1 : Int), o.2)
        if d < -500 then failedAttempt s
        else
          let mm := d.toNat
          let right := s.rdBit (0x7010 + x.key.token) 3 (b01 (interior s r.zone))
          nextExchange (modRun (fun r =>
            if !right then { r with noRight := true }
            else if radius s r.zone < mm then { r with beyond := true }
            else { r with qualified := r.qualified ++ [(min mm 0xFFFF, x.key.token, ks)] }) s)

/-- The step of the running exchange. -/
def setStep (x : Exchange) (st : ExchangeStep) (s : State) : State := modRun (fun r => { r with step := .exchanging { x with step := st } }) s

/-- A frame of the anchor during an exchange, which must end within 10 ms of its CHALLENGE (R446). DESIGN CHOICE: notes/assumptions/127.md. DESIGN CHOICE: notes/assumptions/129.md. -/
def exchange (x : Exchange) (f : AnchorFrame) (s : State) : State :=
  match s.access.run with
  | none => s
  | some r =>
    let garbled := bitOf f.flags 1 || bitOf f.flags 2
    if s.elapsed x.at_ 10000 then nextExchange s else
    match x.step, f.type with
    | .proof, 3 =>
      if garbled ∨ f.payload.length ≠ 8 then nextExchange s
      else
        let id := s.rd (0x7010 + x.key.token) 1
        if leNat f.payload = mac (key s x.key.token)
            (octets 1 0x54 ++ octets 4 r.pollId ++ octets 8 x.nm ++ octets 8 x.key.nt ++ octets 8 id) then
          transmit (anchorOf s r.zone) 0 1 [] (setStep x .pollSent s)
        else failedAttempt s
    | .pollSent, 2 => setStep x (.resp f.timestamp) s
    | .resp t1, 3 =>
      if garbled then nextExchange s
      else if !bitOf f.flags 0 then failedAttempt s
      else transmit (anchorOf s r.zone) 2 1 [] (setStep x (.finalSent t1 f.timestamp) s)
    | .finalSent t1 t2, 2 => setStep x (.result t1 t2 f.timestamp) s
    | .result t1 t2 t3, 3 => if garbled then nextExchange s else onResult x t1 t2 t3 f.payload s
    | _, _ => s

/-- ACCESS_EXCHANGE_TIMEOUT: 10 ms after the CHALLENGE the key counts as no reply (R446). -/
def exchangeTimeout (s : State) : State :=
  match s.access.run with
  | some r =>
    match r.step with
    | .exchanging x => if s.elapsed x.at_ 10000 then nextExchange s else s
    | _ => s
  | none => s

/-! ### Token memory (R453) -/

/-- The status of a MemoryRequest. -/
def memoryStatus (s : State) (v : Nat) : Status :=
  let t := field v 0 4
  if s.access.memory.isSome then .busy
  else if !s.rdBit (0x7010 + t) 3 2 then .denied
  else if !up s ∨ locked s then .state
  else match Map.get none s.access.grants t with
    | some g => if s.ticks ≤ g.at_ + 5000000 then .ok else .state
    | none => .state

/-- A MemoryRequest starts: the request leaves with a tag under Ks. DESIGN CHOICE: notes/assumptions/131.md. -/
def memoryStart (v : Nat) (s : State) : State :=
  let t := field v 0 4
  match Map.get none s.access.grants t with
  | none => s
  | some g =>
    let write := bitOf v 8
    let body := octets 1 (field v 4 4) ++ octets 1 (b01 write) ++ (if write then octets 16 (s.rd 0x7030 2) else [])
    let a := anchorOf s g.zone
    transmit a 0 0 (body ++ octets 8 (mac g.ks body))
      ((s.wr 0x7030 1 Status.busy.code).modAccess fun x => { x with
        memory := some { token := t, block := field v 4 4, write := write, anchor := a, ks := g.ks, at_ := s.ticks } })

/-- A MemoryRequest completes. -/
def memoryEnd (st : Status) (s : State) : State := (s.wr 0x7030 1 st.code).modAccess fun x => { x with memory := none }

/-- The key's answer: the block for a read, nothing for a write, then the tag over it; a tag that fails is AUTH, and after 10 ms
there is no answer. -/
def memoryAnswer (m : MemoryRun) (f : AnchorFrame) (s : State) : State :=
  if bitOf f.flags 1 ∨ bitOf f.flags 2 then s
  else if s.elapsed m.at_ 10000 then memoryEnd .state s
  else
    let n := if m.write then 0 else 16
    let body := f.payload.take n
    if f.payload.length = n + 8 ∧ leNat (f.payload.drop n) = mac m.ks body then
      memoryEnd .ok (if m.write then s else s.wr 0x7030 2 (leNat body))
    else memoryEnd .auth s

/-- MEMORY_REQUEST_TIMEOUT: no answer within 10 ms. -/
def memoryTimeout (s : State) : State :=
  match s.access.memory with
  | some m => if s.elapsed m.at_ 10000 then memoryEnd .state s else s
  | none => s

/-! ### Frames from anchors (R441) -/

/-- The anchor that a frame's address names. -/
def anchorAt (s : State) (addr : Nat) : Option Nat :=
  if addr = 0 then none else (List.range 8).find? fun a => s.rd (0x7040 + a) 1 = addr

/-- A frame with a reserved value is discarded. -/
def wellFormed (f : AnchorFrame) : Bool :=
  decide (f.version = 1 ∧ 1 ≤ f.address ∧ f.address ≤ 254 ∧ 2 ≤ f.type ∧ f.type ≤ 4 ∧ f.flags < 8 ∧ f.payload.length ≤ 127
    ∧ f.timestamp < 2 ^ 40 ∧ (f.type = 3 ∨ f.flags < 2))

/-- ANCHOR_FRAME on the anchor segment's port. -/
def frame (p : Nat) (f : AnchorFrame) (s : State) : State :=
  if up s ∧ p = 2 + segment s ∧ wellFormed f then
    match anchorAt s f.address with
    | none => s
    | some a =>
      if f.type = 4 then s.modAccess fun x => { x with present := Map.put none x.present a (some s.ticks) }
      else
        match s.access.run with
        | some r =>
          match r.step with
          | .replies e => if f.type = 3 ∧ a = anchorOf s r.zone then reply e f s else s
          | .exchanging x => if a = anchorOf s r.zone then exchange x f s else s
          | _ => match s.access.memory with
            | some m => if f.type = 3 ∧ a = m.anchor then memoryAnswer m f s else s
            | none => s
        | none => match s.access.memory with
          | some m => if f.type = 3 ∧ a = m.anchor then memoryAnswer m f s else s
          | none => s
  else s

/-- ANCHOR_ABSENT: no STATUS frame for 300 ms. -/
def absent (a : Nat) (s : State) : State :=
  match Map.get none s.access.present a with
  | some t =>
    if s.elapsed t 300000 then
      Audit.raise (0x1808 + a) (s.modAccess fun x => { x with present := Map.put none x.present a none })
    else s
  | none => s

/-- LOCKOUT_END: the failure history is cleared (R451). -/
def lockoutEnd (s : State) : State :=
  match s.access.lockedTill with
  | some t => if t ≤ s.ticks then (s.wr 0x7000 0x0B 0).modAccess fun a => { a with lockedTill := none, failures := [] } else s
  | none => s

/-! ### Enrolment and revocation (R454, R455) -/

/-- Octets of an enrolment record. -/
def part (v a n : Nat) : Nat := field v (8 * a) (8 * n)

/-- Whether the record's own octets are allowed: reserved octets 0, the slot and the rights defined. -/
def recordStatus (v : Nat) : Status :=
  if part v 10 2 ≠ 0 ∨ part v 13 3 ≠ 0 ∨ 8 ≤ part v 9 1 then .reserved else if 16 ≤ part v 8 1 then .range else .ok

/-- The checks of R454: the refusal's status and EnrolResult, none where the record is accepted. -/
def enrolCheck (s : State) (v : Nat) : Option (Status × Nat) :=
  let hash := Config.sha256 (octets 48 v)
  if 255 ≤ s.rd 0x7000 0x13 then some (.state, 6)
  else if s.rd (0x7010 + part v 8 1) 2 = 1 then some (.state, 5)
  else if 16 ≤ tokens s then some (.range, 7)
  else if (tokenOf s (part v 0 8)).isSome then some (.range, 8)
  else if part v 12 1 ≠ s.rd 0x7000 0x13 + 1 then some (.range, 2)
  else if part v 16 16 ≠ Config.sha256 (octets 16 serialNumber) % 2 ^ 128 then some (.range, 3)
  else if !Config.ecdsaVerify (s.rd 0x7000 0x0D) hash (part v 48 64) then some (.range, 4)
  else none

/-- An accepted record: the strongroom unwraps the key into the slot. -/
def enrol (v : Nat) (s : State) : State :=
  let g := 0x7010 + part v 8 1
  let s := ((s.wr g 1 (part v 0 8)).wr g 2 1).wr g 3 (part v 9 1)
  let s := s.modAccess fun a => { a with keys := Map.put 0 a.keys (part v 8 1) (Config.aesInverse (s.rd 0x7000 0x0E) (part v 32 16)) }
  let n := s.rd 0x7000 0x13 + 1
  Audit.raiseIf (n = 255) 0x1804 ((s.wr 0x7000 0x13 n).wr 0x7000 0x12 1)

/-- A refused record raises ENROL_REFUSED; EnrolResult names the check. -/
def enrolRefused (result : Nat) (s : State) : State :=
  Audit.raise 0x1803 (if result = 0 then s else s.wr 0x7000 0x12 result)

/-- TOKEN_REVOKE: the slot is empty from the commit (R455). DESIGN CHOICE: notes/assumptions/132.md. -/
def revoke (t : Nat) (s : State) : State :=
  let g := 0x7010 + t
  (((s.wr g 1 0).wr g 2 0).wr g 3 0).modAccess fun a => { a with
    keys := Map.put 0 a.keys t 0, grants := Map.put none a.grants t none }

/-! ### Lifecycle (R456, R457) -/

/-- The status of an AccessRequest (R442). -/
def requestStatus (s : State) (v : Nat) : Status :=
  if s.access.run.isSome then .busy else if !up s ∨ !bitOf (zone s (field v 0 3)) 0 then .state else .ok

/-- A committed AccessRequest. -/
def request (v : Nat) (s : State) : State := start (field v 0 3) true (s.wr 0x7000 4 Status.busy.code)

/-- The engine stops what it is doing: the request ends without a result, its loan is withdrawn or returned.
DESIGN CHOICE: notes/assumptions/133.md. -/
def stop (s : State) : State :=
  let s := match s.access.run with
    | some r =>
      let q := 0x1100 + antennaOf s r.zone
      let s := Teller.giveBack q (Teller.withdraw q s)
      if r.command then s.wr 0x7000 4 Status.state.code else s
    | none => s
  let s := if s.access.memory.isSome then memoryEnd .state s else s
  let s := Vault.withdraw (fun x => match x.cargo with | .eth f => decide (f.etype = 0x88B7) | _ => false) s
  s.modAccess fun a => { a with run := none, touches := [] }

/-- CountersClear. -/
def clearCounters (s : State) : State := s.zero ((List.range 6).map fun j => (0x7000, 0x15 + j))

/-- R457: a per-function reset. -/
def reset (s : State) : State := clearCounters (stop s)

/-- AccessStatus (Table 16-5). -/
def status (s : State) : Nat :=
  b01 s.access.run.isSome + b01 (locked s) * 2 + (s.access.run.elim 0 (·.zone)) * 4
    + ((List.range 8).map fun z => if s.access.touches.any fun x => (zonesOf s x.1).contains z then 2 ^ (5 + z) else 0).sum

/-- R456: the first entry that a rule names, none where the configuration is valid. -/
def invalid (s : State) : List (Nat × Nat) :=
  let on := (List.range 8).filter fun z => bitOf (zone s z) 0
  let noAnchor := (on.filter fun z => s.rd (0x7040 + anchorOf s z) 1 = 0).flatMap fun z => [(0x7020 + z, 1), (0x7040 + anchorOf s z, 1)]
  let starts := on.filter fun z => bitOf (zone s z) 5
  let shared := (starts.filter fun z => starts.any fun y => decide (y ≠ z ∧ field (zone s y) 2 3 = field (zone s z) 2 3)).map fun z => (0x7020 + z, 1)
  let inner := (on.filter fun z => interior s z && bitOf (zone s z) 5).map fun z => (0x7020 + z, 1)
  let twins := ((List.range 8).filter fun a => decide (s.rd (0x7040 + a) 1 ≠ 0) &&
    (List.range 8).any fun b => decide (b ≠ a ∧ s.rd (0x7040 + b) 1 = s.rd (0x7040 + a) 1)).map fun a => (0x7040 + a, 1)
  noAnchor ++ shared ++ inner ++ twins

end Access

end Sys2Proof.Machine
end

