-- ==== Sys2Proof/Machine/SeqDecode.lean ====
section
/-! DEFINITION. Decoding and encoding of Fororn program words (R295 to R297, R301, R308, Tables 11-3 to 11-9). -/

namespace Sys2Proof.Machine

namespace SeqOp

/-! ### Shapes -/

/-- How many program words an instruction takes (Table 11-3). -/
def len : SeqOp → Nat
  | .alui .. | .shifti .. | .ldi .. | .cmpi .. | .ldw _ _ (.disp _) | .stw _ _ (.disp _) | .br .. | .brx .. | .call _ | .jmp _
  | .callx _ | .jmpx _ | .bit .. | .fld .. | .load .. | .store .. | .ldwx .. | .stwx .. | .ldbx .. | .stbx .. | .pushm _
  | .popm _ | .addsp _ | .repi _ | .mfs .. | .mts .. | .aluix .. | .cmpx .. | .tstx .. | .ldix .. => 2
  | .ldil .. => 3
  | _ => 1

/-- A special-register number that Table 11-2 or R348 names; the others are reserved. -/
def knownReg (r : BitVec 8) : Bool := decide (r.toNat ≤ 0x0B ∨ (0x20 ≤ r.toNat ∧ r.toNat ≤ 0x2B))

/-- A special register that mts may write (Table 11-2, R348). -/
def writableReg (r : BitVec 8) : Bool := r = 0x00 || r = 0x05 || r = 0x07 || r = 0x2A

/-- The word, counted from the first, that makes a reserved combination of fields (R297, R301, R308); none for a defined
instruction. -/
def reserved : SeqOp → Option Nat
  | .fld _ _ _ lsb w1 => if 32 < lsb.val + (w1.val + 1) then some 1 else none
  | .crcm _ gd gs => if gd = gs then some 0 else none
  | .pushm m | .popm m => if m = 0 then some 1 else none
  | .addsp i => if i.toNat % 4 ≠ 0 then some 1 else none
  | .mfs _ r => if knownReg r then none else some 1
  | .mts _ r => if writableReg r then none else some 1
  | _ => none

/-! ### Encoding -/

/-- A first word from its major and three 3-bit fields. -/
def word (major a b c : Nat) : PWord := BitVec.ofNat 14 (major * 512 + a * 64 + b * 8 + c)

/-- The function number of an ALU operation. -/
def aluNum : AluF → Nat
  | .add => 0 | .sub => 1 | .and => 2 | .or => 3 | .xor => 4

/-- The function number of a shift in majors 0x01 and 0x02. -/
def shiftNum : ShiftF → Nat
  | .shl => 5 | .shr => 6 | .sar => 7

/-- Major and function of a register operation. -/
def regNum : RegF → Nat × Nat
  | .mov => (3, 0) | .cmp => (3, 1) | .tst => (3, 2) | .neg => (3, 3) | .not => (3, 4)
  | .mul => (8, 0) | .mulhs => (8, 1) | .mulhu => (8, 2) | .adc => (8, 3) | .sbc => (8, 4) | .rol => (8, 5) | .ror => (8, 6)
  | .div => (9, 0) | .divu => (9, 1) | .rem => (9, 2) | .remu => (9, 3)
  | .min => (9, 4) | .max => (9, 5) | .minu => (9, 6) | .maxu => (9, 7)
  | .rev => (10, 0) | .revb => (10, 1) | .bswap => (10, 2) | .par => (10, 3)
  | .clz => (10, 4) | .popc => (10, 5) | .sxb => (10, 6) | .sxh => (10, 7)

/-- The function number of a one-bit operation. -/
def bitNum : BitF → Nat
  | .bset => 0 | .bclr => 1 | .btgl => 2 | .btst => 3

/-- The function number of a field operation. -/
def fieldNum : FieldF → Nat
  | .extu => 4 | .exts => 5 | .ins => 6

/-- The function number of a cyclic-check step. -/
def crcNum : CrcF → Nat
  | .crc8 => 0 | .crc16 => 1 | .crc32 => 2 | .crc32w => 3

/-- The function number of a cyclic-check step on memory. -/
def crcmNum : CrcM → Nat
  | .crc8m => 4 | .crc16m => 5 | .crc32m => 6

/-- The mode number of LDW and STW and its extension word. -/
def modeWords : Mode → Nat × List PWord
  | .at_ => (0, []) | .disp d => (1, [d.zeroExtend 14]) | .post => (2, []) | .pre => (3, [])

/-- The program words of an instruction (Table 11-3). -/
def encode : SeqOp → List PWord
  | .nop => [word 0 0 0 0]
  | .ret => [word 0 1 0 0]
  | .rti => [word 0 2 0 0]
  | .yield => [word 0 3 0 0]
  | .wait g => [word 0 4 g.val 0]
  | .swi n => [BitVec.ofNat 14 (5 * 64 + n.val)]
  | .brk => [word 0 6 0 0]
  | .alu f gd gs => [word 1 gd.val gs.val (aluNum f)]
  | .shift f gd gs => [word 1 gd.val gs.val (shiftNum f)]
  | .alui f gd i => [word 2 gd.val (aluNum f) 0, i.zeroExtend 14]
  | .shifti f gd n => [word 2 gd.val (shiftNum f) 0, BitVec.ofNat 14 n.val]
  | .reg f gd gs => [word (regNum f).1 gd.val gs.val (regNum f).2]
  | .ldi gd i => [word 3 gd.val 0 5, i.zeroExtend 14]
  | .cmpi gd i => [word 3 gd.val 0 6, i.zeroExtend 14]
  | .ldw gd gb m => word 4 gd.val gb.val (modeWords m).1 :: (modeWords m).2
  | .stw gs gb m => word 5 gs.val gb.val (modeWords m).1 :: (modeWords m).2
  | .br cc off => [BitVec.ofNat 14 (6 * 512 + cc.val * 32), off.zeroExtend 14]
  | .call a => [word 7 0 0 0, a.zeroExtend 14]
  | .jmp a => [word 7 1 0 0, a.zeroExtend 14]
  | .callr g => [word 7 2 g.val 0]
  | .jmpr g => [word 7 3 g.val 0]
  | .bit f gd lsb => [word 11 gd.val (bitNum f) 0, BitVec.ofNat 14 lsb.val]
  | .fld f gd gs lsb w1 => [word 11 gd.val (fieldNum f) 0, BitVec.ofNat 14 (lsb.val + w1.val * 32 + gs.val * 1024)]
  | .crc f gd gs => [word 12 gd.val gs.val (crcNum f)]
  | .crcm f gd gs => [word 12 gd.val gs.val (crcmNum f)]
  | .load .b sg gd gb d => [word 13 gd.val gb.val (if sg then 1 else 0), d]
  | .load .h sg gd gb d => [word 13 gd.val gb.val (if sg then 3 else 2), d]
  | .load .w _ gd gb d => [word 14 gd.val gb.val 0, d]
  | .store .b gs gb d => [word 13 gs.val gb.val 4, d]
  | .store .h gs gb d => [word 13 gs.val gb.val 5, d]
  | .store .w gs gb d => [word 14 gs.val gb.val 1, d]
  | .ldbp gd gb => [word 13 gd.val gb.val 6]
  | .stbp gs gb => [word 13 gs.val gb.val 7]
  | .ldwx gd gb gi => [word 14 gd.val gb.val 2, BitVec.ofNat 14 gi.val]
  | .stwx gs gb gi => [word 14 gs.val gb.val 3, BitVec.ofNat 14 gi.val]
  | .ldbx gd gb gi => [word 14 gd.val gb.val 4, BitVec.ofNat 14 gi.val]
  | .stbx gs gb gi => [word 14 gs.val gb.val 5, BitVec.ofNat 14 gi.val]
  | .push g => [word 15 0 g.val 0]
  | .pop g => [word 15 1 g.val 0]
  | .pushm m => [word 15 2 0 0, m.zeroExtend 14]
  | .popm m => [word 15 3 0 0, m.zeroExtend 14]
  | .addsp i => [word 15 4 0 0, i]
  | .getsp g => [word 15 5 g.val 0]
  | .setsp g => [word 15 6 g.val 0]
  | .ldil gd i => [BitVec.ofNat 14 (16 * 512 + gd.val * 64 + i.toNat / 2 ^ 28), BitVec.ofNat 14 (i.toNat / 2 ^ 14),
      BitVec.ofNat 14 i.toNat]
  | .brx cc off => [BitVec.ofNat 14 (17 * 512 + cc.val * 32), off]
  | .callx a => [word 18 0 0 0, a.zeroExtend 14]
  | .jmpx a => [word 18 1 0 0, a.zeroExtend 14]
  | .rep g => [word 19 g.val 0 0]
  | .repi n => [BitVec.ofNat 14 (19 * 512 + 32), n]
  | .mfs g r => [word 20 g.val 0 0, r.zeroExtend 14]
  | .mts g r => [word 20 g.val 1 0, r.zeroExtend 14]
  | .aluix f gd i => [word 21 gd.val (aluNum f) 0, i]
  | .cmpx gd i => [word 21 gd.val 5 0, i]
  | .tstx gd i => [word 21 gd.val 6 0, i]
  | .ldix gd i => [word 21 gd.val 7 0, i]

end SeqOp

/-! ### Decoding -/

namespace SeqDecode

/-- The ALU function of a number below 5. -/
def aluOf (n : Nat) : AluF := match n with | 0 => .add | 1 => .sub | 2 => .and | 3 => .or | _ => .xor

/-- The shift of function 5, 6 or 7. -/
def shiftOf (n : Nat) : ShiftF := match n with | 5 => .shl | 6 => .shr | _ => .sar

/-- Functions of MOVE below 5. -/
def moveOf (n : Nat) : RegF := match n with | 0 => .mov | 1 => .cmp | 2 => .tst | 3 => .neg | _ => .not

/-- Functions of ALUX below 7. -/
def aluxOf (n : Nat) : RegF :=
  match n with | 0 => .mul | 1 => .mulhs | 2 => .mulhu | 3 => .adc | 4 => .sbc | 5 => .rol | _ => .ror

/-- Functions of DIV. -/
def divOf (n : Nat) : RegF :=
  match n with
  | 0 => .div | 1 => .divu | 2 => .rem | 3 => .remu | 4 => .min | 5 => .max | 6 => .minu | _ => .maxu

/-- Functions of BITS. -/
def bitsOf (n : Nat) : RegF :=
  match n with
  | 0 => .rev | 1 => .revb | 2 => .bswap | 3 => .par | 4 => .clz | 5 => .popc | 6 => .sxb | _ => .sxh

/-- One-bit functions of FIELD. -/
def bitOf (n : Nat) : BitF := match n with | 0 => .bset | 1 => .bclr | 2 => .btgl | _ => .btst

/-- Field functions 4 to 6 of FIELD. -/
def fieldOf (n : Nat) : FieldF := match n with | 4 => .extu | 5 => .exts | _ => .ins

/-- Register functions of CRC below 4. -/
def crcOf (n : Nat) : CrcF := match n with | 0 => .crc8 | 1 => .crc16 | 2 => .crc32 | _ => .crc32w

/-- Memory functions 4 to 6 of CRC. -/
def crcmOf (n : Nat) : CrcM := match n with | 4 => .crc8m | 5 => .crc16m | _ => .crc32m

/-- A register field. -/
def reg (n : Nat) : Reg := Fin.ofNat 8 n

/-- The shapes of majors 0x00 to 0x07 (the TZ-96 subset); an error names the offending word. -/
def subset (major a b c w : Nat) (x : PWord) : Except Nat SeqOp :=
  let ext (ok : SeqOp) : Except Nat SeqOp := if x.toNat < 4096 then .ok ok else .error 1
  let imm : BitVec 12 := x.truncate 12
  let plain (i : Bool) (ok : SeqOp) : Except Nat SeqOp := if i then .ok ok else .error 0
  match major with
  | 0 =>
    match a with
    | 0 => plain (b = 0 && c = 0) .nop
    | 1 => plain (b = 0 && c = 0) .ret
    | 2 => plain (b = 0 && c = 0) .rti
    | 3 => plain (b = 0 && c = 0) .yield
    | 4 => plain (c = 0) (.wait (reg b))
    | 5 => .ok (.swi (Fin.ofNat 64 (w % 64)))
    | 6 => plain (b = 0 && c = 0) .brk
    | _ => .error 0
  | 1 => .ok (if c < 5 then .alu (aluOf c) (reg a) (reg b) else .shift (shiftOf c) (reg a) (reg b))
  | 2 =>
    if c ≠ 0 then .error 0
    else if b < 5 then ext (.alui (aluOf b) (reg a) imm)
    else if x.toNat < 32 then .ok (.shifti (shiftOf b) (reg a) (Fin.ofNat 32 x.toNat)) else .error 1
  | 3 =>
    if c < 5 then .ok (.reg (moveOf c) (reg a) (reg b))
    else if c = 7 ∨ b ≠ 0 then .error 0
    else ext (if c = 5 then .ldi (reg a) imm else .cmpi (reg a) imm)
  | 4 | 5 =>
    let mk (m : Mode) : SeqOp := if major = 4 then .ldw (reg a) (reg b) m else .stw (reg a) (reg b) m
    match c with
    | 0 => .ok (mk .at_)
    | 1 => ext (mk (.disp imm))
    | 2 => .ok (mk .post)
    | 3 => .ok (mk .pre)
    | _ => .error 0
  | 6 =>
    if w % 32 ≠ 0 ∨ w / 32 % 16 = 15 then .error 0 else ext (.br (Fin.ofNat 15 (w / 32 % 16)) imm)
  | _ =>
    match a with
    | 0 => if b = 0 ∧ c = 0 then ext (.call imm) else .error 0
    | 1 => if b = 0 ∧ c = 0 then ext (.jmp imm) else .error 0
    | 2 => plain (c = 0) (.callr (reg b))
    | 3 => plain (c = 0) (.jmpr (reg b))
    | _ => .error 0

/-- The shapes of majors 0x08 to 0x0E. -/
def middle (major a b c : Nat) (x : PWord) : Except Nat SeqOp :=
  match major with
  | 8 => if c = 7 then .error 0 else .ok (.reg (aluxOf c) (reg a) (reg b))
  | 9 => .ok (.reg (divOf c) (reg a) (reg b))
  | 10 => .ok (.reg (bitsOf c) (reg a) (reg b))
  | 11 =>
    if c ≠ 0 ∨ b = 7 then .error 0
    else if b < 4 then
      if x.toNat < 32 then .ok (.bit (bitOf b) (reg a) (Fin.ofNat 32 x.toNat)) else .error 1
    else if x.toNat < 8192 then
      .ok (.fld (fieldOf b) (reg a) (reg (x.toNat / 1024)) (Fin.ofNat 32 (x.toNat % 32)) (Fin.ofNat 32 (x.toNat / 32 % 32)))
    else .error 1
  | 12 =>
    if c = 7 then .error 0
    else .ok (if c < 4 then .crc (crcOf c) (reg a) (reg b) else .crcm (crcmOf c) (reg a) (reg b))
  | 13 =>
    match c with
    | 0 => .ok (.load .b false (reg a) (reg b) x)
    | 1 => .ok (.load .b true (reg a) (reg b) x)
    | 2 => .ok (.load .h false (reg a) (reg b) x)
    | 3 => .ok (.load .h true (reg a) (reg b) x)
    | 4 => .ok (.store .b (reg a) (reg b) x)
    | 5 => .ok (.store .h (reg a) (reg b) x)
    | 6 => .ok (.ldbp (reg a) (reg b))
    | _ => .ok (.stbp (reg a) (reg b))
  | _ =>
    match c with
    | 0 => .ok (.load .w false (reg a) (reg b) x)
    | 1 => .ok (.store .w (reg a) (reg b) x)
    | 6 | 7 => .error 0
    | _ =>
      if 8 ≤ x.toNat then .error 1
      else
        let gi := reg x.toNat
        match c with
        | 2 => .ok (.ldwx (reg a) (reg b) gi)
        | 3 => .ok (.stwx (reg a) (reg b) gi)
        | 4 => .ok (.ldbx (reg a) (reg b) gi)
        | _ => .ok (.stbx (reg a) (reg b) gi)

/-- The shapes of majors 0x0F to 0x15. -/
def upper (major a b c w : Nat) (x y : PWord) : Except Nat SeqOp :=
  match major with
  | 15 =>
    if c ≠ 0 ∨ a = 7 ∨ ((a = 2 ∨ a = 3 ∨ a = 4) ∧ b ≠ 0) then .error 0
    else match a with
      | 0 => .ok (.push (reg b))
      | 1 => .ok (.pop (reg b))
      | 2 => if x.toNat < 256 then .ok (.pushm (x.truncate 8)) else .error 1
      | 3 => if x.toNat < 256 then .ok (.popm (x.truncate 8)) else .error 1
      | 4 => .ok (.addsp x)
      | 5 => .ok (.getsp (reg b))
      | _ => .ok (.setsp (reg b))
  | 16 =>
    if w / 16 % 4 ≠ 0 then .error 0
    else .ok (.ldil (reg a) (BitVec.ofNat 32 (w % 16 * 2 ^ 28 + x.toNat * 2 ^ 14 + y.toNat)))
  | 17 => if w % 32 ≠ 0 ∨ w / 32 % 16 = 15 then .error 0 else .ok (.brx (Fin.ofNat 15 (w / 32 % 16)) x)
  | 18 =>
    if b ≠ 0 ∨ c ≠ 0 ∨ 2 ≤ a then .error 0
    else if 8192 ≤ x.toNat then .error 1
    else .ok (if a = 0 then .callx (x.truncate 13) else .jmpx (x.truncate 13))
  | 19 =>
    if w % 32 ≠ 0 then .error 0
    else if w / 32 % 2 = 0 then .ok (.rep (reg a))
    else if a = 0 then .ok (.repi x) else .error 0
  | 20 =>
    if c ≠ 0 ∨ 2 ≤ b then .error 0
    else if 256 ≤ x.toNat then .error 1
    else .ok (if b = 0 then .mfs (reg a) (x.truncate 8) else .mts (reg a) (x.truncate 8))
  | _ =>
    if c ≠ 0 then .error 0
    else .ok (match b with
      | 5 => .cmpx (reg a) x
      | 6 => .tstx (reg a) x
      | 7 => .ldix (reg a) x
      | _ => .aluix (aluOf b) (reg a) x)

/-- R295 to R297: the instruction that a word and the two words after it spell, or the offending word of an undefined
one, counted from the first. -/
def decode (w x y : PWord) : Except Nat SeqOp :=
  let n := w.toNat
  let major := n / 512
  let a := n / 64 % 8
  let b := n / 8 % 8
  let c := n % 8
  let r :=
    if major < 8 then subset major a b c n x
    else if major < 15 then middle major a b c x
    else if major < 22 then upper major a b c n x y
    else .error 0
  match r with
  | .ok op => match op.reserved with
    | some k => .error k
    | none => .ok op
  | .error k => .error k

end SeqDecode

end Sys2Proof.Machine
end

