-- ==== Sys2Proof/Machine/SeqCore.lean ====
section
/-! DEFINITION. The Fororn instructions: loads and stores, control, the stack, special registers, traps, the repeat prefix,
and how an instruction issues (R298 to R317, R321, Tables 11-5 to 11-10). -/

namespace Sys2Proof.Machine

namespace Seq

/-! ### Loads and stores (R303, R314, R322 to R324) -/

/-- What a load does: it traps, its value is there with the state it leaves, or the context stalls on a path load. -/
inductive Loaded
  | trap (t : Trap)
  | value (v : Nat) (s : State)
  | stall
  deriving DecidableEq, Repr

/-- A load of `n` octets by context `c`. -/
def load (c : Nat) (w : Word) (n : Nat) (s : State) : Loaded :=
  let e := c / 4
  match region w n false with
  | .error t => .trap t
  | .ok (.data a) => if bad s e a n then .trap (.data w) else .value (dataRead s e a n) (Perf.event c 10 1 s)
  | .ok (.shared a) =>
    let r := s.open_
    .value (sharedRead s e (windowBase s e + a) n) (Perf.event c 13 (4 + r.1 % 33) (Perf.event c 12 1 r.2))
  | .ok (.path _) => .stall
  | .ok (.ctl off) => .value (ctlRead s c off) s
  | .ok (.lock i) => let r := lockLoad c i s; .value r.1.toNat r.2

/-- What a store does: it traps, waits for a place in a full buffer, or is done. -/
inductive Stored
  | trap (t : Trap)
  | full
  | done (s : State)
  deriving DecidableEq, Repr

/-- A store of `n` octets by context `c`: shared stores pass through the engine's buffer of 8, path stores through its
queue of 16 (R323). -/
def storeAt (c : Nat) (w : Word) (n v : Nat) (s : State) : Stored :=
  let e := c / 4
  match region w n true with
  | .error t => .trap t
  | .ok (.data a) => .done (Perf.event c 11 1 (dataWrite e a n v s))
  | .ok (.shared a) =>
    if 8 ≤ (s.eng e).shared.length then .full
    else .done (Perf.event c 12 1 (s.modEng e fun r => { r with
      shared := r.shared ++ [{ addr := windowBase s e + a, size := n, value := v % 256 ^ n }] }))
  | .ok (.path a) =>
    if 16 ≤ (s.eng e).paths.length then .full
    else .done (Perf.event c (if a < 0x22000 then 14 else 16) 1 (s.modEng e fun r => { r with
      paths := r.paths ++ [{ ctx := c, addr := a, value := v }] }))
  | .ok (.ctl off) => .done (ctlWrite c off v s)
  | .ok (.lock i) => .done (lockStore c i v s)

/-- SHARED_STORE_WRITEBACK: the oldest buffered store reaches shared memory. -/
def writeback (e : Nat) (s : State) : State :=
  match (s.eng e).shared with
  | [] => s
  | x :: r => { (s.modEng e fun y => { y with shared := r }) with smem := store s.smem x.addr (octets x.size x.value) }

/-! ### The outcome of one instruction -/

/-- What one execution of an instruction does: it completes, it traps, or it cannot issue yet because a buffer is full. -/
inductive Ran
  | ok (s : State)
  | trap (t : Trap)
  | full
  deriving DecidableEq, Repr

/-- A register written in the state. -/
def setReg (c : Nat) (r : Reg) (w : Word) (s : State) : State := s.modCtx c fun x => x.set r w

/-- A computed result: the flags it sets, and the register where it is kept. -/
def setRes (c : Nat) (gd : Reg) (r : Res) (keep : Bool) (s : State) : State :=
  s.modCtx c fun x => (if keep then x.set gd r.val else x).setRes r

/-- A loaded value reaches its register; a base register is updated first, so that the loaded value stands (R304). -/
def finishLoad (c : Nat) (gd : Reg) (base : Option (Reg × Word)) (ext : Nat → Word) (w : Word) (n : Nat) (s : State) : Ran :=
  let upd (s : State) := match base with
    | some (gb, x) => setReg c gb x s
    | none => s
  match load c w n s with
  | .trap t => .trap t
  | .value v s => .ok (setReg c gd (ext v) (upd s))
  | .stall => .ok ((upd s).modCtx c fun x => { x with stalled := some (gd.val, w.toNat) })

/-- A store and the update of its base register. -/
def finishStore (c : Nat) (base : Option (Reg × Word)) (w : Word) (n : Nat) (v : Word) (s : State) : Ran :=
  match storeAt c w n v.toNat s with
  | .trap t => .trap t
  | .full => .full
  | .done s => .ok (match base with
    | some (gb, x) => setReg c gb x s
    | none => s)

/-- The value of a load of each width, zero- or sign-extended. -/
def extend (z : Size) (sg : Bool) (v : Nat) : Word :=
  match z with
  | .b => if sg then (BitVec.ofNat 8 v).signExtend 32 else BitVec.ofNat 32 v
  | .h => if sg then (BitVec.ofNat 16 v).signExtend 32 else BitVec.ofNat 32 v
  | .w => BitVec.ofNat 32 v

/-- The octets of a width. -/
def sizeOf : Size → Nat
  | .b => 1 | .h => 2 | .w => 4

/-- The address of a mode and the base register's new value (Table 11-7). -/
def modeAddr (m : Mode) (b : Word) (gb : Reg) : Word × Option (Reg × Word) :=
  match m with
  | .at_ => (b, none)
  | .disp d => (b + sext d, none)
  | .post => (b, some (gb, b + 4))
  | .pre => (b - 4, some (gb, b - 4))

/-! ### The stack (R305, R306) -/

/-- The first word outside the stack window among `n` words pushed below sp, or popped from sp on. -/
def outside (s : State) (c : Nat) (push : Bool) (n : Nat) : Option Word :=
  let sp := (s.ctx c).sp
  ((List.range n).map fun i => if push then sp - BitVec.ofNat 32 (4 * (i + 1)) else sp + BitVec.ofNat 32 (4 * i)).find? fun w =>
    !inWindow s c w

/-- A word pushed. -/
def push1 (c : Nat) (v : Word) (s : State) : State :=
  let sp := (s.ctx c).sp - 4
  (dataWrite (c / 4) sp.toNat 4 v.toNat s).modCtx c fun x => { x with sp := sp }

/-- The word at sp, and sp moved past it. -/
def pop1 (c : Nat) (s : State) : Word × State :=
  let sp := (s.ctx c).sp
  (BitVec.ofNat 32 (dataRead s (c / 4) sp.toNat 4), s.modCtx c fun x => { x with sp := sp + 4 })

/-- The words a pop reads that meet an uncorrectable error. -/
def badPop (s : State) (c n : Nat) : Option Word :=
  let sp := (s.ctx c).sp
  ((List.range n).map fun i => sp + BitVec.ofNat 32 (4 * i)).find? fun w => bad s (c / 4) w.toNat 4

/-- A push where its words lie in the stack window. -/
def pushed (c n : Nat) (f : State → State) (s : State) : Ran :=
  match outside s c true n with
  | some w => .trap (.stack w)
  | none => .ok (f s)

/-- A pop where its words lie in the stack window. -/
def popped (c n : Nat) (f : State → Ran) (s : State) : Ran :=
  match outside s c false n with
  | some w => .trap (.stack w)
  | none => match badPop s c n with
    | some w => .trap (.data w)
    | none => f s

/-- The registers a mask names, ascending. -/
def maskRegs (m : BitVec 8) : List Reg := (List.range 8).filterMap fun i => if m.getLsbD i then some (Fin.ofNat 8 i) else none

/-! ### Control -/

/-- pc set. -/
def jump (c : Nat) (a : BitVec 13) (s : State) : State := s.modCtx c fun x => { x with pc := a }

/-- A call: pc_next is pushed and pc set (R306). -/
def call (c : Nat) (a : BitVec 13) (s : State) : Ran :=
  pushed c 1 (fun s => Perf.event c 8 1 (jump c a (push1 c ((s.ctx c).pc.zeroExtend 32) s))) s

/-- A branch: pc is pc_next here. -/
def branch (c : Nat) (k : Nat) (off : Word) (s : State) : State :=
  let x := s.ctx c
  if Flags.cond k x.z x.n x.c x.v then Perf.event c 6 1 (jump c (x.pc + off.truncate 13) s) else Perf.event c 7 1 s

/-- A register target of callr and jmpr: bits [31:13] must be 0 (Table 11-9). -/
def target (w : Word) (f : BitVec 13 → Ran) : Ran := if w.toNat < 8192 then f (w.truncate 13) else .trap (.access w)

/-! ### Special registers (Table 11-2, R348) -/

/-- The context's read permit for counters (R308). -/
def permitted (s : State) (c : Nat) : Bool := decide (s.rd (0x5100 + c) 0x0B = 1)

/-- mfs: the value of a special register and what reading it latches. -/
def readSpecial (c : Nat) (r : Nat) (s : State) : Word × State :=
  let x := s.ctx c
  let e := c / 4
  let w (n : Nat) : Word := BitVec.ofNat 32 n
  match r with
  | 0x00 => (x.flags.zeroExtend 32, s)
  | 0x01 => (w c, s)
  | 0x02 => (w (e + c % 4 * 256), s)
  | 0x03 => (w (b01 x.inTrap + b01 x.inRepeat * 2 + b01 x.debug * 4), s)
  | 0x04 => (w (x.cause + b01 x.double * 128), s)
  | 0x05 => (x.trapPc.zeroExtend 32, s)
  | 0x06 => (x.trapInfo, s)
  | 0x07 => (x.trapFlags.zeroExtend 32, s)
  | 0x08 => (x.repRem, s)
  | 0x09 => (w s.now, s.modCtx c fun x => { x with timeHi := w (s.now / 2 ^ 32) })
  | 0x0A => (x.timeHi, s)
  | 0x0B => (ticks s, s)
  | 0x20 => (w (Perf.cycles s e), s.modCtx c fun x => { x with cycleHi := w (Perf.cycles s e / 2 ^ 32) })
  | 0x21 => (x.cycleHi, s)
  | 0x2A => (w x.censusSel, s)
  | 0x2B => (w (Perf.censusCount s e x.censusSel), s)
  | r => (w (s.rd (0x5400 + e) (2 + (r - 0x22))), s)

/-- mts: a special register that may be written. -/
def writeSpecial (r : Nat) (w : Word) (x : Ctx) : Ctx :=
  match r with
  | 0x00 => x.setFlags (w.truncate 4)
  | 0x05 => { x with trapPc := w.truncate 13 }
  | 0x07 => { x with trapFlags := w.truncate 4 }
  | _ => { x with censusSel := w.toNat % 64 }

/-! ### One execution -/

/-- The effect of an instruction of a running context whose pc already reads pc_next. SYS instructions that trap, wait or
halt, the repeat prefixes included, are handled where they issue. -/
def exec1 (c : Nat) (op : SeqOp) (s : State) : Ran :=
  let x := s.ctx c
  let g (r : Reg) : Word := x.g.get r
  match op with
  | .nop => .ok s
  | .ret => popped c 1 (fun s =>
      let p := pop1 c s
      if p.1.toNat < 8192 then .ok (Perf.event c 9 1 (jump c (p.1.truncate 13) p.2)) else .trap (.stack p.1)) s
  | .rti => .ok (s.modCtx c fun x => { (x.setFlags x.trapFlags) with pc := x.trapPc, inTrap := false })
  | .yield => .ok (Perf.event c 22 1 s)
  | .wait r => .ok (wait c r s)
  | .swi n => .trap ⟨6, BitVec.ofNat 32 n.val⟩
  | .brk => if x.debug then .ok (s.modCtx c fun x => { x with st := 3 }) else .trap ⟨7, 0⟩
  | .alu f gd gs => .ok (setRes c gd (Flags.alu f (g gd) (g gs)) true s)
  | .shift f gd gs => .ok (setRes c gd (Flags.shift f (g gd) ((g gs).toNat % 32)) true s)
  | .alui f gd i => .ok (setRes c gd (Flags.alu f (g gd) (sext i)) true s)
  | .shifti f gd n => .ok (setRes c gd (Flags.shift f (g gd) n.val) true s)
  | .reg f gd gs =>
    let s := match f with
      | .div | .divu | .rem | .remu => Perf.event c 29 1 s
      | .mul | .mulhs | .mulhu => Perf.event c 30 1 s
      | _ => s
    .ok (setRes c gd (Flags.reg f (g gd) (g gs) x.c) (!Flags.discards f) s)
  | .ldi gd i => .ok (setReg c gd (sext i) s)
  | .cmpi gd i => .ok (setRes c gd (Flags.subb (g gd) (sext i) false) false s)
  | .ldw gd gb m =>
    let a := modeAddr m (g gb) gb
    finishLoad c gd a.2 (BitVec.ofNat 32) a.1 4 s
  | .stw gs gb m =>
    let a := modeAddr m (g gb) gb
    finishStore c a.2 a.1 4 (g gs) s
  | .br k off => .ok (branch c k.val (sext off) s)
  | .brx k off => .ok (branch c k.val (sext off) s)
  | .call a => call c (a.zeroExtend 13) s
  | .jmp a => .ok (jump c (a.zeroExtend 13) s)
  | .callr gs =>
    match outside s c true 1 with
    | some w => .trap (.stack w)
    | none => target (g gs) fun a => call c a s
  | .jmpr gs => target (g gs) fun a => .ok (jump c a s)
  | .callx a => call c a s
  | .jmpx a => .ok (jump c a s)
  | .bit f gd k => .ok (setRes c gd (Flags.bit f (g gd) k.val) true s)
  | .fld f gd gs lsb w1 => .ok (setRes c gd (Flags.fld f (g gd) (g gs) lsb.val (w1.val + 1)) true s)
  | .crc f gd gs => .ok (setRes c gd (Flags.crc f (g gd) (g gs)) true (Perf.event c 31 (if f = .crc32w then 4 else 1) s))
  | .crcm f gd gs =>
    match load c (g gs) 1 s with
    | .trap t => .trap t
    | .stall => .trap (.access (g gs))
    | .value b s => .ok (setRes c gd (Flags.crcm f (g gd) b) true (setReg c gs (g gs + 1) (Perf.event c 31 1 s)))
  | .load z sg gd gb d => finishLoad c gd none (extend z sg) (g gb + sext d) (sizeOf z) s
  | .store z gs gb d => finishStore c none (g gb + sext d) (sizeOf z) (g gs) s
  | .ldbp gd gb => finishLoad c gd (some (gb, g gb + 1)) (BitVec.ofNat 32) (g gb) 1 s
  | .stbp gs gb => finishStore c (some (gb, g gb + 1)) (g gb) 1 (g gs) s
  | .ldwx gd gb gi => finishLoad c gd none (BitVec.ofNat 32) (g gb + 4 * g gi) 4 s
  | .stwx gs gb gi => finishStore c none (g gb + 4 * g gi) 4 (g gs) s
  | .ldbx gd gb gi => finishLoad c gd none (BitVec.ofNat 32) (g gb + g gi) 1 s
  | .stbx gs gb gi => finishStore c none (g gb + g gi) 1 (g gs) s
  | .push gs => pushed c 1 (push1 c (g gs)) s
  | .pop gd => popped c 1 (fun s => let p := pop1 c s; .ok (setReg c gd p.1 p.2)) s
  | .pushm m =>
    let l := (maskRegs m).reverse
    pushed c l.length (fun s => l.foldl (fun s r => push1 c (g r) s) s) s
  | .popm m =>
    let l := maskRegs m
    popped c l.length (fun s => .ok (l.foldl (fun s r => let p := pop1 c s; setReg c r p.1 p.2) s)) s
  | .addsp i => .ok (s.modCtx c fun x => { x with sp := x.sp + sext i })
  | .getsp gd => .ok (setReg c gd x.sp s)
  | .setsp gs => if (g gs).toNat % 4 = 0 then .ok (s.modCtx c fun x => { x with sp := g gs }) else .trap (.align (g gs))
  | .ldil gd i => .ok (setReg c gd i s)
  | .rep _ | .repi _ => .ok s
  | .mfs gd r =>
    if 0x20 ≤ r.toNat ∧ permitted s c = false then .trap (.permit r)
    else let p := readSpecial c r.toNat s; .ok (setReg c gd p.1 p.2)
  | .mts gs r =>
    if 0x20 ≤ r.toNat ∧ permitted s c = false then .trap (.permit r)
    else .ok (s.modCtx c (writeSpecial r.toNat (g gs)))
  | .aluix f gd i => .ok (setRes c gd (Flags.alu f (g gd) (sext i)) true s)
  | .cmpx gd i => .ok (setRes c gd (Flags.subb (g gd) (sext i) false) false s)
  | .tstx gd i => .ok (setRes c gd (Flags.logic (g gd &&& sext i)) false s)
  | .ldix gd i => .ok (setReg c gd (sext i) s)

/-! ### Trap entry (R314 to R317, R342) -/

/-- R342: a context faults: it stops, its locks are freed and CONTEXT_FAULT is raised. -/
def fault (c : Nat) (s : State) : State :=
  Audit.raise (0x1400 + c) (freeLocks c (s.modCtx c fun x => { x with
    st := 4, waiting := none, stalled := none, inRepeat := false,
    mailbox := x.mailbox.bind fun m => if m.storing then some { m with discard := true } else none }))

/-- Trap entry, of four issue slots, at the address TRAPPC is to hold; a trap inside a trap faults the context (R315, R317). TrapCount
counts both (Table 12-10).
DEDUCED: notes/assumptions/87.md. -/
def trapEntry (c : Nat) (t : Trap) (pc : BitVec 13) (s : State) : State :=
  let x := s.ctx c
  let s := Perf.event c 1 4 (Perf.event c 23 1 s)
  let s := Audit.raiseIf (decide (t.cause = 9)) (0x1480 + c / 4 * 4) s
  if x.inTrap then
    fault c ((s.modCtx c fun x => { x with
      cause := t.cause, double := true, trapPc := pc, trapInfo := t.info }).inc (0x5100 + c) 0x0F)
  else
    (s.modCtx c fun x => { x with
      trapPc := pc, cause := t.cause, double := false, trapInfo := t.info, trapFlags := x.flags, inTrap := true,
      pc := BitVec.ofNat 13 (s.rd (0x5100 + c) 4) }).inc (0x5100 + c) 0x0F

/-! ### Issue (R321) -/

/-- The issue slots of an instruction (Tables 11-5 to 11-9); a taken branch needs one more. -/
def slots (op : SeqOp) (taken : Bool) : Nat :=
  match op with
  | .ret | .rti | .call _ | .callr _ | .callx _ => 3
  | .swi _ | .brk => 4
  | .jmp _ | .jmpr _ | .jmpx _ | .ldw .. | .load .. | .ldbp .. | .ldwx .. | .ldbx .. | .pop _ | .crcm .. | .crc .crc32w _ _ => 2
  | .br .. | .brx .. => if taken then 2 else 1
  | .pushm m | .popm m => 1 + (maskRegs m).length
  | .reg f _ _ => match f with
    | .mul => 2 | .mulhs | .mulhu => 3 | .div | .divu | .rem | .remu => 18 | _ => 1
  | _ => 1

/-- A word of majors 0x00 to 0x07 (R318). -/
def isSubset (op : SeqOp) : Bool := decide ((op.encode.headD 0).toNat < 4096)

/-- The condition of a branch holds as it issues (R294). -/
def takes (op : SeqOp) (x : Ctx) : Bool :=
  match op with
  | .br k _ | .brx k _ => Flags.cond k.val x.z x.n x.c x.v
  | _ => false

/-- The instruction reads or writes a word of the paths (Table 12-14). -/
def pathAccess (op : SeqOp) (x : Ctx) : Bool :=
  let path (a : Word) : Bool := decide (0x20000 ≤ a.toNat ∧ a.toNat < 0x23D00)
  let g (r : Reg) : Word := x.g.get r
  match op with
  | .ldw _ gb m | .stw _ gb m => path (modeAddr m (g gb) gb).1
  | .load _ _ _ gb d => path (g gb + sext d)
  | .store _ _ gb d => path (g gb + sext d)
  | .ldwx _ gb gi | .stwx _ gb gi => path (g gb + 4 * g gi)
  | _ => false

/-- The counters of one completed instruction. -/
def retire (c : Nat) (op : SeqOp) (taken : Bool) (s : State) : State :=
  let s := Perf.event c 3 1 (Perf.event c 1 (slots op taken) s)
  if isSubset op then Perf.event c 4 1 s else s

/-- The context may issue: it runs, is inside no wait, path load or repeat (R321). -/
def ready (x : Ctx) : Bool := decide (x.st = 1) && x.waiting.isNone && x.stalled.isNone

/-- The address `n` words after pc. -/
def ahead (pc : BitVec 13) (n : Nat) : BitVec 13 := pc + BitVec.ofNat 13 n

/-- A word that R297 makes undefined traps with UNDEF; `k` is the offending word. DEDUCED: notes/assumptions/86.md. -/
def issueUndef (c : Nat) (w : PWord) (k : Nat) (s : State) : State :=
  let x := s.ctx c
  if ready x ∧ !x.inRepeat then
    Perf.tagIssue c w x.pc true false (trapEntry c (.undef (ahead x.pc k)) x.pc s)
  else s

/-- One instruction of a context: it executes and pc advances by its length, or it traps and changes nothing (R295, R314);
TRAPPC of SWI and BREAK is pc_next. Operands that make a reserved combination trap with UNDEF (R297, R301, R308). A context
that is not ready, or whose store finds its buffer full, stays as it is. DESIGN CHOICE: notes/assumptions/85.md. -/
def issue (c : Nat) (op : SeqOp) (s : State) : State :=
  let x := s.ctx c
  match op.reserved with
  | some k => issueUndef c (op.encode.headD 0) k s
  | none =>
    if ready x ∧ !x.inRepeat then
      let next := ahead x.pc op.len
      match exec1 c op (s.modCtx c fun x => { x with pc := next }) with
      | .ok t => Perf.tagIssue c (op.encode.headD 0) x.pc false (pathAccess op x) (retire c op (takes op x) t)
      | .trap t =>
        Perf.tagIssue c (op.encode.headD 0) x.pc true false
          (trapEntry c t (if t.cause = 6 ∨ t.cause = 7 then next else x.pc) s)
      | .full => s
    else s

/-! ### The repeat prefix (R310 to R313) -/

/-- The register a successor writes, as destination, updated base or pop target. -/
def writes (op : SeqOp) : List Reg :=
  match op with
  | .alu _ gd _ | .shift _ gd _ | .alui _ gd _ | .shifti _ gd _ | .ldi gd _ | .fld _ gd _ _ _ | .crc _ gd _
  | .load _ _ gd _ _ | .ldwx gd _ _ | .ldbx gd _ _ | .pop gd | .getsp gd | .ldil gd _ | .mfs gd _ | .aluix _ gd _
  | .ldix gd _ => [gd]
  | .bit f gd _ => if f = .btst then [] else [gd]
  | .reg f gd _ => if Flags.discards f then [] else [gd]
  | .crcm _ gd gs => [gd, gs]
  | .ldw gd gb m => if m = .post ∨ m = .pre then [gd, gb] else [gd]
  | .stw _ gb m => if m = .post ∨ m = .pre then [gb] else []
  | .ldbp gd gb => [gd, gb]
  | .stbp _ gb => [gb]
  | .popm m => maskRegs m
  | .wait g => [g]
  | _ => []

/-- R311: a successor that writes sp, transfers control, blocks or is a prefix. -/
def hazardous (op : SeqOp) : Bool :=
  match op with
  | .push _ | .pop _ | .pushm _ | .popm _ | .addsp _ | .setsp _ | .call _ | .callr _ | .callx _
  | .ret | .rti | .yield | .wait _ | .swi _ | .brk | .br .. | .brx .. | .jmp _ | .jmpr _ | .jmpx _ | .rep _ | .repi _ => true
  | _ => false

/-- A word of program memory. -/
def fetch (s : State) (e : Nat) (a : BitVec 13) : PWord := BitVec.ofNat 14 (Map.get 0 s.pmem (e * 8192 + a.toNat))

/-- The instruction at an address of an engine's program memory, or the offending word. -/
def decodeAt (s : State) (e : Nat) (a : BitVec 13) : Except Nat SeqOp :=
  SeqDecode.decode (fetch s e a) (fetch s e (ahead a 1)) (fetch s e (ahead a 2))

/-- The value of a path load reaches its register: 24 to 60 cycles of stall, an open value, and the counters of the load
(R323). DESIGN CHOICE: notes/assumptions/90.md. -/
def loaded1 (c : Nat) (path : Nat → State → Nat) (s : State) : State :=
  match (s.ctx c).stalled with
  | none => s
  | some (r, a) =>
    let d := s.open_
    let s := Perf.event c 15 (24 + d.1 % 37) (if 0x22000 ≤ a then Perf.event c 16 1 d.2 else d.2)
    (setReg c (Fin.ofNat 8 r) (BitVec.ofNat 32 (path a s)) s).modCtx c fun x => { x with stalled := none }

/-- What one iteration of a successor at `a` leaves: pc stays at the prefix, a load from a path completes at once, and the
iteration counts and is tagged as one instruction (R347, R350). -/
def iterate1 (c : Nat) (op : SeqOp) (a : BitVec 13) (path : Nat → State → Nat) (s : State) : Ran :=
  let tag (trapped p : Bool) := Perf.tagIssue c (op.encode.headD 0) a trapped p
  match exec1 c op s with
  | .ok t => .ok (tag false (pathAccess op (s.ctx c)) (retire c op false (Perf.event c 5 1 (loaded1 c path t))))
  | .trap t => .trap t
  | .full => .full

/-- `k` iterations of the successor at `a` remain, of which at most `m` run now; the prefix address is kept in pc until the repeat ends. -/
def iterate (c : Nat) (op : SeqOp) (path : Nat → State → Nat) (a : BitVec 13) : Nat → Nat → State → State
  | 0, _, s => s.modCtx c fun x => { x with inRepeat := false, repRem := 0, pc := ahead a op.len }
  | k + 1, 0, s => s.modCtx c fun x => { x with inRepeat := true, repRem := BitVec.ofNat 32 (k + 1) }
  | k + 1, m + 1, s =>
    let s := s.modCtx c fun x => { x with inRepeat := true, repRem := BitVec.ofNat 32 (k + 1) }
    match iterate1 c op a path s with
    | .ok t => iterate c op path a k m t
    | .trap t =>
      trapEntry c t (s.ctx c).pc ((Perf.tagIssue c (op.encode.headD 0) a true false s).modCtx c fun x =>
        { x with inRepeat := false })
    | .full => s

/-- R310 to R313: a prefix of `len` words with its count and the count's source register. `stop` is how many iterations run
before a stop, a halt or a reset interrupts it, none where nothing does. An interrupted repeat goes on without reading its
count again. -/
def repeat_ (c len : Nat) (count : Nat) (gc : Option Reg) (path : Nat → State → Nat) (stop : Option Nat) (prefix_ : SeqOp)
    (s : State) : State :=
  let x := s.ctx c
  let a := ahead x.pc len
  let tag (trapped : Bool) := Perf.tagIssue c (prefix_.encode.headD 0) x.pc trapped false
  let trap (t : Trap) := trapEntry c t x.pc ((tag true s).modCtx c fun x => { x with inRepeat := false })
  if ready x then
    match decodeAt s (c / 4) a with
    | .error _ => trap (.undef a)
    | .ok op =>
      if hazardous op ∨ gc.any (writes op).contains then trap (.hazard a)
      else
        let n := if x.inRepeat then x.repRem.toNat else count
        let s := if x.inRepeat then s else tag false (retire c prefix_ false s)
        iterate c op path a n (stop.getD n) s
  else s

end Seq

end Sys2Proof.Machine
end

