-- ==== Sys2Proof/Machine/SeqRun.lean ====
section
/-! DEFINITION. The life of contexts and engines, what a context publishes, and program loading (R64 to R67, R312, R332,
R336 to R344). -/

namespace Sys2Proof.Machine

namespace Seq

/-! ### Published entries (R64 to R67, R332) -/

/-- The declaration of a published sub-entry. -/
def publishedAt (s : State) (loc : Nat) : Option Published := s.published.find? (·.loc = loc)

/-- The context that has published a group. -/
def groupOwner (s : State) (i : Nat) : Option Nat := (s.published.find? fun p => p.loc / 256 = i).map (·.owner)

/-- The highest sub-index a context has declared in a group. -/
def publishedHighest (s : State) (i : Nat) : Nat :=
  s.published.foldl (fun a p => if p.loc / 256 = i then max a (p.loc % 256) else a) 0

/-- Published sub-entries that meet a condition are withdrawn, with their values. -/
def withdrawPublished (q : Published → Bool) (s : State) : State :=
  let s := (s.published.filter q).foldl (fun s p => s.wr (p.loc / 256) (p.loc % 256) 0) s
  { s with published := s.published.filter fun p => !q p }

/-- The value octets of the published sub-entries (R65). -/
def publishedSize (s : State) : Nat := (s.published.map fun p => p.row.ty.size).sum

/-! ### Starting and stopping (R340, R341) -/

/-- The start values of R293 and R340. -/
def startValues (s : State) (c : Nat) (x : Ctx) : Ctx :=
  { x with
    g := Vector.replicate 8 0, sp := BitVec.ofNat 32 (s.rd (0x5100 + c) 5), pc := BitVec.ofNat 13 (s.rd (0x5100 + c) 3),
    z := false, n := false, c := false, v := false, trapPc := 0, cause := 0, double := false, trapInfo := 0, trapFlags := 0,
    repRem := 0, inRepeat := false, inTrap := false, events := 0, armed := false, waiting := none, stalled := none }

/-- The context runs: from its start values where it has not run since it entered Active. -/
def run (c : Nat) (s : State) : State :=
  let x := s.ctx c
  if x.st = 4 then s
  else s.modCtx c fun x => { (if x.started then x else startValues s c x) with st := 1, started := true }

/-- R341: the context stops with its state kept; an evaluation not yet committing is dropped, and one that is has its
response discarded (R331). A Faulted context stays so. DESIGN CHOICE: notes/assumptions/91.md. -/
def stop (c : Nat) (s : State) : State :=
  s.modCtx c fun x => { x with
    st := if x.st = 4 then 4 else 0,
    mailbox := x.mailbox.bind fun m => if m.storing then some { m with discard := true } else none }

/-- RunControl 0, 1 or 2 takes effect (R340). -/
def runControl (c v : Nat) (s : State) : State :=
  if s.active ⟨5, c⟩ then
    match v with
    | 0 => stop c s
    | 1 => if (s.ctx c).st = 1 then s else run c s
    | _ => run c ((s.modCtx c fun x => { (startValues s c x) with st := 0, started := false }).wr (0x5100 + c) 0x0C 1)
  else if v = 2 then (s.modCtx c fun x => { x with started := false }).wr (0x5100 + c) 0x0C 1
  else s

/-- A context enters Active: not started since, unless it returns from Isolated; it runs if RunControl reads 1. `boot` at
power-up and after a reset, where AutoRun sets RunControl. -/
def enterActive (c : Nat) (fromIsolated boot : Bool) (s : State) : State :=
  let s := if boot ∧ s.rd (0x5100 + c) 8 = 1 then s.wr (0x5100 + c) 0x0C 1 else s
  let s := if fromIsolated then s else s.modCtx c fun x => { x with started := false }
  if s.rd (0x5100 + c) 0x0C = 1 then run c s else s

/-- A context leaves Active (R335, R341, R67, R286); passage through Configure clears the Faulted state (R342). -/
def leaveActive (c : Nat) (s : State) : State :=
  Inputs.closeDest 2 c (withdrawPublished (fun p => p.owner = c) (freeLocks c (stop c s)))

/-- A context enters Configure: the Faulted state clears. -/
def enterConfigure (c : Nat) (s : State) : State :=
  s.modCtx c fun x => { x with st := if x.st = 4 then 0 else x.st, started := false }

/-- RunState (Table 12-10). -/
def runState (x : Ctx) : Nat := if x.st = 1 then (if x.waiting.isSome then 2 else 1) else x.st

/-- TrapRecord shows TRAPCAUSE, TRAPPC and TRAPINFO as they stand (Table 12-10). DEDUCED: notes/assumptions/169.md. -/
def trapRecord (x : Ctx) : Nat := x.cause + b01 x.double * 128 + x.trapPc.toNat * 256 + x.trapInfo.toNat * 2 ^ 32

/-- An image is loaded (Table 12-11). -/
def loaded (s : State) (e : Nat) : Bool := decide (s.rd (0x5000 + e) 5 ≠ 0)

/-- EngineStatus (Table 12-11). -/
def engineStatus (s : State) (e : Nat) : Nat :=
  let bits (p : Nat → Bool) := ((List.range 4).map fun k => if p (runState (s.ctx (4 * e + k))) then 2 ^ k else 0).sum
  bits (· = 1) + bits (· = 2) * 16 + b01 (loaded s e) * 256

/-! ### Resets (R343, R344) -/

/-- Every message of a context's queue leaves the Vault without a count. -/
def rxClear (c : Nat) (s : State) : State := (s.ctx c).rx.foldl (fun s r => rxRemove c r s) s

/-- R343: the effects of a context's reset beside its cells; the census of its engine restarts (R351). -/
def reset (c : Nat) (s : State) : State :=
  let s := freeLocks c (withdrawPublished (fun p => p.owner = c) (rxClear c (stop c s)))
  let s := s.modCtx c fun x => { (startValues s c x) with st := 0, started := false, ownReq := none }
  Perf.censusEnter 3 (c / 4) (s.zero [(0x5100 + c, 0x0F), (0x5100 + c, 0x10), (0x5100 + c, 0x11)])

/-- The words of an engine in a map keyed engine × 8,192 + address. -/
def engineWords (e : Nat) (m : NatMap Nat) : NatMap Nat := m.filter fun p => p.1 / 8192 = e

/-- The program memory of an engine replaced by words keyed by address. -/
def setProgram (e : Nat) (words : NatMap Nat) (m : NatMap Nat) : NatMap Nat :=
  words.foldl (fun m p => Map.put 0 m (e * 8192 + p.1) p.2) (m.filter fun p => p.1 / 8192 ≠ e)

/-- R344: the effects of an engine's reset beside its contexts: the stored image is reloaded, data memory clears, the
counters return to 0. -/
def resetEngine (e : Nat) (s : State) : State :=
  let s := Perf.clear e { s with
    pmem := setProgram e ((engineWords e s.storedImages).map fun p => (p.1 % 8192, p.2)) s.pmem,
    dmem := s.dmem.filter fun p => p.1 / 16384 ≠ e }
  let s := [5, 6, 7].foldl (fun s j => s.wr (0x5000 + e) j (Store.value s (0x5000 + e) j)) s
  Perf.censusEnter 3 e ((s.wr (0x5000 + e) 8 0).modEng e fun r => { r with fetchBad := [], dataBad := [] })

/-- The image persists with its engine's configuration (R337, R43). -/
def saveImage (e : Nat) (s : State) : State :=
  let s := { s with storedImages := setProgram e ((engineWords e s.pmem).map fun p => (p.1 % 8192, p.2)) s.storedImages }
  [5, 6, 7].foldl (fun s j => Store.save ((0x5000 + e) * 256 + j) s) s

/-! ### Program load (R336, R337) -/

/-- LoadStatus: Open, LastCommitOk, words staged, counted up to the highest. -/
def loadStatus (s : State) : Nat :=
  b01 s.load.isSome + b01 s.loadOk * 2 + (s.load.elim 0 fun l => l.top) * 65536

/-- While a load is open, a write of the group by another is refused with BUSY. -/
def loadBusy (s : State) (w : Writer) : Bool := s.load.any fun l => l.owner ≠ w

/-- Begin: the engine in Configure with none of its contexts Active, and no load open. -/
def beginStatus (s : State) : Status :=
  let e := s.rd 0x5200 1
  if s.load.isSome then .busy
  else if s.fn ⟨4, e⟩ ≠ 1 ∨ (List.range 4).any fun k => s.active ⟨5, 4 * e + k⟩ then .state
  else .ok

/-- Begin opens a load and clears the staging memory; a 1.3 session's load is in TZ-96 format.
DESIGN CHOICE: notes/assumptions/92.md. -/
def begin_ (w : Writer) (old : Bool) (s : State) : State :=
  { s with load := some { owner := w, tz96 := old || decide (s.rd 0x5200 2 = 2), target := s.rd 0x5200 1 }, loadOk := false }

/-- The 120 words of LoadData. -/
def words (v : Nat) : List Nat := (List.range 120).map fun i => v / 65536 ^ i % 65536

/-- The words of LoadData that fit, from LoadAddress on. -/
def fitting (s : State) (v : Nat) : List Nat := (words v).take (8192 - s.rd 0x5200 3)

/-- R337: the status of a LoadData write. -/
def dataStatus (s : State) (v : Nat) : Status :=
  match s.load with
  | none => .state
  | some l =>
    let top := if l.tz96 then 4096 else 16384
    if (fitting s v).any (top ≤ ·) then .reserved
    else if l.full then .range
    else if ((words v).drop (8192 - s.rd 0x5200 3)).any (· ≠ 0) then .range
    else .ok

/-- R337: 120 words are staged at LoadAddress, which advances. -/
def loadData (v : Nat) (s : State) : State :=
  let a := s.rd 0x5200 3
  let ws := fitting s v
  let n := a + 120
  { (s.wr 0x5200 3 (if 0x1FFF < n then 0x1FFF else n)) with
    load := s.load.map fun l => { l with
      words := (List.range ws.length).foldl (fun m i => Map.put 0 m (a + i) (ws.getD i 0)) l.words,
      full := decide (0x1FFF < n), top := max l.top (a + ws.length) } }

/-- A written LoadAddress ends the full condition. -/
def loadAddress (s : State) : State := { s with load := s.load.map fun l => { l with full := false } }

/-- The octets over which LoadCheck runs. -/
def imageOctets (l : ProgLoad) (n : Nat) : List Byte := (List.range n).flatMap fun i => octets 2 (Map.get 0 l.words i)

/-- R337: the conditions of Commit. -/
def commitStatus (s : State) : Status :=
  match s.load with
  | none => .state
  | some l =>
    let n := s.rd 0x5200 5
    if Flags.crc32Of (imageOctets l n) ≠ s.rd 0x5200 6 then .range
    else if l.tz96 ∧ 4096 < n then .range
    else if n = 0 then .range
    else if s.fn ⟨4, l.target⟩ ≠ 1 then .state
    else .ok

/-- R337: Commit copies the image into program memory, the rest reading nop, and closes the load. -/
def commit (s : State) : State :=
  match s.load with
  | none => s
  | some l =>
    let n := s.rd 0x5200 5
    let e := 0x5000 + l.target
    let s := { s with
      pmem := setProgram l.target (l.words.filter fun p => p.1 < n) s.pmem, load := none, loadOk := true }
    let s := s.modEng l.target fun r => { r with fetchBad := [] }
    ((s.wr e 5 (if l.tz96 then 2 else 1)).wr e 6 n).wr e 7 (s.rd 0x5200 6)

/-- Abort, or the close of the session or the stop of the context that issued Begin. -/
def abort (s : State) : State := { s with load := none }

/-- The load of a session or context that closes is closed. -/
def abortOf (w : Writer) (s : State) : State := if s.load.any (·.owner = w) then abort s else s

end Seq

end Sys2Proof.Machine
end

