-- ==== Sys2Proof/Machine/Update.lean ====
section
/-! DEFINITION. Field update: staging, the manifest, block differences, the build, the schedule and the activation boot
(chapter 18, R490 to R512). -/

namespace Sys2Proof.Machine

/-- The state with the update engine's record changed. -/
def State.modUpdate (s : State) (f : Update → Update) : State := { s with update := f s.update }

namespace Upd

/-! ### Staging (R496, R498) -/

/-- Octets in the staging area. -/
def areaSize : Nat := 7340032

/-- One staged octet; one that nothing has written reads 0. -/
def octet (s : State) (a : Nat) : Byte := Map.get 0 s.update.staging a

/-- `n` staged octets from offset `a`. -/
def span (s : State) (a n : Nat) : List Byte := (List.range n).map fun i => octet s (a + i)

/-- A little-endian number of `n` staged octets. -/
def num (s : State) (a n : Nat) : Nat := leNat (span s a n)

/-- Staged octets written. -/
def store (a : Nat) (l : List Byte) (s : State) : State :=
  s.modUpdate fun u => { u with
    staging := (List.range l.length).foldl (fun m i => Map.put 0 m (a + i) (l.getD i 0)) u.staging }

/-- UpdateState. -/
def st (s : State) : Nat := s.rd 0x7C00 1

/-- UpdateState set. -/
def setSt (v : Nat) (s : State) : State := s.wr 0x7C00 1 v

/-- UpdateResult: code and part index (Table 18-11). -/
def setResult (code index : Nat) (s : State) : State := s.wr 0x7C00 9 (code + index * 256)

/-- The status of a StageData write before its loan (R498). -/
def stageStatus (s : State) : Status :=
  let o := s.rd 0x7C00 3
  if st s ≠ 1 then .state
  else if s.update.job.isSome then .busy
  else if s.rd 0x7C00 5 < o ∨ areaSize < o + 240 then .range
  else .ok

/-- The loan of a staging burst is requested (Table 07-4, kind 7). -/
def askLoan (s : State) : State := Teller.ask (Teller.logicLoan s 0x1001 7 300 2000 (s.rd 0x4A07 2)) false s

/-- The 240 octets are written, StageOffset advances and StagedLength follows. -/
def stageWrite (v : Nat) (s : State) : State :=
  let o := s.rd 0x7C00 3
  let s := (store o (octets 240 v) s).wr 0x7C00 3 (o + 240)
  s.wr 0x7C00 5 (max (s.rd 0x7C00 5) (o + 240))

/-! ### Firmware banks (R490, R491) -/

/-- Instances of a part type and the capacity of one (Table 18-1). -/
def instances : Nat → Nat
  | 1 => 1 | 2 => 9 | 3 => 16 | 4 => 1 | 5 => 32 | _ => 0
/-- Capacity per instance in octets (Table 18-1). -/
def capacity : Nat → Nat
  | 1 => 16777216 | 2 => 524288 | 3 => 16384 | 4 => 262144 | 5 => 16384 | _ => 0

/-- Every (type, instance) of Table 18-1 in order. -/
def allParts : List (Nat × Nat) := [1, 2, 3, 4, 5].flatMap fun t => (List.range (instances t)).map fun i => (t, i)

/-- The blocks of a part of `n` octets. -/
def blocksOf (n : Nat) : Nat := divUp n 4096

/-- Octet `o` of a block. -/
def octetOf (b : Block) (o : Nat) : Byte :=
  match b with
  | .factory t i k => Config.partOctet t i (k * 4096 + o)
  | .data l => l.getD o 0
  | .fill v => BitVec.ofNat 8 v

/-- The octets of a part. -/
def octetsOf (p : Part) : List Byte :=
  (List.range p.length).map fun o => octetOf (p.blocks.getD (o / 4096) (.fill 0)) (o % 4096)

/-- A part as programmed at manufacture, of at most its capacity; engine images are absent there.
DESIGN CHOICE: notes/assumptions/137.md. -/
def factoryPart (t i : Nat) : Part :=
  let n := if t = 5 then 0 else min (Config.partLength t i) (capacity t)
  let p : Part := { type := t, inst := i, length := n, blocks := (List.range (blocksOf n)).map (.factory t i), digest := 0 }
  { p with digest := Config.sha256 (octetsOf p) }

/-- A part of a bank; a part that it does not hold is absent. -/
def partOf (b : FwBank) (t i : Nat) : Part :=
  if b.factory then factoryPart t i
  else (b.parts.find? fun p => decide (p.type = t ∧ p.inst = i)).getD { type := t, inst := i, length := 0, blocks := [], digest := Config.sha256 [] }

/-- The installed and the inactive bank. -/
def installed (s : State) : FwBank := if s.update.bank = 0 then s.update.bankA else s.update.bankB
/-- The bank that an update builds. -/
def inactive (s : State) : FwBank := if s.update.bank = 0 then s.update.bankB else s.update.bankA

/-- The inactive bank replaced. -/
def setInactive (b : FwBank) (s : State) : State :=
  s.modUpdate fun u => if u.bank = 0 then { u with bankB := b } else { u with bankA := b }

/-- FirmwareVersion (R491): of the firmware of manufacture, or of the bank's manifest. -/
def version (s : State) : Nat := if (installed s).factory then Config.firmwareVersion else (installed s).version

/-! ### The manifest (R492, R493, Tables 18-2 to 18-4) -/

/-- PartCount. -/
def count (s : State) : Nat := num s 5 1

/-- A part descriptor. -/
structure Desc where
  type : Nat
  inst : Nat
  reserved : Nat
  length : Nat
  offset : Nat
  size : Nat
  hash : Nat
  deriving DecidableEq, Repr

/-- Descriptor `i` of the staged manifest. -/
def desc (s : State) (i : Nat) : Desc :=
  let a := 48 + 48 * i
  { type := num s a 1, inst := num s (a + 1) 1, reserved := num s (a + 2) 2, length := num s (a + 4) 4,
    offset := num s (a + 8) 4, size := num s (a + 12) 4, hash := num s (a + 16) 32 }

/-- The descriptors in manifest order. -/
def descs (s : State) : List Desc := (List.range (count s)).map (desc s)

/-- Reserved octets of the manifest that are not 0. -/
def reservedBad (s : State) : Bool :=
  decide (num s 6 2 ≠ 0 ∨ num s 36 12 ≠ 0) || (descs s).any fun d => decide (d.reserved ≠ 0)

/-- The first octets of the SHA-256 over SerialNumber. -/
def serialDigest : Nat := Config.sha256 (octets 16 serialNumber) % 2 ^ 128

/-- HardwareType of the module: the variant in [7:0] (R554). -/
def hardwareType (s : State) : Nat := 0x0512B000 + b01 s.ca

/-- Check 8 of Table 18-4. -/
def layoutOk (s : State) : Bool :=
  let l := descs s
  let idx := List.range l.length
  idx.all fun i =>
    let d := desc s i
    decide (d.inst < instances d.type ∧ d.length ≤ capacity d.type ∧ (d.type = 5 → d.length % 2 = 0))
      && decide (4096 ≤ d.offset ∧ d.offset + d.size ≤ s.rd 0x7C00 5)
      && idx.all fun j =>
          let x := desc s j
          decide (i = j) || (decide (d.type ≠ x.type ∨ d.inst ≠ x.inst)
            && decide (d.offset + d.size ≤ x.offset ∨ x.offset + x.size ≤ d.offset ∨ d.size = 0 ∨ x.size = 0))

/-- The result code of the first check that fails, 0 where the manifest is accepted (Table 18-4). -/
def manifestCode (s : State) : Nat :=
  let n := 48 + 48 * count s
  let hw := num s 8 4
  if num s 0 4 ≠ 0x4D555A54 ∨ num s 4 1 ≠ 1 ∨ count s = 0 ∨ 64 < count s ∨ reservedBad s then 2
  else if hw / 256 ≠ 0x0512B0 ∨ (hw % 256 ≠ 0xFF ∧ hw ≠ hardwareType s) then 3
  else if num s 12 16 ≠ 0 ∧ num s 12 16 ≠ serialDigest then 4
  else if num s 28 4 ≠ version s then 5
  else if num s 32 4 ≤ version s ∨ num s 32 4 < s.rd 0x7C00 0x0E then 6
  else if s.rd 0x7C00 0x0D = 0 ∨ !Config.ecdsaVerify (s.rd 0x7C00 0x0D) (Config.sha256 (span s 0 n)) (num s n 64) then 7
  else if !layoutOk s then 8
  else 0

/-! ### Update commands (R497, Table 18-6) -/

/-- The status of an UpdateCommand. -/
def commandStatus (s : State) (v : Nat) : Status :=
  if v ≠ 1 ∧ v ≠ 2 ∧ v ≠ 5 then .range
  else if s.rd 0x7C00 2 = Status.busy.code then .busy
  else match v with
    | 1 => if [0, 1, 2, 4, 6].contains (st s) then .ok else .state
    | 2 => if st s = 1 then .ok else .state
    | _ => if st s = 5 then .state else .ok

/-- A build, waiting or running, ends with its loan. -/
def stopBuild (s : State) : State :=
  (if s.update.job.isSome then s else Teller.giveBack 0x1001 (Teller.withdraw 0x1001 s)).modUpdate fun u => { u with bursting := false, asked := false, retryAt := none }

/-- Begin. -/
def begin_ (s : State) : State :=
  let s := if st s = 2 then stopBuild s else s
  setSt 1 (((s.wr 0x7C00 2 Status.ok.code).wr 0x7C00 5 0).modUpdate fun u => { u with built := false })

/-- Finish: the check of the manifest runs; the action reads BUSY until it completes. -/
def finish (s : State) : State := (s.wr 0x7C00 2 Status.busy.code).modUpdate fun u => { u with checking := true }

/-- Discard: a running build stops. -/
def discard (s : State) : State :=
  let s := if st s = 2 ∨ st s = 3 then stopBuild s else s
  setSt 0 ((s.wr 0x7C00 2 Status.ok.code).wr 0x7C00 5 0)

/-- The loan of the next build burst is requested, after that of a StageData write that still waits. -/
def askBuild (s : State) : State :=
  let s := s.modUpdate fun u => { u with asked := true, retryAt := none }
  if s.update.job.isSome then s else askLoan s

/-- A StageData write has ended: a build that waited for it asks now. -/
def jobEnded (s : State) : State := if s.update.asked then askLoan s else s

/-- MANIFEST_CHECK_COMPLETE: acceptance stages the build, refusal names the check (R493, R497).
DESIGN CHOICE: notes/assumptions/139.md. -/
def checked (s : State) : State :=
  if s.update.checking then
    let s := s.modUpdate fun u => { u with checking := false }
    match manifestCode s with
    | 0 => askBuild (setSt 2 (((s.wr 0x7C00 2 Status.ok.code).wr 0x7C00 0x0C (num s 32 4)).wr 0x7C00 0x0B 0))
    | code =>
      let status := if code = 2 ∧ reservedBad s then Status.reserved else .range
      Audit.raise 0x1A00 (setResult code 0xFF (s.wr 0x7C00 2 status.code))
  else s

/-! ### The build (R494, R495, R499) -/

/-- `n` blocks of a record, or the octets left of its part, from an installed part: none where they read beyond it. -/
def copied (s : State) (t i from_ n left : Nat) : Option (List Block) :=
  let p := partOf (installed s) t i
  if from_ * 4096 + min left (n * 4096) ≤ p.length then some ((p.blocks.drop from_).take n) else none

/-- The blocks of a difference: `off` and `size` what is left of it, `left` the octets the part still needs. None after the
blocks that a bad record leaves. -/
def expand (s : State) : Nat → Nat → Nat → Nat → List (Option Block)
  | 0, _, _, _ => []
  | fuel + 1, off, size, left =>
    if left = 0 then (if size = 0 then [] else [none])
    else
      let need := blocksOf left
      let take (len n : Nat) (bs : List Block) : List (Option Block) :=
        bs.map some ++ expand s fuel (off + len) (size - len) (left - min left (n * 4096))
      match num s off 1 with
      | 1 =>
        let n := num s (off + 8) 4
        if size < 12 ∨ n = 0 ∨ need < n ∨ num s (off + 3) 1 ≠ 0 then [none]
        else match copied s (num s (off + 1) 1) (num s (off + 2) 1) (num s (off + 4) 4) n left with
          | some bs => take 12 n bs
          | none => [none]
      | 2 =>
        let n := num s (off + 4) 4
        if size < 8 + n * 4096 ∨ n = 0 ∨ need < n ∨ num s (off + 1) 3 ≠ 0 then [none]
        else take (8 + n * 4096) n ((List.range n).map fun k => .data (span s (off + 8 + k * 4096) 4096))
      | 3 =>
        let n := num s (off + 4) 4
        if size < 8 ∨ n = 0 ∨ need < n ∨ num s (off + 2) 2 ≠ 0 then [none]
        else take 8 n (List.replicate n (.fill (num s (off + 1) 1)))
      | _ => [none]

/-- The blocks of a listed part. -/
def listed (s : State) (d : Desc) : List (Option Block) := expand s (blocksOf d.length + 1) d.offset d.size d.length

/-- What the build writes in order: the part's index in the manifest (0xFE for a part copied whole) and its block, none for a
record in error. -/
def plan (s : State) : List (Nat × Option Block) :=
  let l := (List.range (count s)).flatMap fun i => (listed s (desc s i)).map fun b => (i, b)
  let rest := allParts.filter fun p => (descs s).all fun d => decide (d.type ≠ p.1 ∨ d.inst ≠ p.2)
  l ++ rest.flatMap fun p => (partOf (installed s) p.1 p.2).blocks.map fun b => (0xFE, some b)

/-- The bank that a completed build has written. -/
def builtBank (s : State) : FwBank :=
  let new := (descs s).map fun d : Desc =>
    ({ type := d.type, inst := d.inst, length := d.length, blocks := (listed s d).filterMap id, digest := d.hash } : Part)
  let rest := allParts.filter fun p => (descs s).all fun d => decide (d.type ≠ p.1 ∨ d.inst ≠ p.2)
  { factory := false, parts := new ++ rest.map fun p => partOf (installed s) p.1 p.2, version := num s 32 4 }

/-- The grant of a staging loan: a waiting StageData write's burst begins, or a build burst. -/
def granted (s : State) : State :=
  if s.update.job.isSome then s.modUpdate fun u => { u with job := u.job.map fun j => { j with running := true } }
  else
    let s := s.modUpdate fun u => { u with asked := false, bursting := true }
    if st s = 2 then setSt 3 s else s

/-- A build loan is declined: it is requested again after 100 ms. -/
def buildDeclined (s : State) : State :=
  s.modUpdate fun u => { u with asked := false, retryAt := some (s.ticks + 100000) }

/-- BUILD_LOAN_RETRY. -/
def buildRetry (s : State) : State :=
  match s.update.retryAt with
  | some t => if t ≤ s.ticks ∧ (st s = 2 ∨ st s = 3) then askBuild s else s
  | none => s

/-- BUILD_BURST_COMPLETE: up to 16 blocks are written; the build goes on, completes or fails (R499).
DESIGN CHOICE: notes/assumptions/138.md. -/
def burst (s : State) : State :=
  if s.update.bursting ∧ st s = 3 then
    let s := Teller.giveBack 0x1001 (s.modUpdate fun u => { u with bursting := false })
    let done := s.rd 0x7C00 0x0B
    let p := plan s
    let now := (p.drop done).take 16
    match now.find? (·.2.isNone) with
    | some (i, _) =>
      let good := (now.takeWhile (·.2.isSome)).length
      let d := desc s i
      let s := (setResult 9 i (setSt 6 (s.wr 0x7C00 0x0B (done + good)))).wr 0x7C00 0x0A (d.type + d.inst * 256)
      Audit.raise 0x1A01 s
    | none =>
      let s := s.wr 0x7C00 0x0B (done + now.length)
      if p.length ≤ done + now.length then setSt 4 ((setInactive (builtBank s) s).modUpdate fun u => { u with built := true })
      else askBuild s
  else s

/-! ### The schedule (R501, R503) -/

/-- The status of an ActivationCommand. -/
def activationStatus (s : State) (v : Nat) : Status :=
  let t := s.rd 0x7C00 6
  match v with
  | 1 =>
    if st s ≠ 4 ∨ s.rd 0x7600 1 < 200 then .state
    else if t < s.now + 1000000000 ∨ s.now + 2592000000000000 < t then .range
    else .ok
  | 2 => if st s = 5 then .ok else .state
  | _ => .range

/-- A committed ActivationCommand. -/
def activation (v : Nat) (s : State) : State := (setSt (if v = 1 then 5 else 4) s).wr 0x7C00 7 Status.ok.code

/-! ### The activation boot (R504 to R508) -/

/-- The condition of Table 18-7 that fails, by its code. -/
def skipCode (s : State) : Option Nat :=
  if !s.supervisor.runs ∨ s.supervisor.takingOver then some 10
  else if Escrow.powerState s ≠ 2 ∧ Escrow.powerState s ≠ 3 then some 11
  else if s.rdBit 0x7C00 8 0 ∧ s.rd 0x1200 3 ≠ 2 then some 12
  else none

/-- The engines whose program the manifest lists. -/
def engines (s : State) : List Nat := ((descs s).filter (·.type = 5)).map (·.inst)

/-- Stage 1: the contexts of listed engines stop, every bank enters planned escrow, both pairs stop, the Ledger is blanked
(R505, R506). -/
def beginActivation (s : State) : State :=
  let s := (engines s).foldl (fun s e => [0, 1, 2, 3].foldl (fun s k => Seq.stop (e * 4 + k) s) s) s
  let s := (List.range 16).foldl (fun s b => Escrow.enterBank .planned b s) s
  let standby := 1 - s.supervisor.running
  let s := { s with
    blank := true,
    supervisor := { s.supervisor with
      runs := false, standbyReady := false, failed := [],
      absentSince := if s.supervisor.standbyReady then some s.ticks else s.supervisor.absentSince, testing := [(standby, s.ticks)] } }
  (s.wr 0x7C00 0x10 s.now).modUpdate fun u => { u with activation := some { stage := 2 } }

/-- ACTIVATION_TICK: module time has reached ActivationTime: the activation is skipped or begins (R502, R504). -/
def tick (s : State) : State :=
  if st s = 5 ∧ s.update.activation.isNone ∧ s.rd 0x7C00 6 ≤ s.now then
    match skipCode s with
    | some c => Audit.raise 0x1A02 (setResult c 0xFF (setSt 4 s))
    | none => beginActivation s
  else s

/-- Whether a part of the inactive bank has the digest it should. -/
def digestOk (p : Part) : Bool := decide (Config.sha256 (octetsOf p) = p.digest)

/-- The first failing part of stage 2: in manifest order, then the unlisted ones, as (index, FailedPart). -/
def badPart (s : State) : Option (Nat × Nat) :=
  let b := inactive s
  match (List.range (count s)).find? fun i => let d := desc s i; !digestOk (partOf b d.type d.inst) with
  | some i => let d := desc s i; some (i, d.type + d.inst * 256)
  | none =>
    ((allParts.filter fun p => (descs s).all fun d => decide (d.type ≠ p.1 ∨ d.inst ≠ p.2)).find? fun p =>
      !digestOk (partOf b p.1 p.2)).map fun p => (0xFE, p.1 + p.2 * 256)

/-- The activation changed. -/
def modActivation (f : Activation → Activation) (s : State) : State :=
  s.modUpdate fun u => { u with activation := u.activation.map f }

/-- ACTIVATION_HASH_DONE: stage 3 with every digest right, otherwise stage 4. -/
def hashDone (s : State) : State :=
  if s.update.activation.any (·.stage = 2) then
    match badPart s with
    | none => modActivation (fun a => { a with stage := 3 }) s
    | some (i, p) => modActivation (fun a => { a with stage := 4, failure := some (13, i, p) }) s
  else s

/-- A failed start in stage 2 or 3: stage 4 with code 14 and the part. -/
def startFailed (part : Nat × Nat) (s : State) : State :=
  let i := ((List.range (count s)).find? fun i => let d := desc s i; decide (d.type = part.1 ∧ d.inst = part.2)).getD 0xFE
  modActivation (fun a => { a with stage := 4, failure := some (14, i, part.1 + part.2 * 256) }) s

/-- The words of an engine part. -/
def words (p : Part) : NatMap Nat :=
  (List.range (p.length / 2)).foldl (fun m a =>
    let b := p.blocks.getD (a * 2 / 4096) (.fill 0)
    Map.put 0 m a (leNat [octetOf b (a * 2 % 4096), octetOf b (a * 2 % 4096 + 1)])) []

/-- The image of a listed engine becomes its stored one (R506), in native format; its length and check follow Table 12-11.
DESIGN CHOICE: notes/assumptions/168.md. -/
def installImage (e : Nat) (s : State) : State :=
  let p := partOf (inactive s) 5 e
  let g := 0x5000 + e
  let s := { s with storedImages := Seq.setProgram e (words p) s.storedImages }
  let s := ((s.wr g 5 (b01 (decide (p.length ≠ 0)))).wr g 6 (p.length / 2)).wr g 7
    (if p.length = 0 then 0 else Flags.crc32Of (octetsOf p))
  [5, 6, 7].foldl (fun s j => Store.save (g * 256 + j) s) s

/-- A listed engine after the boot: its image becomes the stored one on success, and it undergoes a per-function reset
(R344, R506). -/
def engineBoot (new : Bool) (e : Nat) (s : State) : State :=
  let s := if new then installImage e s else s
  Seq.resetEngine e ([0, 1, 2, 3].foldl (fun s k => Seq.reset (e * 4 + k) s) s)

/-- A listed PHY restarts: its link drops, which LinkDownCount counts and LINK_DOWN does not tell. -/
def phyBoot (p : Nat) (s : State) : State := if (s.port p).link then (Switch.dropLink p s).inc (0x6000 + p) 0x2D else s

/-- Stage 5 begins: the heartbeat resumes, every bank in planned escrow is reconciled (R480, R505), and every engine's census
restarts (R351). -/
def resume (s : State) : State :=
  let s := { s with supervisor := { s.supervisor with runs := true, takingOver := false, lastBeat := s.ticks } }
  let s := (List.range 16).foldl (fun s b =>
    let s := s.modBank b fun r => { r with beatAt := s.ticks, lost := false }
    Escrow.endBank .planned b s) s
  modActivation (fun a => { a with stage := 5 }) ((List.range 32).foldl (fun s e => Perf.censusEnter 3 e s) s)

/-- ACTIVATION_START_DONE: every part has started and the boot record is written, or a part has failed (R507, R508).
DESIGN CHOICE: notes/assumptions/140.md. -/
def startDone (failed : Option (Nat × Nat)) (s : State) : State :=
  if s.update.activation.any (·.stage = 3) then
    match failed with
    | some p => startFailed p s
    | none =>
      let s := ((descs s).filter (·.type = 2)).foldl (fun s d => phyBoot d.inst s) s
      let s := (engines s).foldl (fun s e => engineBoot true e s) s
      let n := 112 + 48 * count s
      let s := s.modUpdate fun u => { u with bank := 1 - u.bank, built := false }
      let s := (s.wr 0x7C00 0x0F (Config.sha256 (span s 0 n) % 2 ^ 128)).inc 0x7C00 0x11
      let s := setResult 1 0xFF (setSt 0 (s.wr 0x1300 4 2))
      resume (Audit.raise 0x1A05 (modActivation (fun a => { a with committed := true }) s))
  else s

/-- FALLBACK_DONE: the installed bank runs again (R508). -/
def fallback (s : State) : State :=
  match s.update.activation with
  | some a =>
    if a.stage = 4 then
      let (code, i, p) := a.failure.getD (14, 0xFF, 0)
      let s := (engines s).foldl (fun s e => engineBoot false e s) s
      let s := ((setResult code i (setSt 6 (s.wr 0x1300 4 3))).wr 0x7C00 0x0A p).inc 0x7C00 0x12
      resume (Audit.raise 0x1A03 s)
    else s
  | none => s

/-- The keystore schema is listed: every session closes (R26, R506). -/
def closesSessions (s : State) : Bool := (descs s).any (·.type = 4)

/-- The end of stage 5: contexts of listed engines whose RunControl reads 1 start. -/
def ended (s : State) : State :=
  let s := (engines s).foldl (fun s e => [0, 1, 2, 3].foldl (fun s k =>
    if s.active ⟨5, e * 4 + k⟩ ∧ s.rd (0x5100 + e * 4 + k) 0x0C = 1 then Seq.runControl (e * 4 + k) 2 s else s) s) s
  s.modUpdate fun u => { u with activation := none }

/-! ### Power (R500, R503, R509) -/

/-- What a start makes of the update's state: an activation cut short, a cancelled schedule, a build from block 0.
DESIGN CHOICE: notes/assumptions/141.md. DESIGN CHOICE: notes/assumptions/142.md. -/
def powerUp (s : State) : State :=
  let a := s.update.activation
  let s := s.modUpdate fun u => { u with
    activation := none, job := none, checking := false, bursting := false, asked := false, retryAt := none }
  match a with
  | some x =>
    if x.committed then s
    else Audit.raise 0x1A04 ((setResult 15 0xFF (setSt 4 s)).wr 0x7C00 6 0)
  | none =>
    if st s = 5 then (setResult 16 0xFF (setSt 4 s)).wr 0x7C00 6 0
    else if st s = 2 ∨ st s = 3 then askBuild (setSt 2 (s.wr 0x7C00 0x0B 0))
    else s

end Upd

end Sys2Proof.Machine
end

