-- ==== Sys2Proof/Machine/Causes.lean ====
section
/-! DEFINITION. The cause of an Audit source (R472): whether the condition that its owning chapter states persists. -/

namespace Sys2Proof.Machine

namespace Cause

/-- Sources of a channel (Table 05-12). -/
def channel (s : State) (n k : Nat) : Bool :=
  let c := s.cell n
  let f := Protect.flags s n
  match k with
  | 0 => decide (2 ≤ c.prot ∧ c.prot ≤ 4) && c.tripLimiting
  | 1 => decide (2 ≤ c.prot ∧ c.prot ≤ 4) && !c.tripLimiting
  | 2 => bitOf f 0
  | 3 => bitOf f 1 || bitOf f 4 || bitOf f 5
  | 4 => bitOf f 2
  | 5 => bitOf f 3
  | _ => false

/-- HeartbeatOk of a bank (Table 04-10). -/
def heartbeatOk (s : State) (b : Nat) : Bool :=
  !(s.bank b).lost && !(s.bank b).unpowered && decide (s.ticks < (s.bank b).beatAt + 1350)

/-- Sources of a bank (Table 04-15). -/
def bank (s : State) (b k : Nat) : Bool :=
  let r := s.bank b
  match k with
  | 0 => r.supplyOff
  | 1 => !heartbeatOk s b
  | 2 => r.clockFault
  | 3 => decide (32000 < r.supplyMv)
  | 4 => decide (50 < (signed 32 (s.rd (0x4900 + b) 0x0A)).natAbs)
  | 5 => decide (r.supplyMv < 4500) && (List.range 32).any fun i => decide (Chan.command s (b * 32 + i) ≠ 0 ∧ Chan.command s (b * 32 + i) ≠ 5)
  | 6 => r.tabOver
  | _ => false

/-- Sources of the Teller (Table 07-11). -/
def teller (s : State) (k : Nat) : Bool :=
  match k with
  | 1 => decide (512 ≤ s.teller.queue.length)
  | 2 => decide (128 ≤ (Teller.inFlight s.teller).length)
  | 5 => decide ((Teller.moduleCeiling s * 100000000 : Nat) < Teller.pModule s)
  | 6 => decide (s.rd 0x4A00 5 * 1000 < Teller.battery s)
  | 7 => s.teller.queue.any fun l => decide (l.budget = 16) && l.toldLogic
  | 8 => decide (850 < signed 16 (s.rd 0x4A00 9))
  | _ =>
    if 0x20 ≤ k then decide (Teller.excessUsed s (k - 0x20) ≠ 0)
    else if 0x10 ≤ k then
      decide ((s.rd 0x4A03 (1 + (k - 0x10)) * 1000000 : Nat) < Teller.pProj s (k - 0x10) ∨ 1400 ≤ signed 16 (s.rd (0x4900 + (k - 0x10)) 7))
    else false

/-- Sources of a switch port (chapter 13). -/
def port (s : State) (p k : Nat) : Bool :=
  match k with
  | 0 => !Switch.linked s p
  | 5 => decide (0xC0000000 ≤ Switch.entry s p 0x15)
  | _ => false

/-- Sources of the field buses (chapter 14). -/
def bus (s : State) (id : Nat) : Bool :=
  if id < 0x1680 then
    let k := (id - 0x1600) / 8
    match id % 8 with
    | 0 => decide (Bus.errorState (s.can k) = 2)
    | 1 => decide (Bus.errorState (s.can k) = 1)
    | 2 => (s.can k).alone
    | 3 => !(Bus.suspendedIds s k).isEmpty
    | 5 => (s.can k).transceiver
    | _ => false
  else if id < 0x16C0 then decide (id % 8 = 2) && (s.lin ((id - 0x1680) / 8)).busHeld
  else
    let r := s.t1s ((id - 0x16C0) / 4)
    (decide (id % 4 = 0) && r.beaconLost) || (decide (id % 4 = 2) && r.phyFault)

/-- Sources of the access engine (chapter 16). -/
def access (s : State) (k : Nat) : Bool :=
  if k = 1 then Access.locked s
  else if k = 4 then decide (s.rd 0x7000 0x13 = 255)
  else if 8 ≤ k ∧ k < 16 then !Access.present s (k - 8)
  else decide (16 ≤ k ∧ k < 20) && s.access.lfWeak.contains (k - 16)

/-- Sources of supplies and clocks (Table 19-12). -/
def supply (s : State) (k : Nat) : Bool :=
  match k with
  | 0 => s.supply.aLow
  | 1 => s.supply.bLow
  | 2 => s.supply.logicLow
  | 4 => s.supply.kaLow
  | 5 => s.supply.onBackup
  | 6 => !s.supply.rtcOk
  | 7 => s.supply.sensorBad
  | 8 => s.supply.mismatchTold && s.supply.mismatchAt.isSome
  | _ => false

/-- The condition of a source, by the tables of the owning chapters. -/
def condition (s : State) (id : Nat) : Bool :=
  if id < 0x1000 then channel s (id / 8) (id % 8)
  else if id < 0x1100 then bank s ((id - 0x1000) / 16) (id % 16)
  else if id < 0x1200 then teller s (id - 0x1100)
  else if id < 0x1300 then
    let e := (id - 0x1200) / 4
    if id % 4 = 2 then (List.range 4).any fun k => decide (Coil.mode s e k ≠ 0) && !Coil.admitted s e k
    else decide (id % 4 = 3) && (List.range 4).any fun k => (s.coil e k).regFault
  else if id < 0x1400 then
    let r := s.loop ((id - 0x1300) / 4)
    match id % 4 with
    | 0 => r.lagging
    | 1 => r.tracking
    | 3 => r.stale || r.fbSat
    | _ => false
  else if id < 0x1480 then decide ((s.ctx (id - 0x1400)).st = 4)
  else if id < 0x1500 then decide (id % 4 = 1) && !(s.eng ((id - 0x1480) / 4)).fetchBad.isEmpty
  else if id < 0x1560 then port s ((id - 0x1500) / 8) (id % 8)
  else if id = 0x1562 then Vault.exhausted s
  else if id = 0x1563 then decide (4096 ≤ s.fdb.length)
  else if id < 0x1600 then false
  else if id < 0x1700 then bus s id
  else if id < 0x1800 then false
  else if id < 0x1900 then access s (id - 0x1800)
  else if id = 0x1903 then !s.supervisor.standbyReady
  else if 0x1920 ≤ id ∧ id < 0x1930 then (Escrow.limpCells s).any fun n => n / 32 = id - 0x1920
  else if 0x1B00 ≤ id then supply s (id - 0x1B00)
  else false

/-- The cause persists, or Force reads 1 (R465, R472). -/
def persists (s : State) (id : Nat) : Bool := condition s id || decide (s.rd (0x8000 + id) 6 = 1)

end Cause

end Sys2Proof.Machine
end

