-- ==== Sys2Proof/Machine/Views.lean ====
section
/-! DEFINITION. What a read of an entry returns (R38, R39, R57): the stored value, or the state that a read-only entry shows,
group by group of the index map. -/

namespace Sys2Proof.Machine

namespace View

/-- Bits of a word from a predicate. -/
def bits (n : Nat) (f : Nat → Bool) : Nat := ((List.range n).map fun i => if f i then 2 ^ i else 0).sum

/-- The first 3 octets of AES-128 encryption of a zero block under a key; 0 for an empty slot (R85).
DESIGN CHOICE: notes/assumptions/47.md. -/
def keyCheck (k : Nat) : Nat := if k = 0 then 0 else Config.aes k 0 % 2 ^ 24

/-- Identity and versions (Table 02-12). -/
def identity (s : State) (j : Nat) : Option Nat :=
  match j with
  | 2 => some (ascii (if s.ca then "TZ-512-CA" else "TZ-512-C"))
  | 4 => some serialNumber
  | 5 => some (Upd.hardwareType s)
  | 7 => some (Upd.version s)
  | 9 => some s.update.bank
  | _ => none

/-- Requests of a session that have been accepted and not answered (R87). -/
def outstanding (x : Session) : Nat := x.queue.length + b01 x.evaluating.isSome

/-- A session's group (Table 03-9). -/
def session (s : State) (k j : Nat) : Option Nat :=
  let x := s.session k
  let o := decide (x.phase = .active)
  match j with
  | 3 => some (if o then x.role else 0)
  | 4 => some (if o then x.source else 0)
  | 5 => some (if o then x.transport else 0)
  | 6 => some (if o then x.version else 0)
  | 7 => some (if o then x.slot else 0xFF)
  | 9 => some (outstanding x)
  | 0x0B => some x.subs.length
  | _ => none

/-- Supplies, clocks and debug (Table 19-11). DESIGN CHOICE: notes/assumptions/145.md. -/
def supply (s : State) (i j : Nat) : Option Nat :=
  let x := s.supply
  match i, j with
  | 1, 1 => some (b01 (!x.aLow) + b01 (!x.bLow) * 2 + b01 (!x.kaLow) * 4 + b01 (!x.logicLow) * 8 + b01 x.kaLow * 16)
  | 1, 2 => some (min 65535 (x.vloga / 10))
  | 1, 3 => some (min 65535 (x.vlogb / 10))
  | 1, 4 => some (min 65535 (x.ka / 10))
  | 1, 5 => some (min 65535 (Teller.logicMean s))
  | 2, 1 => some (b01 (!x.onBackup) + b01 x.onBackup * 2 + b01 x.rtcOk * 4 + b01 (!x.rtcOk) * 8)
  | _, _ => none

/-- BankStatus (Table 04-10). -/
def bankStatus (s : State) (b : Nat) : Nat :=
  let r := s.bank b
  b01 (decide (4500 ≤ r.supplyMv)) + b01 (decide (8000 ≤ r.supplyMv)) * 2 + b01 r.brownout * 4 + b01 (decide (r.escrow ≠ .none)) * 8
    + b01 (Cause.heartbeatOk s b) * 16 + b01 r.aligned * 32 + b01 r.clockFault * 64 + b01 (decide (32000 < r.supplyMv)) * 128

/-- Channel groups (Tables 04-4, 04-6, 05-10, 06-4). -/
def chanCfg (s : State) (n j : Nat) : Option Nat := if j = 0x1E then some ((s.gangOf n).elim 0xFF (·.1)) else none

/-- CellStatus and CompactStatus. -/
def chanStatus (s : State) (n j : Nat) : Option Nat :=
  match j with
  | 2 => some (Cells.status s n)
  | 3 => some (Cells.compact s n)
  | _ => none

/-- GangStatus and GangCurrent in mA (Table 06-2). -/
def gang (s : State) (g j : Nat) : Option Nat :=
  match j with
  | 2 => some (Gangs.status s g)
  | 3 => some (if bitOf (Gangs.config s g) 15 then
      rawOf 32 ((((s.activeMembers g (Gangs.config s g)).map fun m => signed 16 (s.rd (0x4600 + m) 1)).sum * 25).tdiv 4) else 0)
  | _ => none

/-- The Teller's control group (Table 07-5). -/
def teller (s : State) (j : Nat) : Option Nat :=
  let t := s.teller
  match j with
  | 3 => some (b01 (s.active ⟨0x0B, 0⟩) + b01 (decide (128 ≤ (Teller.inFlight t).length)) * 2 + b01 (!t.queue.isEmpty) * 4
      + b01 t.batteryBlocked * 8 + b01 t.moduleBlocked * 16 + b01 t.logicBlocked * 32 + b01 t.derating * 64)
  | 4 => some (Teller.inFlight t).length
  | 0x0A => some (Teller.moduleCeiling s)
  | 0x0B => some (min u32max (Teller.battery s))
  | 0x0C => some (min u32max (Teller.pModule s / 1000000).toNat)
  | 0x0D => some (min 65535 (Teller.logicLoans s))
  | _ => none

/-- Bank projections of the Teller (Table 07-7). -/
def tellerBanks (s : State) (i j : Nat) : Option Nat :=
  match i with
  | 4 => some (min u32max (Teller.iProj s (j - 1) s.ticks))
  | 5 => some (min u32max (Teller.pProj s (j - 1) / 1000000).toNat)
  | 6 => some (Teller.excessUsed s (j - 1))
  | _ => none

/-- The loan table view (Table 07-9). -/
def loan (s : State) (slot j : Nat) : Option Nat :=
  match Map.get none s.teller.loans slot with
  | none => some 0
  | some l =>
    match j with
    | 1 => some 1
    | 2 => some l.requester
    | 3 => some l.budget
    | 4 => some l.amount
    | 5 => some (if l.counted then l.allowance / 1000000 else 0)
    | 6 => some l.priority
    | 7 => some l.receivedAt
    | 8 => some l.grantTime
    | 9 => some (l.grantTime + l.duration * 1000)
    | _ => some l.kind

/-- The request queue view (R215, Table 07-10). -/
def queue (s : State) (i j : Nat) : Option Nat :=
  let q := s.teller.queue
  if i = 0 then
    (if j = 1 then some q.length else some (q.head?.elim 0 fun l => min u32max (s.ticks - l.arrival)))
  else some ((q[(i - 1) * 128 + (j - 1)]?).elim 0 (Teller.record s))

/-- Coil engine groups (Tables 08-4, 08-5). -/
def coil (s : State) (e j : Nat) : Option Nat :=
  if j = 4 then some (Coil.engineStatus s e)
  else if j = 0x0B then some (min 65535 (Coil.capacity s e))
  else if 0x10 ≤ j then Coil.view s e ((j - 0x10) / 0x30) ((j - 0x10) % 0x30)
  else none

/-- InputLevels and WireBreaks (Table 10-4). -/
def bankInput (s : State) (j : Nat) : Option Nat :=
  if j < 0x11 then some (Inputs.levels s (j - 1))
  else if j < 0x21 then some (Inputs.wireBreaks s (j - 0x11))
  else none

/-- The latest event value of a change-of-state record (R287). -/
def cos (s : State) (k j : Nat) : Option Nat := if j = 3 then some (Inputs.eventValue (s.cosOf k)) else none

/-- Census entries (R351). -/
def census (s : State) (e j : Nat) : Option Nat :=
  let r := (s.eng e).census
  if j = 2 then some (if r.running then r.kind else 0)
  else if j = 4 then some r.startTime
  else if j = 5 then some r.endTime
  else if 0x10 ≤ j then some (Perf.censusCount s e (j - 0x10))
  else none

/-- Vault totals (Table 13-6). -/
def vault (s : State) (j : Nat) : Option Nat :=
  match j with
  | 1 => some (Vault.status s)
  | 3 => some (Vault.reservedTotal s)
  | 4 => some (Vault.sharedPool s)
  | 5 => some (Vault.sharedInUse s)
  | 0x0B => some s.fdb.length
  | _ => none

/-- SourceStatus (Table 17-6). -/
def sourceStatus (s : State) (id : Nat) : Nat :=
  let r := s.source id
  b01 r.sticky + b01 r.severe * 2 + b01 r.unack * 4 + b01 (r.graceEnd.any fun t => decide (s.ticks < t)) * 8 + b01 (Cause.persists s id) * 16
    + b01 r.escalated * 32 + s.rd (0x8000 + id) 6 % 2 * 64 + r.applied * 256

/-- A module-domain source whose reaction of class Degrade or more, or Safe, has applied remains Severe (R475). -/
def moduleReacted (s : State) (safe : Bool) : Bool :=
  s.sources.any fun p => decide (Audit.target p.1 = .module) && p.2.severe && p.2.reacted &&
    (if safe then decide (p.2.applied = 3) else decide (p.2.applied = 1 ∨ p.2.applied = 2))

/-- Audit control and the source bit maps (Table 17-4, R475). -/
def audit (s : State) (i j : Nat) : Option Nat :=
  if i = 0 then
    match j with
    | 4 => some (b01 (decide (Audit.severeCount s ≠ 0)) + b01 (decide (Audit.unackCount s ≠ 0)) * 2
        + b01 (moduleReacted s false) * 4 + b01 (moduleReacted s true) * 8)
    | 5 => some (Audit.severeCount s)
    | 6 => some (Audit.unackCount s)
    | _ => none
  else
    let g := i - 0x40
    let base := g % 8 * 1024 + (j - 1) * 32
    some (bits 32 fun k =>
      let r := s.source (base + k)
      if g < 8 then r.sticky else if g < 16 then r.severe else r.unack)

/-- Escrow, limp and supervision (Table 17-10). -/
def escrow (s : State) (i j : Nat) : Option Nat :=
  match i, j with
  | 0, 6 => some (Escrow.limpStatus s)
  | 2, 1 => some (s.supervisor.running + b01 s.supervisor.standbyReady * 2 + b01 (!s.supervisor.testing.isEmpty) * 4)
  | _, _ => none

/-- Access engine groups (Tables 16-5 to 16-7). -/
def access (s : State) (j : Nat) : Option Nat :=
  match j with
  | 3 => some (Access.status s)
  | 0x0C => some (Access.recent s)
  | 0x10 => some (keyCheck (s.rd 0x7000 0x0F))
  | 0x14 => some (Access.tokens s)
  | _ => none

/-- Sleep groups (Tables 15-7 to 15-9). -/
def sleep (s : State) (i j : Nat) : Option Nat :=
  match i, j with
  | 0, 1 => some (Sleep.tallyState s)
  | 0, 0x0A => some (keyCheck (s.rd 0x6800 9))
  | 0, 0x0F => some s.tally.sleeping
  | _, _ => none

/-- The computed value of an entry of a group, none where the stored value is read. DESIGN CHOICE: notes/assumptions/102.md. -/
def group (s : State) (g : LGroup) (j : Nat) : Option Nat :=
  match g with
  | .identity => identity s j
  | .session k => session s k j
  | .sessionCtl => if j = 7 then some (s.sessions.countP fun p => decide (p.2.phase = .active)) else none
  | .keySlots => if 0x21 ≤ j then some (keyCheck (s.rd 0x1181 (j - 0x20))) else none
  | .time => if j = 1 then some s.now else none
  | .power => if j = 1 then some (Escrow.powerState s) else none
  | .supply i => supply s i j
  | .chanCfg n => chanCfg s n j
  | .chanStatus n => chanStatus s n j
  | .chanDiag n => if j = 1 then some (Protect.flags s n) else none
  | .gang g => gang s g j
  | .bank b => if j = 3 then some (bankStatus s b) else none
  | .teller => teller s j
  | .tellerBanks i => tellerBanks s i j
  | .loan k => loan s k j
  | .tellerQueue i => queue s i j
  | .coil e => coil s e j
  | .loop e => Loops.view s e j
  | .profile e => Loops.genView s e j
  | .bankInput => bankInput s j
  | .cos k => cos s k j
  | .engine e => if j = 3 then some (Seq.engineStatus s e) else none
  | .context c => if j = 0x0D then some (Seq.runState (s.ctx c)) else if j = 0x0E then some (Seq.trapRecord (s.ctx c)) else none
  | .progLoad => if j = 8 then some (Seq.loadStatus s) else none
  | .perf e => if j = 1 then some (Perf.cycles s e) else none
  | .census e => census s e j
  | .port p => if j = 3 then some (Switch.status s p) else if j = 1 ∧ 8 ≤ p ∧ p ≤ 9 then some 2 else none
  | .vault i => if i = 0 then vault s j else none
  | .can k => if j = 3 then some (Bus.status s k) else none
  | .lin k => if j = 3 then some (LinBus.status s k) else none
  | .t1s k => if j = 3 then some (Plca.status s k) else none
  | .sleep i => sleep s i j
  | .access => access s j
  | .keySlot t => if j = 4 then some (keyCheck (Access.key s t)) else none
  | .accessZone i => if 16 ≤ i ∧ j = 3 then some (b01 (Access.present s (i - 16))) else none
  | .auditCtl i => audit s i j
  | .escrow i => escrow s i j
  | .source id => if j = 1 then some (sourceStatus s id) else none
  | _ => none

end View

/-- The value a read of an entry returns (R57); an Unconfigured function's entries read their defaults (Table 02-7). -/
def State.view (s : State) (i j : Nat) : Nat :=
  match LGroup.ofIndex s.ca i with
  | none => 0
  | some g =>
    if j = 0 then (match g with | .customer _ => Seq.publishedHighest s i | g => g.highest)
    else (View.group s g j).getD (s.rd i j)

end Sys2Proof.Machine
end

