-- ==== Sys2Proof/Machine/Bll.lean ====
section
/-! DEFINITION. How a session answers and how it ends: response prefixes, completion, the response cache, closing (R76, R79,
R87 to R92, R98, R100). -/

namespace Sys2Proof.Machine

namespace Bll

/-- A session is open. -/
def isOpen (s : State) (k : Nat) : Bool := decide ((s.session k).phase = .active)

/-- H, the highest FC accepted (R86), as FreshnessHigh shows it. -/
def high (s : State) (k : Nat) : Nat := s.rd (0x1100 + k) 8

/-- The egress queue of a transport: a switch port's, or that of a CAN channel (R78). -/
def queueOf (transport addr port : Nat) : Nat := if transport = 3 then 12 + addr else port

/-- The octets a BLL frame takes in the Vault: on Ethernet its IPv4 and UDP headers are included.
DESIGN CHOICE: notes/assumptions/45.md. -/
def wire (transport n : Nat) : Nat := if transport = 3 then n else max 64 (n + 46)

/-- A frame of the module leaves on a transport, through the Vault (R21, R76, R78). -/
def transmit (transport addr port session tc : Nat) (l : List Byte) (s : State) : State :=
  (Vault.queue tc (queueOf transport addr port) (wire transport l.length) (.bll transport addr session l) s).2

/-- A frame of a session leaves on the session's transport. DESIGN CHOICE: notes/assumptions/44.md. -/
def transmitOn (k tc : Nat) (l : List Byte) (s : State) : State :=
  let x := s.session k
  transmit x.transport x.addr x.port k tc l s

/-! ### Responses (R87, R88, R91) -/

/-- A FC of a session is accepted and unanswered. -/
def pending (x : Session) (fc : Nat) : Bool := x.evaluating = some fc || x.queue.any (·.fc = fc)

/-- The completion fields with CompletedFC `c`: CompletedMask and RefusedMask (R88). -/
def masks (x : Session) (c : Nat) : Nat × Nat :=
  (View.bits 16 fun i => !(decide (i + 1 ≤ c) && pending x (c - 1 - i)),
   View.bits 16 fun i => decide (i + 2 ≤ c) && x.done.any fun d => decide (d.1 = c - 1 - i) && d.2.2)

/-- A status as a session's version sends it (R92). -/
def sent (x : Session) (st : Status) : Status := if x.version = 0x0103 then st.to13 else st

/-- The response prefix: 10 octets, or status and position in a 1.3 session (Table 03-3, R91). -/
def prefix_ (x : Session) (c : Nat) (a : Answer) : List Byte :=
  let head := octets 1 (sent x a.status).code ++ octets 1 a.position
  if x.version = 0x0103 then head
  else
    let m := masks x c
    head ++ octets 4 c ++ octets 2 m.1 ++ octets 2 m.2

/-- The records of completed FCs with one more, as far as a later prefix or a resend can ask for them (R87, R88). -/
def keepDone (s : State) (k c fc : Nat) (l : List Byte) (refused : Bool) (x : Session) : List (Nat × List Byte × Bool) :=
  ((fc, l, refused) :: x.done.filter (·.1 ≠ fc)).filter fun d => decide (c ≤ d.1 + 16) || decide (high s k ≤ d.1 + 15)

/-- A request completes: its response is sent and cached with its completion fields, which count it (R87, R88). -/
def respond (k fc type tc : Nat) (a : Answer) (rest : List Byte) (s : State) : State :=
  let x := s.session k
  let x := { x with queue := x.queue.filter (·.fc ≠ fc), evaluating := if x.evaluating = some fc then none else x.evaluating,
                    relay := if x.evaluating = some fc then none else x.relay }
  let c := max x.highDone fc
  let refused := decide (a.status ≠ .ok)
  let l := Frames.build s k type fc (prefix_ { x with done := keepDone s k c fc [] refused x } c a ++ rest)
  transmitOn k tc l { (s.modSession k fun _ => { x with highDone := c, done := keepDone s k c fc l refused x }) with answer := a }

/-! ### Closing (R98, R100) -/

/-- Replies that a closed session no longer takes. -/
def Reply.without (k : Nat) : Reply → Reply
  | .session j fc => if j = k then .direct else .session j fc
  | r => r

/-- What waits for a session and outlives it answers nobody: postings already committing complete (R99, R100). -/
def dropReplies (k : Nat) (s : State) : State :=
  { s with
    jobs := s.jobs.map fun j => match j.kind with
      | .functions r w l f => { j with kind := .functions (Reply.without k r) w l f }
      | _ => j,
    update := { s.update with job := s.update.job.map fun j => { j with reply := Reply.without k j.reply } } }

/-- What a session has queued is withdrawn from the Vault: its notifications and change-of-state events, and with `answers` its
responses and the frames of its transfers on CAN too; what is being sent goes on (R98, R100, R367). -/
def withdraw (k : Nat) (answers : Bool) (s : State) : State :=
  let s := Vault.withdraw (fun x => x.sending.isEmpty && match x.cargo with
    | .notify j .. => decide (j = k)
    | .cos r => decide (Inputs.dest s r = (1, k))
    | .bll _ _ j _ => answers && decide (j = k)
    | _ => false) s
  if answers ∧ (s.session k).transport = 3 then Iso.withdraw (s.session k).addr k s else s

/-- A session closes: its number is free, its subscriptions and notifications end, its records of change-of-state events
stop and its program load closes (R94, R98, R286, R337). -/
def close (k : Nat) (s : State) : State :=
  let kk : Fin 128 := Fin.ofNat 128 k
  let s := Inputs.closeDest 1 k (Seq.abortOf (.session kk) (dropReplies k (withdraw k false s)))
  ((s.modSession k fun _ => {}).zero [(0x1100 + k, 8), (0x1100 + k, 0x0A)]).wr (0x1100 + k) 1 0

/-- R100: an Isolate or Safe reaction closes the session and keeps its number from being assigned. -/
def closeFor (k st : Nat) (s : State) : State := (close k s).wr (0x1100 + k) 1 st

/-- R100: a per-function reset of a session also withdraws its queued responses and clears its counters. -/
def reset (k : Nat) (s : State) : State :=
  (close k (withdraw k true s)).zero [(0x1100 + k, 0x0C), (0x1100 + k, 0x0D), (0x1100 + k, 0x0E)]

/-- Every session that meets a condition closes; the writer's own closes after its response (R85, R98). -/
def closeWhere (w : Writer) (q : Session → Bool) (s : State) : State :=
  s.sessions.foldl (fun s p =>
    if q p.2 then
      (if w = .session (Fin.ofNat 128 p.1) ∧ p.2.evaluating.isSome then s.modSession p.1 fun x => { x with closing := true }
       else close p.1 s)
    else s) s

/-- A session that was asked to close does so once nothing of it is being evaluated. DESIGN CHOICE: notes/assumptions/40.md. -/
def closeIfAsked (k : Nat) (s : State) : State :=
  if (s.session k).closing ∧ (s.session k).evaluating.isNone then close k s else s

end Bll

end Sys2Proof.Machine
end

