-- ==== Sys2Proof/Machine/Functions.lean ====
section
/-! DEFINITION. The lifecycle of functions (R45 to R56, R125, R209, R239, R339 to R344, R387, R557): which entries a function
owns, what entering and leaving a state does, per-function resets (R476) and the reactions of the Audit (R466 to R469). -/

namespace Sys2Proof.Machine

namespace Fns

/-! ### Owned entries (R557, Table 02-6) -/

/-- The banks whose channels in an input mode name an input profile (R272). -/
def profileBanks (s : State) (p : Nat) : List Fn :=
  (List.range 16).filterMap fun b =>
    if (Escrow.bankCells b).any fun n => decide (4 ≤ Chan.mode s n ∧ Chan.mode s n ≤ 7 ∧ s.rd (0x4000 + n) 7 = p) then some ⟨1, b⟩ else none

/-- The functions that own an entry, for a write of `v` to it. -/
def owners (s : State) (g : LGroup) (j v : Nat) : List Fn :=
  match g with
  | .power => if j = 5 then (List.range 16).map fun b => ⟨1, b⟩ else []
  | .chanCfg n | .chanStatus n | .chanDiag n | .chanMeas n => [⟨1, n / 32⟩]
  | .gang g => [⟨1, field (s.rd (0x4800 + g) 1) 0 4⟩, ⟨1, if j = 1 then field v 0 4 else field (s.rd (0x4800 + g) 1) 0 4⟩].eraseDups
  | .inputProfile p => profileBanks s p
  | .bankInput => if 0x21 ≤ j ∧ j < 0x31 then [⟨1, j - 0x21⟩] else []
  | .wakeInput => [⟨1, (j - 1) / 32⟩]
  | .profile e => [⟨3, e⟩]
  | .perf e | .census e => [⟨4, e⟩]
  | .gate p => [⟨9, p⟩]
  | .keySlot _ | .accessZone _ => [⟨0x0A, 0⟩]
  | .tellerBanks _ | .loan _ | .tellerQueue _ => [⟨0x0B, 0⟩]
  | .sleep i =>
    match i with
    | 2 => if j < 7 then [⟨8, j - 1⟩] else if j < 0x17 then [⟨6, j - 7⟩] else [⟨7, j - 0x17⟩]
    | 3 => [⟨6, if j < 0x11 then j - 1 else (j - 1) % 4⟩]
    | 4 => if j < 9 then [⟨7, j - 1⟩] else if j < 0x0F then [⟨8, j - 9⟩] else []
    | _ => []
  | .escrow i =>
    if i = 1 then
      let old := s.rd 0x7601 j
      if !bitOf old 20 && !bitOf v 20 then [] else [⟨1, field old 0 9 / 32⟩, ⟨1, field v 0 9 / 32⟩].eraseDups
    else []
  | .customer i => ((Seq.publishedAt s ((0xC000 + i) * 256 + j)).map fun p => (⟨5, p.owner⟩ : Fn)).toList
  | g => g.fn?.toList

/-- The row of an entry: a published one's declaration, or its table's. -/
def row (s : State) (i j : Nat) : Option Row :=
  match LGroup.ofIndex s.ca i with
  | none => none
  | some (.customer _) =>
    if j = 0 then (if (Seq.groupOwner s i).isSome then some Row.highestSub else none)
    else (Seq.publishedAt s (i * 256 + j)).map (·.row)
  | some g => g.row j

/-- An RWC entry that a function owns: part of its stored configuration (R42). -/
def configures (s : State) (f : Fn) (loc : Nat) : Bool :=
  match LGroup.ofIndex s.ca (loc / 256) with
  | some g =>
    match g.row (loc % 256) with
    | some r =>
      let own (v : Nat) := (owners s g (loc % 256) v).contains f
      decide (r.acc = .rwc) && (own (s.rd (loc / 256) (loc % 256)) || own (Store.value s (loc / 256) (loc % 256)))
    | none => false
  | none => false

/-- The locations of a function's configuration that differ from their defaults, now or in the parameter store. -/
def configOf (s : State) (f : Fn) : List Nat :=
  let l := s.ledger.map (·.1) ++ (s.stored.map (·.1)).filter fun k => (Map.get 0 s.ledger k) = 0
  (l.filter (configures s f)).eraseDups

/-- The function's set is stored as one unit (R43). -/
def store (f : Fn) (s : State) : State :=
  let s := (configOf s f).foldl (fun s loc => Store.save loc s) s
  let s := if f.cls = 4 then Seq.saveImage f.inst s else s
  { s with storedFns := if s.storedFns.contains f.id then s.storedFns else f.id :: s.storedFns }

/-- The function's stored configuration is loaded (R42, R52). -/
def reload (f : Fn) (s : State) : State :=
  (configOf s f).foldl (fun s loc => s.wr (loc / 256) (loc % 256) (Store.value s (loc / 256) (loc % 256))) s

/-! ### Entering and leaving Active -/

/-- A cell that was FLOAT in an Unconfigured bank takes its committed command when the bank becomes Active. -/
def settleCells (b : Nat) (s : State) : State :=
  (Escrow.heads s (Escrow.bankCells b)).foldl (fun s n =>
    let cmd := Chan.command s n
    let s := s.modCell n fun c => { c with dirty := false }
    if (cmd = 0 ∨ cmd = 5) ∧ (s.cell n).cmd ≠ cmd ∧ Chan.owner s n ≠ 0xF000 ∧ Chan.owner s n ≠ 0xF100 then
      Cells.accept n cmd (Chan.duty s n) false s
    else s) s

/-- A function has entered Active: from Isolated or not, at a start or a reset (`boot`) or by a write.
DESIGN CHOICE: notes/assumptions/58.md. -/
def entered (f : Fn) (fromIsolated boot : Bool) (s : State) : State :=
  match f.cls with
  | 1 =>
    let s := (Escrow.bankCells f.inst).foldl (fun s n => s.modCell n fun c => { c with dirty := false }) s
    Gangs.assignPhases f.inst (settleCells f.inst s)
  | 3 => if fromIsolated then s else Loops.initY f.inst s
  | 5 => Seq.enterActive f.inst fromIsolated boot s
  | 6 => Bus.enterActive f.inst s
  | 9 => if f.inst < 8 then Switch.gateChange f.inst s else s
  | _ => s

/-- A function leaves Active for another state. -/
def left (f : Fn) (s : State) : State :=
  match f.cls with
  | 5 => Seq.abortOf (.context (Fin.ofNat 128 f.inst)) (Seq.leaveActive f.inst s)
  | 6 => Bus.leaveActive f.inst s
  | 7 => LinBus.leaveActive f.inst s
  | 0x0A => Access.stop s
  | _ => s

/-- The cells that stand with a function: those it owns, or those of a bank, but for limp's (R487). -/
def cellsOf (s : State) (f : Fn) : List Nat :=
  if f.cls = 1 then (Escrow.bankCells f.inst).filter fun n => Chan.owner s n ≠ 0xF100
  else
    let o := Escrow.ownerCode f
    if o = 0 then [] else Escrow.cellsOf s o

/-- The cells escrow holds because the function is Isolated. -/
def isolatedCells (s : State) (f : Fn) : List Nat :=
  (Escrow.cellsOf s 0xF000).filter fun n => (s.cell n).hold = .fnIsolated f.id

/-- The other Isolated function for which escrow holds a cell: its bank, or the engine or context it is to return to (R48, R125). -/
def alsoIsolated (s : State) (f n : Nat) : Option Nat :=
  let o := (s.cell n).remembered
  if f ≠ 0x0100 + n / 32 ∧ s.fn ⟨1, n / 32⟩ = 3 then some (0x0100 + n / 32)
  else if f ≠ o ∧ o ≠ 0 ∧ s.fn ⟨o / 256, o % 256⟩ = 3 then some o
  else none

/-- R48: the cells held for a function that returns to Active go back to it; one that another Isolated function keeps in escrow
stays there for that function. -/
def giveIsolated (f : Fn) (s : State) : State :=
  let l := isolatedCells s f
  let keep := l.filterMap fun n => (alsoIsolated s f.id n).map fun g => (n, g)
  Escrow.giveBack (.fnIsolated f.id) l (keep.foldl (fun s p => s.modCell p.1 fun c => { c with hold := .fnIsolated p.2 }) s)

/-- R48: a function leaves Isolated for Configure or Safe: its held cells take their SafeCommand, and one whose bank is still
Isolated stays in escrow for the bank. A cell held for the bank alone is no longer the function's. -/
def dropIsolated (f : Fn) (s : State) : State :=
  let l := isolatedCells s f
  let stay := l.filter fun n => f.cls ≠ 1 ∧ s.fn ⟨1, n / 32⟩ = 3
  let other := if f.cls = 1 ∨ Escrow.ownerCode f = 0 then [] else
      (Escrow.heldFor s f.id).filter fun n => (s.cell n).hold = .fnIsolated (0x0100 + n / 32)
  let s := other.foldl (fun s n => s.modCell n fun c => { c with remembered := 0 }) s
  stay.foldl (fun s n => Escrow.hold1 (.fnIsolated (0x0100 + n / 32)) n s) (Escrow.safeAll l s)

/-- The function no longer counts as expired. -/
def renew (f : Fn) (s : State) : State := { s with isoExpired := s.isoExpired.filter (· ≠ f.id) }

/-- Isolated: the function stops and escrow holds its cells at their last commands (Tables 02-7, 17-8). -/
def isolate (f : Fn) (s : State) : State :=
  if f.cls = 0x0C then Bll.closeFor f.inst 3 s
  else renew f (Escrow.hold (.fnIsolated f.id) (cellsOf s f) ((left f s).setFn f 3))

/-- Safe: the function stops and its cells take their SafeCommand under the Ledger (Table 02-7, R48, R559). A cell that escrow
holds for the function's Isolated bank stays in escrow for the bank. -/
def safe (f : Fn) (s : State) : State :=
  if f.cls = 0x0C then Bll.closeFor f.inst 4 s
  else
    let byBank (n : Nat) : Bool := decide (f.cls ≠ 1 ∧ (s.cell n).hold = .fnIsolated (0x0100 + n / 32))
    let l := cellsOf s f ++ (if f.cls = 1 then [] else Escrow.heldFor s (Escrow.ownerCode f))
    let l := if Escrow.ownerCode f = 0 ∧ f.cls ≠ 1 then [] else l.filter fun n => !byBank n && decide ((s.cell n).hold ≠ .fnIsolated f.id)
    renew f (Escrow.safeAll l (dropIsolated f ((if s.fn f = 2 then left f s else s).setFn f 4)))

/-- A FunctionState write takes effect at its commit (Table 02-8): an allowed transition from the present state to `v`. -/
def move (f : Fn) (v : Nat) (s : State) : State :=
  let old := s.fn f
  if v = old then s
  else
    match v with
    | 1 =>
      let s := if old = 2 then left f s else s
      let s := if old = 3 then dropIsolated f s else s
      let s := if f.cls = 5 then Seq.enterConfigure f.inst s else s
      renew f (s.setFn f 1)
    | 2 =>
      let s := if old = 3 then giveIsolated f s else s
      entered f (old = 3) false (renew f (s.setFn f 2))
    | 3 => isolate f s
    | 4 => safe f s
    | _ => s

/-! ### Reactions of the Audit (R466 to R469) -/

/-- A switch port that never leaves Active (R387). -/
def fixedActive (f : Fn) : Bool := decide (f.cls = 9 ∧ 8 ≤ f.inst ∧ f.inst ≤ 9)

/-- An Isolate or Safe reaction on an engine or a context restarts the engine's census (R351). -/
def recoverCensus (f : Fn) (s : State) : State :=
  match f.cls with
  | 4 => Perf.censusEnter 3 f.inst s
  | 5 => Perf.censusEnter 3 (f.inst / 4) s
  | _ => s

/-- The Isolate reaction acts on an Active function, and on each Active context of an engine (R339, R468). -/
def reactIsolate (f : Fn) (s : State) : State :=
  if s.fn f = 2 ∧ !fixedActive f then
    let s := if f.cls = 4 then
        (List.range 4).foldl (fun s k => if s.active ⟨5, 4 * f.inst + k⟩ then isolate ⟨5, 4 * f.inst + k⟩ s else s) s
      else s
    recoverCensus f (isolate f s)
  else s

/-- The Safe reaction acts on an Active, Configure or Isolated function (R339, R468). -/
def reactSafe (f : Fn) (s : State) : State :=
  if 1 ≤ s.fn f ∧ s.fn f ≤ 3 ∧ !fixedActive f then
    let s := if f.cls = 4 then
        (List.range 4).foldl (fun s k => if s.active ⟨5, 4 * f.inst + k⟩ then safe ⟨5, 4 * f.inst + k⟩ s else s) s
      else s
    recoverCensus f (safe f s)
  else s

/-! ### Per-function resets (R476, Table 17-7) -/

/-- A function that a reset leaves Unconfigured keeps no cell: its cells pass to the Ledger with their commands. -/
def dropCells (f : Fn) (s : State) : State :=
  if Escrow.ownerCode f = 0 then s else (Escrow.cellsOf s (Escrow.ownerCode f)).foldl (fun s n => Escrow.setOwner n 0 s) s

/-- The state a function stands in after its reset or at power-up (R52, R209, R387). -/
def powerUpState (s : State) (f : Fn) : Nat :=
  if f.cls = 0x0B ∨ fixedActive f ∨ s.storedFns.contains f.id then 2 else 0

/-- R137: the bank's counters return to 0 and its cells' averages restart. -/
def resetBankCounters (b : Nat) (s : State) : State :=
  let s := s.zero [(0x4900 + b, 8), (0x4900 + b, 0x0B)]
  (Escrow.bankCells b).foldl (fun s n => Inputs.forget n (Measure.restart n (s.wr (0x4200 + n) 1 0))) s

/-- R210: every queued request of the Teller is declined, and its counters return to 0. -/
def resetTeller (s : State) : State :=
  (s.zero ((List.range 8).map fun j => (0x4A08, 1 + j))).modTeller fun t => { t with
    declined := t.declined ++ t.queue, queue := [], resetting := true }

/-- A context's reset begins: escrow holds its cells (R343). -/
def resetContext (c : Nat) (s : State) : State :=
  Seq.reset c (Escrow.hold .fnReset (Escrow.cellsOf s (0x0500 + c)) s)

/-- What a per-function reset does at its start. -/
def resetBegin (f : Fn) (s : State) : State :=
  match f.cls with
  | 1 => resetBankCounters f.inst ((Escrow.enterBank .bankReset f.inst s).modBank f.inst fun r => { r with resetting := true, aligned := false })
  | 2 => Coil.reset f.inst s
  | 3 => Loops.reset f.inst s
  | 4 => Seq.resetEngine f.inst ((List.range 4).foldl (fun s k => resetContext (4 * f.inst + k) s) s)
  | 5 => resetContext f.inst s
  | 6 => Iso.abandon f.inst (Bus.reset f.inst s)
  | 7 => LinBus.reset f.inst s
  | 8 => Plca.reset f.inst s
  | 9 => Switch.reset f.inst s
  | 0x0A => (Access.reset s).modAccess fun a => { a with resetting := true }
  | 0x0B => resetTeller s
  | _ => Bll.reset f.inst s

/-- An Unconfigured bank floats every cell under the Ledger (R125). -/
def floatBank (b : Nat) (s : State) : State :=
  (Escrow.heads s (Escrow.bankCells b)).foldl (fun s n =>
    Cells.accept n 5 0 false ((s.unitAll n).foldl (fun s m =>
      if Chan.owner s m = 0xF100 then s else (Escrow.setOwner m 0 s).modCell m fun c => { c with hold := .none, remembered := 0 }) s)) s

/-- A function's configuration is reloaded and it stands in its power-up state (R52). -/
def standUp (f : Fn) (s : State) : State :=
  let s := reload f s
  let v := powerUpState s f
  let s := if v = 2 then giveIsolated f s else dropIsolated f s
  let s := renew f (s.setFn f v)
  if v = 2 then entered f false true s else dropCells f s

/-- What a per-function reset does at its end; cells held by escrow return by reconciliation (Table 17-8). -/
def resetEnd (f : Fn) (s : State) : State :=
  match f.cls with
  | 1 =>
    let s := standUp f s
    let s := if s.fn f = 0 then floatBank f.inst s else Escrow.giveBack .bankReset (Escrow.bankCells f.inst) s
    let s := if (s.bank f.inst).escrow = .bankReset then Escrow.leaveBank f.inst s else s
    (Escrow.bankCells f.inst).foldl (fun s n => Inputs.forget n s) (s.modBank f.inst fun r => { r with resetting := false })
  | 2 => standUp f (Coil.resetDone f.inst s)
  | 3 => standUp f (Loops.resetDone f.inst s)
  | 4 =>
    let s := standUp f s
    (List.range 4).foldl (fun s k =>
      let c : Fn := ⟨5, 4 * f.inst + k⟩
      Audit.rearm c (standUp c (Escrow.giveBack .fnReset (Escrow.heldFor s c.id) s))) s
  | 5 => standUp f (Escrow.giveBack .fnReset (Escrow.heldFor s f.id) s)
  | 9 => standUp f (Switch.resetDone f.inst s)
  | 0x0A => standUp f (s.modAccess fun a => { a with resetting := false })
  | 0x0B =>
    let l := s.teller.held
    let s := (s.setFn f 2).modTeller fun t => { t with resetting := false, held := [] }
    l.foldl (fun s x => (Teller.request x (x.rank = 0) s).1) s
  | 0x0C => s
  | _ => standUp f s

/-- R476: a per-function reset begins; FunctionReset reads BUSY until it has completed. DESIGN CHOICE: notes/assumptions/28.md. -/
def reset (f : Fn) (s : State) : State :=
  { (resetBegin f s) with fnReset := some f.id }.wr 0x7E00 1 Status.busy.code

/-- R476, R473: the running reset completes. -/
def resetDone (s : State) : State :=
  match s.fnReset with
  | none => s
  | some id =>
    let f : Fn := ⟨id / 256, id % 256⟩
    let s := Audit.rearm f (resetEnd f { s with fnReset := none })
    ((s.wr 0x7E00 1 Status.ok.code).wr 0x7E00 2 id).inc 0x7E00 3

/-- R476: the cases in which FunctionReset is refused; `own` is the writer's own session. -/
def resetStatus (s : State) (own : Option Nat) (id : Nat) : Status :=
  let c := id / 256
  if Fn.count c ≤ id % 256 ∨ (c = 0x0A ∧ !s.ca) then .range
  else if own = some (id - 0x0C00) ∧ c = 0x0C then .state
  else if s.fnReset.isSome then .busy
  else .ok

/-! ### The end of a grace window (R469) -/

/-- The reaction of a class on its target (Table 17-2). -/
def react (id cls : Nat) (s : State) : State :=
  match Audit.target id with
  | .channel n =>
    let l := s.structure_ n
    if cls = 2 then Escrow.hold .isolation l s
    else if cls = 3 then Escrow.safeAll (l.filter fun m => Chan.owner s m ≠ 0xF100) s
    else s
  | .fn f =>
    if cls = 1 then (if s.rdBit (0x8000 + id) 2 10 then reset f s else s)
    else if cls = 2 then reactIsolate f s
    else reactSafe f s
  | .module => if cls = 3 then (List.range 16).foldl (fun s b => reactSafe ⟨1, b⟩ s) s else s

/-- The reaction would start a reset while another one runs: it waits for that one to complete.
DESIGN CHOICE: notes/assumptions/134.md. -/
def mustWait (s : State) (id cls : Nat) : Bool :=
  match Audit.target id with
  | .fn _ => decide (cls = 1) && s.rdBit (0x8000 + id) 2 10 && s.fnReset.isSome
  | _ => false

/-- GRACE_EXPIRY. -/
def graceExpiry (id : Nat) (s : State) : State :=
  let r := s.source id
  match r.graceEnd with
  | some t =>
    if t ≤ s.ticks ∧ !mustWait s id r.applied then
      react id r.applied ((s.inc 0x7400 7).modSource id fun r => { r with graceEnd := none, reacted := true })
    else s
  | none => s

/-! ### Acknowledgement and clearing (R467, R470, R472) -/

/-- R470: an Acknowledge; inside the grace window, which ends just before `graceEnd` (R11, R469), it cancels the reaction. -/
def acknowledge (id : Nat) (s : State) : State :=
  let r := s.source id
  if r.severe then
    let inside := r.graceEnd.any fun t => decide (s.ticks < t)
    let s := if inside then s.inc 0x7400 8 else s
    s.modSource id fun r => { r with unack := false, graceEnd := if inside then none else r.graceEnd }
  else s

/-- A Severe source of a structure's channels still stands with class Isolate or Safe (R467). -/
def keepsIsolated (s : State) (l : List Nat) : Bool :=
  s.sources.any fun p => p.2.severe && decide (2 ≤ p.2.applied ∧ p.1 < 0x1000) && l.contains (p.1 / 8)

/-- R472: an accepted Clear; the last one of an isolated structure ends its isolation, and that of BROWNOUT clears BankStatus
Brownout (R163). -/
def clear (id : Nat) (s : State) : State :=
  let s := s.modSource id fun r => { lastAt := r.lastAt, applied := r.applied }
  let s := if 0x1000 ≤ id ∧ id < 0x1100 ∧ id % 16 = 0 then s.modBank ((id - 0x1000) / 16) fun b => { b with brownout := false } else s
  match Audit.target id with
  | .channel n =>
    let l := s.structure_ n
    if keepsIsolated s l then s else Escrow.giveBack .isolation l s
  | _ => s

/-- SOURCE_WINDOW_CLOSE: the open window of a source has ended (R464). -/
def windowClose (id : Nat) (s : State) : State :=
  match (s.source id).windowAt with
  | some t => if s.elapsed t (Audit.window s id) then s.modSource id fun r => { r with windowAt := none, count := 0 } else s
  | none => s

/-! ### Escrow's end (R48, R467, R479, R481) -/

/-- The cells that expire together with one: its structure in a cell isolation, and those of its bank taken at the same tick
for the same cause. -/
def expiring (s : State) (n : Nat) : List Nat :=
  let c := s.cell n
  if c.hold = .isolation then s.structure_ n
  else (Escrow.bankCells (n / 32)).filter fun m =>
    decide (Chan.owner s m = 0xF000 ∧ (s.cell m).hold = c.hold ∧ (s.cell m).heldAt = c.heldAt)

/-- The functions whose isolation has expired with a set of cells. -/
def expiredFns (s : State) (l : List Nat) : List Nat :=
  l.filterMap fun m => match (s.cell m).hold with
    | .fnIsolated f => some f
    | _ => none

/-- ESCROW_EXPIRY of a bank-wide escrow, or of the hold of a cell. -/
def escrowExpiry (b : Nat) (n : Option Nat) (s : State) : State :=
  match n with
  | none =>
    let r := s.bank b
    if r.escrow ≠ .none ∧ Escrow.earliest r.escrowAt r.escrowFor ≤ s.ticks then Escrow.expireBank b s else s
  | some n =>
    let c := s.cell n
    if n / 32 = b ∧ Chan.owner s n = 0xF000 ∧ c.hold.ofCells ∧
        Escrow.earliest c.heldAt c.holdFor ≤ s.ticks then
      let l := expiring s n
      let x := expiredFns s l
      let s := Escrow.expireCells l s
      { s with isoExpired := (x ++ s.isoExpired).eraseDups }
    else s

end Fns

end Sys2Proof.Machine
end

