-- ==== Sys2Proof/Machine/Validate.lean ====
section
/-! DEFINITION. Validation of a function's configuration before it leaves Configure for Active (R51): the rules of the owning
chapters, each giving the entries that take part where it fails. -/

namespace Sys2Proof.Machine

namespace Validate

/-- An entry as (index, sub-index). -/
abbrev Loc := Nat × Nat

/-- The entries that take part in a rule which fails. -/
def need (ok : Bool) (l : List Loc) : List Loc := if ok then [] else l

/-! ### Bank logic (R109, R113, R126, R130 to R132, R139, R169, R187, R273, R290, R484) -/

/-- An entry of a channel's configuration. -/
def ch (n j : Nat) : Loc := (0x4000 + n, j)

/-- A channel alone: R109, R113, R126, R139. -/
def channel (s : State) (n : Nat) : List Loc :=
  let m := Chan.mode s n
  let p := n % 32
  let trackA (k : Nat) : Bool := decide (Chan.mode s k = 6 ∧ Inputs.edgeMode s k = 3)
  need (decide (m < 4 ∨ Chan.loadClass s n = 0)) [ch n 2, ch n 5]
    ++ need (decide (Chan.loadClass s n ≠ 5 ∨ m = 1 ∨ m = 2)) [ch n 2, ch n 5]
    ++ need (Chan.permits m (Chan.safeCommand s n)) [ch n 2, ch n 6]
    ++ need (!trackA n || decide (p < 31 ∧ Chan.mode s (n + 1) = 7)) ([ch n 2, ch n 8] ++ if p < 31 then [ch (n + 1) 2] else [])
    ++ need (decide (m ≠ 7) || (decide (0 < p) && trackA (n - 1))) ((if 0 < p then [ch (n - 1) 2, ch (n - 1) 8] else []) ++ [ch n 2])

/-- A lamp cell: R187. -/
def lamp (s : State) (n : Nat) : List Loc :=
  let e (j : Nat) := s.rd (0x4000 + n) j
  if Chan.lamp (e 5) then
    need (decide (e 2 = 1 ∨ e 2 = 2)) [ch n 2, ch n 5]
      ++ need (decide (e 0x1B = 0 ∨ e 0x10 ≤ e 0x1B)) [ch n 5, ch n 0x10, ch n 0x1B]
      ++ need (decide (e 0x1D = 0 ∨ 4 * e 0x18 ≤ e 0x1D * 1000)) [ch n 5, ch n 0x18, ch n 0x1D]
      ++ need (decide (e 5 ≠ 2 ∨ e 0x18 ≤ 5000)) [ch n 5, ch n 0x18]
  else []

/-- A channel in an input mode and its profile: R273. -/
def input (s : State) (n : Nat) : List Loc :=
  let m := Chan.mode s n
  if 4 ≤ m ∧ m ≤ 7 then
    let q := 0x4E00 + s.rd (0x4000 + n) 7
    let e (j : Nat) := s.rd q j
    let dir := field (e 5) 0 1
    let uses (l : List Loc) := ch n 2 :: ch n 7 :: l
    need (decide (e 1 ≠ 0) || !s.volt24) (uses [(0x1300, 5), (q, 1)])
      ++ need (decide (e 1 = 0) || (s.volt24 && decide (dir = 1 ∧ 2 ≤ e 4 ∧ e 4 ≤ 4))) (uses [(0x1300, 5), (q, 1), (q, 4), (q, 5)])
      ++ need (decide (e 3 + 5 ≤ e 2)) (uses [(q, 2), (q, 3)])
      ++ need (decide (m = 4) || !bitOf (e 5) 1) (uses [(q, 5)])
      ++ need (!bitOf (e 5) 1 || decide (e 6 = 0 ∨ 2 * Inputs.pulsePeriod s n ≤ e 6 * 1000)) (uses [(q, 5), (q, 6)])
      ++ need (decide (e 8 = 0 ∨ (m = 4 ∧ e 1 = 0 ∧ dir = 0 ∧ 2 ≤ e 4))) (uses [(q, 1), (q, 4), (q, 5), (q, 8)])
  else []

/-- An enabled wake input is in SwitchInput mode (R290). -/
def wakeInput (s : State) (n : Nat) : List Loc :=
  need (decide (64 ≤ n) || !bitOf (s.rd 0x4E81 (1 + n)) 0 || decide (Chan.mode s n = 4)) [ch n 2, (0x4E81, 1 + n)]

/-- The entries in which the members and the reserve of a gang agree (R169). -/
def shared : List Nat := [2, 5, 6] ++ (List.range 14).map (0x10 + ·)

/-- An enabled gang: R169. -/
def gang (s : State) (g v : Nat) : List Loc :=
  let lo := field v 4 5
  let sz := field v 9 4
  let inside := decide (lo + sz ≤ 32 ∧ (field v 13 2 ≠ 1 ∨ 1 ≤ lo) ∧ (field v 13 2 ≠ 2 ∨ lo + sz < 32))
  if inside then
    let l := GangConfig.cells v
    let h := GangConfig.lowest v
    let twice := s.gangList.filter fun p => decide (p.1 ≠ g) && (GangConfig.cells p.2).any l.contains
    need (decide (1 ≤ Chan.mode s h ∧ Chan.mode s h ≤ 3)) ((0x4800 + g, 1) :: l.map fun n => ch n 2)
      ++ (shared.flatMap fun j => need (l.all fun n => s.rd (0x4000 + n) j = s.rd (0x4000 + h) j) (l.map fun n => ch n j))
      ++ need twice.isEmpty ((0x4800 + g, 1) :: twice.map fun p => (0x4800 + p.1, 1))
  else [(0x4800 + g, 1)]

/-- A cell that a bridge or coil group names stands alone or for its whole gang, and every cell of it is in one of some
modes: the entries that break this. -/
def named (s : State) (decl : Loc) (n : Nat) (modes : List Nat) : List Loc :=
  match s.gangOf n with
  | some (g, v) =>
    need (decide (GangConfig.lowest v = n)) [decl, (0x4800 + g, 1)]
      ++ need ((GangConfig.cells v).all fun m => modes.contains (Chan.mode s m)) (decl :: (GangConfig.cells v).map fun m => ch m 2)
  | none => need (modes.contains (Chan.mode s n)) [decl, ch n 2]

/-- The enabled H-bridges of a bank with their entries, and both legs. -/
def bridgeList (s : State) (b : Nat) : List (Loc × List Nat) :=
  (List.range 16).filterMap fun k =>
    let v := s.rd (0x4900 + b) (0x10 + k)
    if bitOf v 24 then some ((0x4900 + b, 0x10 + k), [b * 32 + field v 0 5, b * 32 + field v 8 5]) else none

/-- The enabled coil groups of a bank with their entries, and supply and returns. -/
def groupList (s : State) (b : Nat) : List (Loc × List Nat) :=
  (List.range 8).filterMap fun k =>
    let v := s.rd (0x4900 + b) (0x20 + k)
    if bitOf v 5 then some ((0x4900 + b, 0x20 + k), (b * 32 + field v 0 5) :: (CoilGroup.returns v).map (b * 32 + ·)) else none

/-- The cells of the legs of a bridge. -/
def legCells (s : State) (l : List Nat) : List Nat := l.flatMap s.unitAll

/-- An enabled H-bridge: R126, R130, R131, R139. -/
def bridge (s : State) (p : Loc × List Nat) : List Loc :=
  let l := p.2
  let cells := legCells s l
  need (decide l.Nodup) [p.1]
    ++ (l.flatMap fun n => named s p.1 n [3])
    ++ need (cells.all fun n => Chan.loadClass s n = Chan.loadClass s (l.headD 0)) (p.1 :: cells.map fun n => ch n 5)
    ++ (cells.flatMap fun n => need (decide (s.rdField (0x4000 + n) 0x16 3 2 = 2)) [p.1, ch n 0x16])

/-- An enabled coil group: R126, R132. -/
def coilGroup (s : State) (p : Loc × List Nat) : List Loc :=
  let v := s.rd p.1.1 p.1.2
  need (bitOf v 13) [p.1]
    ++ need (decide p.2.Nodup) [p.1]
    ++ named s p.1 (p.2.headD 0) [1, 3]
    ++ (p.2.tail.flatMap fun n =>
        need (decide (Chan.mode s n = 2)) [p.1, ch n 2]
          ++ (s.gangOf n).elim [] fun q => [p.1, (0x4800 + q.1, 1)])

/-- No cell, and no gang, serves in two bridges or coil groups (R126). DEDUCED: notes/assumptions/27.md. -/
def overlaps (s : State) (b : Nat) : List Loc :=
  let all := (bridgeList s b ++ groupList s b).map fun p => (p.1, p.2.flatMap s.unitAll)
  (all.filter fun p => all.any fun q => decide (q.1 ≠ p.1) && p.2.any q.2.contains).map (·.1)

/-- The enabled limp entries as (sub-index, value). DESIGN CHOICE: notes/assumptions/136.md. -/
def limpList (s : State) : List (Nat × Nat) :=
  ((List.range 128).map fun k => (1 + k, s.rd 0x7601 (1 + k))).filter fun p => bitOf p.2 20

/-- An enabled limp entry of the bank: R484. -/
def limp (s : State) (p : Nat × Nat) : List Loc :=
  let n := field p.2 0 9
  let m := Chan.mode s n
  let others := (limpList s).filter fun q => decide (q.1 ≠ p.1)
  let me : Loc := (0x7601, p.1)
  (s.gangOf n).elim [] (fun g => need (decide (GangConfig.lowest g.2 = n)) [(0x4800 + g.1, 1), me])
    ++ ((groupList s (n / 32)).filter fun q => (q.2.flatMap s.unitAll).contains n).flatMap (fun q => [q.1, me])
    ++ ((bridgeList s (n / 32)).filter fun q => (legCells s q.2).contains n).flatMap (fun q =>
        need (q.2.all fun leg => (limpList s).any fun e => field e.2 0 9 = leg) [q.1, me])
    ++ ((others.filter fun q => field q.2 0 9 = n).flatMap fun q => [(0x7601, q.1), me])
    ++ need (Chan.permits m (field p.2 14 3) && Chan.permits m (field p.2 17 3)) [ch n 2, me]

/-- Every rule of a bank. -/
def bank (s : State) (b : Nat) : List Loc :=
  ((Escrow.bankCells b).flatMap fun n => channel s n ++ lamp s n ++ input s n ++ wakeInput s n)
    ++ ((s.gangList.filter fun p => field p.2 0 4 = b).flatMap fun p => gang s p.1 p.2)
    ++ (bridgeList s b).flatMap (bridge s) ++ (groupList s b).flatMap (coilGroup s) ++ overlaps s b
    ++ ((limpList s).filter fun p => field p.2 0 9 / 32 = b).flatMap (limp s)

/-! ### Engines -/

/-- The bank of a target is Active, and the engine owns every cell of it. -/
def owned (s : State) (me b : Nat) (l : List Nat) : List Loc :=
  need (s.active ⟨1, b⟩) [(0x4900 + b, 1)]
    ++ (l.filter fun n => decide (Chan.owner s n ≠ me)).map fun n => ch n 1

/-- One enabled slot of a coil engine: R219. -/
def coilSlot (s : State) (e k : Nat) : List Loc :=
  let g := 0x4C00 + e
  let at_ (o : Nat) : Loc := (g, Coil.sub k o)
  let v (o : Nat) := Coil.ent s e k o
  let trig := v 0x12
  if v 0 = 0 then []
  else
    (match Coil.cellOf s e k with
      | none => [(g, 3), at_ 0]
      | some n =>
        need (decide (v 0 = 3) || decide (Chan.loadClass s n = 5)) [ch n 5, at_ 0]
          ++ need (decide (v 0 ≠ 3 ∨ Chan.loadClass s n = 4 ∨ Chan.loadClass s n = 5)) [ch n 5, at_ 0]
          ++ need (decide (5 * v 1 ≤ 4 * Chan.currentLimit s n)) [ch n 0x10, at_ 1]
          ++ need (decide (100 ≤ Chan.pwmPeriod s n ∧ Chan.pwmPeriod s n ≤ 1000 ∧ Chan.pwmPeriod s n % 20 = 0)) [ch n 0x18])
      ++ need (decide (v 3 < v 4)) [at_ 3, at_ 4]
      ++ need (decide (v 5 ≤ v 1)) [at_ 1, at_ 5]
      ++ need (decide (v 8 ≤ v 5)) [at_ 5, at_ 8]
      ++ need (decide (field (v 7) 0 2 = 0 ∨ 4 ≤ field (v 7) 2 8)) [at_ 7]
      ++ need (decide (field trig 9 2 = 0 ∨ Chan.mode s (field trig 0 9) = 4)) [ch (field trig 0 9) 2, at_ 0x12]

/-- A coil engine: R219. -/
def coil (s : State) (e : Nat) : List Loc :=
  let g := 0x4C00 + e
  let cells := Coil.cells s e
  let on := (List.range 4).filter fun k => decide (Coil.mode s e k ≠ 0)
  owned s (Coil.code e) (Coil.bank s e) cells
    ++ (if Coil.grouped s e then
          match Coil.supply s e with
          | none => [(g, 3)]
          | some n =>
            need (decide (Chan.loadClass s n = 0 ∨ Chan.loadClass s n = 4)) [ch n 5]
              ++ need (decide (Chan.mode s n = 1 ∨ Chan.mode s n = 3)) [ch n 2]
              ++ (on.filter fun k => decide (Coil.capacity s e < Coil.ent s e k 1)).flatMap fun k => [ch n 0x10, (g, Coil.sub k 1)]
        else (Coil.cellOf s e 0).elim [(g, 3)] fun n => need (decide (Chan.mode s n = 1 ∨ Chan.mode s n = 2)) [ch n 2, (g, 3)])
    ++ (on.filter fun k => Coil.grouped s e || decide (k = 0)).flatMap (coilSlot s e)

/-- A loop engine: R246. -/
def loop (s : State) (e : Nat) : List Loc :=
  let g := 0x4D00 + e
  let b := Loops.bank s e
  let n := b * 32 + Loops.index s e
  let cells := Loops.cells s e
  let src := Loops.source s e
  let exists_ := match Loops.kind s e with
    | 0 => decide (1 ≤ Chan.mode s n ∧ Chan.mode s n ≤ 3) && decide (s.structureCode n = 0)
    | 1 => (s.gangOf n).any fun p => GangConfig.lowest p.2 = n
    | 2 => (Loops.legs s e).isSome
    | _ => false
  need exists_ [(g, 3)]
    ++ owned s (Loops.code e) b cells
    ++ (cells.filter fun m => decide (Chan.loadClass s m ≠ 0 ∧ Chan.loadClass s m ≠ 3)).map (fun m => ch m 5)
    ++ need (decide (src.1 ≠ 3 ∨ Chan.mode s src.2 = 6)) [ch src.2 2, (g, 4)]
    ++ need (decide (src.1 < 1 ∨ 3 < src.1) || s.active ⟨1, src.2 / 32⟩) [(0x4900 + src.2 / 32, 1), (g, 4)]
    ++ need (decide (s.rd g 7 < s.rd g 6)) [(g, 6), (g, 7)]

/-- A sequencer engine: R339. -/
def engine (s : State) (e : Nat) : List Loc :=
  let g := 0x5000 + e
  need (decide (s.rd g 5 ≠ 0)) [(g, 5)] ++ need (decide (s.rd g 4 ≤ 48)) [(g, 4)]

/-- A context: R340. -/
def context (s : State) (c : Nat) : List Loc :=
  let g := 0x5100 + c
  let e := 0x5000 + c / 4
  let v (j : Nat) := s.rd g j
  need (s.active ⟨4, c / 4⟩) [(e, 1)]
    ++ need (decide (v 3 < s.rd e 6)) [(e, 6), (g, 3)]
    ++ need (decide (v 4 < s.rd e 6)) [(e, 6), (g, 4)]
    ++ need (decide (v 6 < v 5)) [(g, 5), (g, 6)]
    ++ need (decide (v 5 % 4 = 0 ∧ v 5 ≤ 0x4000)) [(g, 5)]
    ++ need (decide (v 6 % 4 = 0 ∧ v 6 ≤ 0x4000)) [(g, 6)]

/-! ### Networks and access -/

/-- The time quanta of 12.5 ns in a bit (R392). -/
def quanta (v : Nat) : Nat := field v 0 8 * (1 + field v 8 8 + field v 16 7)

/-- A CAN controller: R393. -/
def can (s : State) (k : Nat) : List Loc :=
  let g := 0x6400 + k
  let q (j : Nat) := quanta (s.rd g j)
  let ctl := s.rd g 8
  need (decide (80 ≤ q 5 ∧ q 5 ≤ 640)) [(g, 5)]
    ++ need (!bitOf ctl 0 || decide (16 ≤ q 6 ∧ q 6 ≤ q 5)) [(g, 5), (g, 6), (g, 8)]
    ++ need (!bitOf ctl 1 || decide (8 ≤ q 7 ∧ q 7 ≤ q 5)) [(g, 5), (g, 7), (g, 8)]
    ++ need (!bitOf ctl 1 || bitOf ctl 2 || decide (16 ≤ q 7)) [(g, 7), (g, 8)]
    ++ [5, 6, 7].flatMap fun j => need (decide (field (s.rd g j) 23 7 ≤ field (s.rd g j) 16 7)) [(g, j)]

/-- An uplink: R381. -/
def port (s : State) (p : Nat) : List Loc :=
  need (decide (2 ≤ p) || decide (s.rd (0x6000 + p) 0x17 ≠ 2) || decide (s.rd (0x6000 + (1 - p)) 0x17 ≠ 2) || !s.active ⟨9, 1 - p⟩)
    [(0x6000 + p, 0x17), (0x6000 + (1 - p), 0x17)]

/-- The entries that take part in a failed rule of a function, with the function's own FunctionState left out (R51). -/
def failures (s : State) (f : Fn) : List Loc :=
  (match f.cls with
    | 1 => bank s f.inst
    | 2 => coil s f.inst
    | 3 => loop s f.inst
    | 4 => engine s f.inst
    | 5 => context s f.inst
    | 6 => can s f.inst
    | 9 => port s f.inst
    | 0x0A => Access.invalid s
    | _ => []).filter fun l => l ≠ (f.group, 1)

/-- The lower of two entries, by index and then sub-index. -/
def lower (a b : Loc) : Loc := if b.1 * 256 + b.2 < a.1 * 256 + a.2 then b else a

/-- R51: the first inconsistent entry, by index and then sub-index; none where the configuration is valid. -/
def first (s : State) (f : Fn) : Option Loc :=
  match failures s f with
  | [] => none
  | a :: l => some (l.foldl lower a)

end Validate

end Sys2Proof.Machine
end

