-- ==== Sys2Proof/Machine/Rights.lean ====
section
/-! DEFINITION. The checks of one write by R59: the writer's role and identity, busy actions, the owning functions' states
(R557), what each chapter forbids in a state, values, and cell ownership. -/

namespace Sys2Proof.Machine

namespace Rights

/-! ### Writers (R19, R40, R41, R92) -/

/-- The rank of a writer's role; a session that is not open has none. -/
def role (s : State) : Writer → Nat
  | .session k => if Bll.isOpen s k then (s.session k).role else 0
  | .context c => s.rd (0x5100 + c) 7

/-- The owner that a writer's cell commands speak for: the Ledger, or a context. -/
def code : Writer → Nat
  | .session _ => 0
  | .context c => 0x0500 + c

/-- A 1.3 session (R92). -/
def old (s : State) : Writer → Bool
  | .session k => decide ((s.session k).version = 0x0103)
  | .context _ => false

/-- The session of a writer. -/
def own : Writer → Option Nat
  | .session k => some k
  | .context _ => none

/-- The function whose FunctionState an entry is. -/
def stateOf (g : LGroup) (j : Nat) : Option Fn := if j = 1 then g.fn? else none

/-- FunctionState as it reads: P8 and P9 read Active (R387). -/
def shown (s : State) (f : Fn) : Nat := if Fns.fixedActive f then 2 else s.fn f

/-! ### The STATE step (R39, R50, Table 02-7, R557) -/

/-- An owning function accepts a write in its present state (Table 02-7). -/
def accepts (s : State) (f : Fn) (acc : Access) : Bool :=
  decide (shown s f = 1) || (decide (shown s f = 2) && decide (acc ≠ .rwc))

/-- A cell that meets R50: commanded OFF or FLOAT, and owned by the Ledger. DEDUCED: notes/assumptions/22.md. -/
def idle (s : State) (n : Nat) : Bool :=
  (decide (Chan.command s (s.head n) = 0) || decide (Chan.command s (s.head n) = 5)) && decide (Chan.owner s n = 0)

/-- R50 for a channel's RWC entries, for GangConfig, and for HBridge and CoilGroup (R124, R168).
DESIGN CHOICE: notes/assumptions/26.md. -/
def configurable (s : State) (g : LGroup) (j v : Nat) (acc : Access) : Bool :=
  match g with
  | .chanCfg n => decide (acc ≠ .rwc) || (s.unitAll n).all (idle s)
  | .gang k => decide (j ≠ 1) || (GangConfig.cells (s.rd (0x4800 + k) 1) ++ GangConfig.cells v).all (idle s)
  | .bank b => (s.declared b j (s.rd (0x4900 + b) j) ++ s.declared b j v).all (idle s)
  | _ => true

/-- The write is accepted by every owning function and under R50. -/
def writable (s : State) (g : LGroup) (j v : Nat) (acc : Access) : Bool :=
  if (stateOf g j).isSome then true
  else
    match g, j with
    | .chanCfg n, 3 => Cells.stateOk s n v
    | .chanCfg n, 4 => decide (s.head n = n) && accepts s ⟨1, n / 32⟩ acc
    | .counterLoad i, j => accepts s ⟨1, (i * 128 + (j - 1)) / 32⟩ acc
    | _, _ => (Fns.owners s g j v).all (fun f => accepts s f acc) && configurable s g j v acc

/-- A write names an entry of a bank in a per-function reset (R137, R292), whose previous action still runs (R39), or of a
program load that is another's (R336). -/
def busy (s : State) (w : Writer) (g : LGroup) (i j v : Nat) (acc : Access) : Bool :=
  let banks := match g with
    | .counterLoad k => [(⟨1, (k * 128 + (j - 1)) / 32⟩ : Fn)]
    | _ => Fns.owners s g j v
  banks.any (fun f => decide (f.cls = 1) && (s.bank f.inst).resetting)
    || (decide (acc = .cmd) && decide (s.rd i j = Status.busy.code) && decide ((i, j) ≠ (0x1300, 2)))
    || (decide (g = .progLoad) && Seq.loadBusy s w)

/-! ### What the chapters add -/

/-- A status where a condition fails. -/
def need (c : Bool) (st : Status) : Status := if c then .ok else st

/-- The first status of a list that is not OK. DESIGN CHOICE: notes/assumptions/23.md. -/
def first : List Status → Status
  | [] => .ok
  | x :: l => if x = .ok then first l else x

/-- Identifier rules of BllCanRequestId and BllCanResponseId (R103): an identifier that is written, and with the enabling of a
channel both of its identifiers, collides with none of a channel already enabled on the controller.
DESIGN CHOICE: notes/assumptions/46.md. -/
def bllCan (s : State) (c v : Nat) (request : Bool) : Status :=
  let reserved := !request && decide (2 ^ 30 ≤ v)
  let wide := bitOf v 29 || decide (field v 0 29 < 2 ^ 11)
  let on (k : Nat) : Bool := s.rdBit 0x1183 (1 + k) 31
  let ids (k : Nat) : List Nat := [s.rd 0x1183 (1 + k) % 2 ^ 30, s.rd 0x1183 (0x41 + k) % 2 ^ 30]
  let mine := if request then [v % 2 ^ 30, s.rd 0x1183 (0x41 + c) % 2 ^ 30] else [s.rd 0x1183 (1 + c) % 2 ^ 30, v % 2 ^ 30]
  let enabled := if request then bitOf v 31 else on c
  let clash := (List.range 4).any fun j =>
    let k := c / 4 * 4 + j
    decide (k ≠ c) && on k && (ids k).any (if enabled then mine else [v % 2 ^ 30]).contains
  if reserved then .reserved
  else need (wide && !clash && !(enabled && decide (mine.headD 0 = mine.getLastD 0))) .range

/-- Network entries: R103, R364, R374, R379, R386. DESIGN CHOICE: notes/assumptions/46.md. -/
def network (s : State) (g : LGroup) (j v : Nat) : Status :=
  match g with
  | .proxy =>
    let used := decide (field v 16 4 ≠ 0)
    need (!used || (decide (field v 0 14 ≠ 0 ∧ field v 0 14 ≠ s.rd 0x1180 1) &&
      decide (field v 20 4 < (match field v 16 4 with | 1 => 16 | 2 => 8 | _ => 6)) &&
      (List.range 64).all fun k => decide (1 + k = j ∨ s.rdField 0x1182 (1 + k) 16 4 = 0 ∨ s.rdField 0x1182 (1 + k) 0 14 ≠ field v 0 14))) .range
  | .bllCan => if j < 0x41 then bllCan s (j - 1) v true else bllCan s (j - 0x41) v false
  | .trafficClass c =>
    if j = 1 then need (decide ((c ≠ 7 ∨ 512 ≤ v) ∧ Vault.reservedTotal s + v ≤ Vault.size + Vault.classReserve s c)) .range else .ok
  | .vault 1 => need (decide (Vault.reservedTotal s + v ≤ Vault.size + Vault.egressReserve s (j - 1))) .range
  | .stream _ => if j = 2 then need (!bitOf v 18 || (bitOf v 6 && bitOf v 7)) .range else .ok
  | .vlan k =>
    if j = 1 then need (decide (v = 0) || (List.range 64).all fun x => decide (x = k ∨ s.rd (0x6180 + x) 1 ≠ v)) .range else .ok
  | .gate p => if j = 5 ∧ v = 1 then need (Switch.configOk s p) .range else .ok
  | _ => .ok

/-- Field buses, sleep and access: R399, R406, R409, R412, R424, R442, R453, R454, R455. -/
def buses (s : State) (g : LGroup) (j v : Nat) : Status :=
  match g with
  | .can k =>
    if j = 0x0D then
      (if !(s.active ⟨6, k⟩ && !(s.can k).asleep && !(s.can k).sleepAsked) then .state
       else if Bus.transmitStatus s k (octets 76 v) ≠ .ok then Bus.transmitStatus s k (octets 76 v)
       else need (Bus.transmit k (octets 76 v) s).1 .busy)
    else if j = 0x0E then need (s.can k).busOff .state
    else .ok
  | .lin k =>
    if j = 7 then need (LinBus.commander s k) .state
    else if 0x10 ≤ j ∧ j < 0x50 then need (!LinBus.frameBad v) .range
    else .ok
  | .sleep 0 => if j = 0x0C then Sleep.roundStatus s else .ok
  | .sleep 3 => if j < 0x11 then need (decide (v ≠ 2 ∨ j < 5)) .range else .ok
  | .sleep 4 => if 0x11 ≤ j ∧ j < 0x19 then need (!bitOf v 0 || decide (field v 1 7 ≠ 0)) .range else .ok
  | .access =>
    if j = 4 then Access.requestStatus s v
    else if j = 0x0D then need (decide (Access.tokens s = 0)) .state
    else if j = 0x11 then (if Access.recordStatus v = .ok then (Access.enrolCheck s v).elim .ok (·.1) else Access.recordStatus v)
    else .ok
  | .keySlot t => if j = 3 ∧ t < 16 then need (decide (s.rd (0x7010 + t) 2 = 1)) .state else .ok
  | .accessZone 0 => if j = 1 then Access.memoryStatus s v else .ok
  | _ => .ok

/-- A change-of-state record names an open destination (R286). -/
def cosDest (s : State) (v : Nat) : Status :=
  match field v 8 2 with
  | 1 => need (Bll.isOpen s (field v 10 7)) .state
  | 2 => need (s.active ⟨5, field v 10 7⟩) .state
  | _ => .ok

/-- A closed-loop block keeps IntegMin at most IntegMax and OutputMin below OutputMax (R268). -/
def loopBlock (s : State) (e j v : Nat) : Status :=
  let g := 0x4D00 + e
  let at_ (k : Nat) : Int := signed 32 (if k = j then v else s.rd g k)
  let base := if j < 0x28 then 0x20 else 0x28
  need (decide (at_ (base + 4) ≤ at_ (base + 5) ∧ at_ (base + 6) < at_ (base + 7))) .range

/-- Cells, engines and sequencers: R106, R130, R155, R168, R246, R251, R268, R285, R286, R337, R342, R484. -/
def engines (s : State) (g : LGroup) (j v : Nat) : Status :=
  match g with
  | .chanCfg n =>
    if j = 3 then need (Chan.permits (Chan.mode s n) v) .range
    else if j = 8 then need (decide (field v 2 2 = 0 ∨ field v 0 2 = 3)) .range
    else .ok
  | .chanDiag n => if j = 0x0D then (if v = 1 then need (Protect.proofReady s n) .state else .range) else .ok
  | .gang _ => if j = 1 ∧ bitOf v 15 then need (decide (2 ≤ field v 9 4 ∧ field v 9 4 ≤ 8 ∧ field v 13 2 < 3)) .range else .ok
  | .bank _ => if 0x10 ≤ j ∧ j < 0x20 ∧ bitOf v 24 then need (decide (2 ≤ field v 16 5)) .range else .ok
  | .coil _ => if j = 3 then need (bitOf v 9 || decide (field v 4 5 < 8)) .range else .ok
  | .loop e =>
    if j = 5 then need (decide (v ≠ 0)) .range
    else if j = 0x0C then need (decide (v ≠ 2 ∨ ((s.loop e).st ≠ 0 ∧ (s.loop e).st ≠ 1))) .state
    else if j = 0x0D then need (decide (v = 0 ∨ (Loops.source s e).1 ≠ 0)) .state
    else if j = 3 then need (decide (field v 9 2 ≠ 2 ∨ field v 4 5 < 16)) .range
    else if 0x20 ≤ j ∧ j < 0x30 then loopBlock s e j v
    else .ok
  | .counterLoad i => need (Inputs.loadAllowed s (i * 128 + (j - 1))) .state
  | .cos _ => if j = 1 then cosDest s v else .ok
  | .context c => if j = 0x0C then need (decide (v ≠ 1 ∨ (s.ctx c).st ≠ 4)) .state else .ok
  | .progLoad =>
    if j = 4 then Seq.dataStatus s v
    else if j = 7 then
      (match v with
        | 1 => Seq.beginStatus s
        | 2 => Seq.commitStatus s
        | 3 => need s.load.isSome .state
        | _ => .range)
    else .ok
  | .escrow 1 =>
    let good (c : Nat) : Bool := [0, 1, 2, 5].contains c
    need (good (field v 14 3) && good (field v 17 3)) .range
  | _ => .ok

/-- Module control: R70, R72, R424, R470, R472, R476, R479, R487, R497, R498, R501. -/
def control (s : State) (w : Writer) (g : LGroup) (j v : Nat) : Status :=
  match g with
  | .time => if j = 5 then Time.setStatus s v else .ok
  | .power => if j = 2 then Sleep.requestStatus s v else .ok
  | .source id => if j = 5 ∧ v = 2 ∧ Cause.persists s id then .causePersists else .ok
  | .escrow 0 =>
    if j = 1 then need (decide (200 ≤ v) || decide (Upd.st s ≠ 5)) .state
    else if j = 7 then need (s.supervisor.runs && !decide (s.rd 0x7600 2 = 1 ∧ s.rd 0x7600 5 = 1)) .state
    else .ok
  | .fnReset => if j = 1 then Fns.resetStatus s (own w) v else .ok
  | .update =>
    if j = 2 then Upd.commandStatus s v
    else if j = 4 then Upd.stageStatus s
    else if j = 6 ∨ j = 8 then need (decide (Upd.st s ≠ 5)) .state
    else if j = 7 then Upd.activationStatus s v
    else if j = 0x0D then need (decide (Upd.st s = 0 ∨ Upd.st s = 6)) .state
    else if j = 0x0E then need (decide (s.rd 0x7C00 0x0E ≤ v ∧ v ≤ Upd.version s)) .range
    else .ok
  | _ => .ok

/-- The status that a chapter gives a write in the state as it is. -/
def special (s : State) (w : Writer) (g : LGroup) (j v : Nat) : Status :=
  first [engines s g j v, network s g j v, buses s g j v, control s w g j v]

/-- A refusal that belongs to the STATE step of R59 or before it, and not to the value. -/
def early (st : Status) : Bool := !(st = .ok || st = .range || st = .reserved)

/-! ### Cell ownership (R19, R54, R55) -/

/-- A CellOwner value that may be written (Table 02-10). -/
def ownerValue (v : Nat) : Bool :=
  decide (v = 0 ∨ (v / 256 = 2 ∧ v % 256 < 64) ∨ (v / 256 = 3 ∧ v % 256 < 48) ∨ (v / 256 = 5 ∧ v % 256 < 128))

/-- R54 for one cell; a release that it does not accept is refused with STATE. DESIGN CHOICE: notes/assumptions/161.md. -/
def ownerOne (s : State) (v n : Nat) : Status :=
  let o := Chan.owner s n
  if o = v then .ok
  else if o = 0xF000 ∨ o = 0xF100 then .owner
  else if o = 0 then
    (if s.fn ⟨1, n / 32⟩ = 0 then .state
     else need (decide (s.fn ⟨v / 256, v % 256⟩ = 1 ∨ s.fn ⟨v / 256, v % 256⟩ = 2)) .state)
  else if v ≠ 0 then .owner
  else need (decide (s.fn ⟨o / 256, o % 256⟩ ≠ 2)) .state

/-- R54, R55: a CellOwner write decided for the whole structure. -/
def ownerStatus (s : State) (n v : Nat) : Status :=
  if ownerValue v then first ((s.structure_ n).map (ownerOne s v)) else .range

/-- The last step of R59: a cell command from a party that does not own the cell (R19), an ownership change. -/
def ownership (s : State) (w : Writer) (g : LGroup) (j v : Nat) : Status :=
  match g with
  | .chanCfg n =>
    if j = 1 then ownerStatus s n v
    else if j = 3 ∨ j = 4 then need (decide (Chan.owner s n = code w)) .owner
    else .ok
  | _ => .ok

/-! ### One write (R59) -/

/-- The value of a write as a raw number. -/
def valueOf (x : Write) : Nat := leNat x.value

/-- R59: the checks of one write, `s` the state before the posting and `p` the provisional one. -/
def check (s p : State) (w : Writer) (seen : List (Nat × Nat)) (x : Write) : Status :=
  match LGroup.ofIndex s.ca x.index, Fns.row s x.index x.sub with
  | some g, some r =>
    let v := valueOf x
    let st := special p w g x.sub v
    if old s w && !r.v1 then .noEntry
    else if seen.contains (x.index, x.sub) then .duplicate
    else if role s w < r.role.rank ∨ r.acc = .ro then .denied
    else if x.code ≠ r.ty.code ∨ x.value.length ≠ r.ty.size then .type
    else if busy s w g x.index x.sub v r.acc ∨ st = .busy then .busy
    else if !writable s g x.sub v r.acc then .state
    else if early st then st
    else if r.chk.status r.ty v ≠ .ok then r.chk.status r.ty v
    else if st ≠ .ok then st
    else ownership p w g x.sub v
  | _, _ => .noEntry

end Rights

end Sys2Proof.Machine
end

