-- ==== Sys2Proof/Machine/Posting.lean ====
section
/-! DEFINITION. Postings: the evaluation of a posting (R59), the lifecycle transitions it asks for (R47, R49, R51), its wait
for a store or staging loan, and what each committed write does (R57 to R63 and the chapters that own the entries). -/

namespace Sys2Proof.Machine

namespace Posting

/-! ### Evaluation (R59) -/

/-- A committed write: index, sub-index and raw value. -/
abbrev Item := Nat × Nat × Nat

/-- The item of a write. -/
def item (x : Write) : Item := (x.index, x.sub, Rights.valueOf x)

/-- The entry keeps the value that is written to it: not an action, nor an entry whose write is only an event. -/
def kept (g : LGroup) (j : Nat) (acc : Access) : Bool :=
  decide (acc ≠ .cmd) &&
    match g with
    | .time => decide (j ≠ 5)
    | .counterLoad _ => false
    | .can _ => decide (j ≠ 0x0D)
    | .update => decide (j ≠ 4)
    | .progLoad => decide (j ≠ 4)
    | .access => decide (j ≠ 0x11)
    | _ => true

/-- The function whose FunctionState an item writes. -/
def fnOf (s : State) (x : Item) : Option Fn := (LGroup.ofIndex s.ca x.1).bind fun g => Rights.stateOf g x.2.1

/-- A write applied provisionally (R59): a CellOwner for its whole structure (R55). DEDUCED: notes/assumptions/21.md. An action
is not applied: a scheduled activation does not bind a later EscrowTime of its own posting (R27).
DESIGN CHOICE: notes/assumptions/165.md. -/
def provisional (x : Item) (s : State) : State :=
  match LGroup.ofIndex s.ca x.1, Fns.row s x.1 x.2.1 with
  | some g, some r =>
    match fnOf s x, g with
    | some f, _ => if Fns.fixedActive f then s else s.setFn f x.2.2
    | none, .chanCfg n =>
      if x.2.1 = 1 then (s.structure_ n).foldl (fun s m => s.wr (0x4000 + m) 1 x.2.2) s else s.wr x.1 x.2.1 x.2.2
    | none, g => if kept g x.2.1 r.acc then s.wr x.1 x.2.1 x.2.2 else s
  | _, _ => s

/-- The items of a posting in order: the provisional state, or the first refused position and its status. -/
def items (s : State) (w : Writer) : Nat → List (Nat × Nat) → List Write → State → Except (Nat × Status) State
  | _, _, [], p => .ok p
  | i, seen, x :: r, p =>
    let st := Rights.check s p w seen x
    if st = .ok then items s w (i + 1) ((x.index, x.sub) :: seen) r (provisional (item x) p) else .error (i, st)

/-! ### Lifecycle transitions (Table 02-8) -/

/-- A refused transition: its status and the entry that LastRefusal names. -/
abbrev Refused := Status × (Nat × Nat)

/-- The FunctionState entry of a function. -/
def own (f : Fn) : Nat × Nat := (f.group, 1)

/-- The first sticky source of a function blocks a transition (R47). -/
def stickyBlock (s : State) (f : Fn) : Option Refused :=
  (Audit.stickyOf s f).map fun id => (.state, (0x8000 + id, 1))

/-- R49: the lowest channel the function owns that is commanded other than OFF or FLOAT; a loop engine stays Active until it is
Stopped, cells that escrow holds for it included (R266), and an engine of the sequencer while one of its contexts is Active
(R339). -/
def activeBlock (p : State) (f : Fn) : Option Refused :=
  if f.cls = 4 then
    ((List.range 4).find? fun k => p.fn ⟨5, 4 * f.inst + k⟩ = 2).map fun k => (.state, (0x5100 + (4 * f.inst + k), 1))
  else if Escrow.ownerCode f = 0 then none
  else
    let mine := (List.range 512).filter fun n => decide (Chan.owner p n = f.id) ||
      (decide (f.cls = 3) && decide (Chan.owner p n = 0xF000) && decide ((p.cell n).remembered = f.id))
    match mine.find? fun n => decide (Chan.command p (p.head n) ≠ 0 ∧ Chan.command p (p.head n) ≠ 5) with
    | some n => some (.state, (0x4000 + n, 1))
    | none => if f.cls = 3 ∧ (p.loop f.inst).st ≠ 0 then some (.state, own f) else none

/-- Table 02-8: what refuses the transition of a function to `v`, none where it is allowed. -/
def transition (s p : State) (w : Writer) (f : Fn) (v : Nat) : Option Refused :=
  let old := Rights.shown s f
  if v = old then none
  else if f.cls = 0x0C ∨ Fns.fixedActive f then some (.state, own f)
  else
    match old, v with
    | 0, 1 => none
    | 1, 2 => (Validate.first p f).map fun l => (.state, l)
    | 2, 1 => activeBlock p f
    | 2, 3 => none
    | 3, 2 => if s.isoExpired.contains f.id then some (.state, own f) else stickyBlock s f
    | 3, 1 => stickyBlock s f
    | 4, 1 => stickyBlock s f
    | 1, 4 => if (Rights.own w).isSome ∧ Rights.role s w = 4 then none else some (.state, own f)
    | 2, 4 => if (Rights.own w).isSome ∧ Rights.role s w = 4 then none else some (.state, own f)
    | 3, 4 => if (Rights.own w).isSome ∧ Rights.role s w = 4 then none else some (.state, own f)
    | _, _ => some (.state, own f)

/-- The first refused transition of a posting: position, function and refusal. -/
def transitions (s p : State) (w : Writer) : Nat → List Write → Option (Nat × Fn × Refused)
  | _, [] => none
  | i, x :: r =>
    match fnOf s (item x) with
    | some f =>
      match transition s p w f (Rights.valueOf x) with
      | some b => some (i, f, b)
      | none => transitions s p w (i + 1) r
    | none => transitions s p w (i + 1) r

/-- The functions a posting moves from Configure to Active, with their positions. The Teller stores nothing (R209). -/
def entering (s : State) : Nat → List Write → List (Nat × Fn)
  | _, [] => []
  | i, x :: r =>
    match fnOf s (item x) with
    | some f => if s.fn f = 1 ∧ Rights.valueOf x = 2 ∧ f.cls ≠ 0x0B then (i, f) :: entering s (i + 1) r else entering s (i + 1) r
    | none => entering s (i + 1) r

/-! ### What a refusal records -/

/-- A refused write counts where its chapter says so: OwnerRefusals (R53), ProofRefusals (R157), a refused enrolment (R454);
a refused FunctionState write is kept in LastRefusal (R45). DESIGN CHOICE: notes/assumptions/24.md. -/
def noteRefused (s p : State) (x : Write) (st : Status) : State :=
  let v := Rights.valueOf x
  match LGroup.ofIndex s.ca x.index with
  | some (.chanCfg n) =>
    if st = .owner ∧ (x.sub = 3 ∨ x.sub = 4) then s.inc (0x4200 + n) 1
    else if st = .state ∧ x.sub = 3 ∧ Cells.unproven p n v then s.inc (0x4400 + n) 0x0B
    else s
  | some .access =>
    if x.sub = 0x11 ∧ (st = .state ∨ st = .range ∨ st = .reserved ∨ st = .auth) ∧ Rights.writable s .access 0x11 v .wo then
      Access.enrolRefused (if Access.recordStatus v = .ok then (Access.enrolCheck s v).elim 0 (·.2) else 0) s
    else s
  | _ =>
    match fnOf s (item x) with
    | some f => s.setRefusal f x.index x.sub st
    | none => s

/-! ### Effects of committed writes -/

/-- A channel's configuration reaches its cell and marks its structure until the bank is Active again (R50); its input level is taken
anew (R279). -/
def configured (n : Nat) (s : State) : State :=
  Inputs.forget n (s.modCells (s.unitAll n) fun c => { c with dirty := true })

/-- Channel entries: commands, duty, averages, configuration (R108, R110, R121). -/
def channel (n j v : Nat) (s : State) : State :=
  if j = 1 then s
  else if j = 3 then Cells.accept n v (Chan.duty s n) true s
  else if j = 4 then Cells.acceptDuty n v s
  else if j = 9 then Measure.restart n s
  else configured n s

/-- The cells' groups: a changed CellMode or LoadClass clears FreewheelProven (R156); proof requests, counters (R155, R166,
R241, R214). -/
def cells (g : LGroup) (j v : Nat) (before s : State) : State :=
  match g with
  | .chanCfg n =>
    channel n j v (if (j = 2 ∨ j = 5) ∧ before.rd (0x4000 + n) j ≠ v then
      s.modCells (if s.head n = n then s.unitAll n else [n]) fun c => { c with proven := false } else s)
  | .chanDiag n =>
    if j = 0x0D then s.modCell n fun c => { c with proofAsked := true }
    else s.zero [(0x4400 + n, 3), (0x4400 + n, 4), (0x4400 + n, 0x0B), (0x4E86 + n / 128, 1 + n % 128)]
  | .gang k =>
    if j = 1 then
      let old := before.rd (0x4800 + k) 1
      (Gangs.reform k old s).modCells (GangConfig.cells old ++ GangConfig.cells v) fun c => { c with dirty := true }
    else s
  | .bank b => s.modCells (before.declared b j (before.rd (0x4900 + b) j) ++ s.declared b j v) fun c => { c with dirty := true }
  | .inputProfile p =>
    ((List.range 512).filter fun n => 4 ≤ Chan.mode s n ∧ Chan.mode s n ≤ 7 ∧ s.rd (0x4000 + n) 7 = p).foldl (fun s n => Inputs.forget n s) s
  | .counterLoad i => Inputs.loadWrite (i * 128 + (j - 1)) v s
  | .teller => if j = 0x0E then s.zero ((List.range 8).map fun k => (0x4A08, 1 + k)) else s
  | .coil e =>
    if j = 0x0C then Coil.clearCounters e s
    else if 0x10 ≤ j ∧ (j - 0x10) % 0x30 = 0x19 then Coil.finish e before s
    else if 0x10 ≤ j ∧ (j - 0x10) % 0x30 = 0x18 then Coil.coilCommand e ((j - 0x10) / 0x30) v s
    else if 0x10 ≤ j ∧ (j - 0x10) % 0x30 = 0x1B then Coil.rearm e ((j - 0x10) / 0x30) s
    else s
  | .loop e =>
    if j = 0x0C then (if v = 0 then Loops.stopWrite e s else s)
    else if j = 0x0D then Loops.modeWrite e s
    else if j = 0x0F then s.modLoop e fun r => { r with extAt := s.ticks }
    else if j = 0x3C then Loops.clearCounters e s
    else s
  | _ => s

/-- The value of an entry as it stands in a message of kind 0x01 to the publishing context (R66, Table 12-8). -/
def notice (s : State) (w : Writer) (x : Item) : State :=
  match Seq.publishedAt s (x.1 * 256 + x.2.1) with
  | none => s
  | some p =>
    let msg : List Byte := 1 :: Frames.item x.1 x.2.1 p.row.ty x.2.2
    let tc := match w with
      | .session k => (s.session k).evalTc
      | .context c => s.rd (0x5100 + c) 0x0A
    let q := Seq.rxQueue p.owner tc msg.length { msg := msg } s
    if q.1 then q.2 else q.2.inc (0x5100 + p.owner) 0x11

/-- Sequencer entries (R336 to R352). -/
def sequencer (w : Writer) (g : LGroup) (j v : Nat) (before s : State) : State :=
  match g with
  | .context c =>
    if j = 0x0C then Seq.runControl c v s
    else if j = 0x12 then s.zero [(0x5100 + c, 0x0F), (0x5100 + c, 0x10), (0x5100 + c, 0x11)]
    else s
  | .progLoad =>
    if j = 3 then Seq.loadAddress s
    else if j = 4 then Seq.loadData v s
    else if j = 7 then
      match v with
      | 1 => Seq.begin_ w (Rights.old s w) s
      | 2 => Seq.commit s
      | _ => Seq.abort s
    else s
  | .perf e =>
    if j = 0x13 then Perf.clear e s
    else if j = 0x14 then Perf.tagWrite e (before.rd (0x5400 + e) 0x14) s
    else if j = 0x16 then Perf.tagSeed e s
    else if j = 0x18 then Perf.tagArm e s
    else s
  | .census e => if j = 1 then (if v = 1 then Perf.censusEnter 2 e s else Perf.censusEnd e s) else s
  | _ => s

/-- Switch, Vault and field-bus entries (R364, R371, R373, R380, R383, R384, R399, R401, R406, R410, R412). A reservation that
takes SharedPool down to SharedInUse raises SHARED_EXHAUSTED. -/
def network (g : LGroup) (j v : Nat) (before s : State) : State :=
  match g with
  | .trafficClass _ | .vault 1 => Audit.raiseIf (Vault.exhausted s && !Vault.exhausted before) 0x1562 s
  | .port p =>
    if j = 0x14 then Switch.keyCommit p s else if j = 0x2E then Switch.clearCounters p s else s
  | .vault 0 =>
    if j = 0x0C then Switch.flush (fun _ => true) s else if j = 0x0D then Switch.clearVault s else s
  | .gate p =>
    if j = 5 then Switch.configChange p s else s
  | .can k =>
    if j = 0x0D then (Bus.transmit k (octets 76 v) s).2
    else if j = 0x0E then Bus.recover k s
    else if j = 0x0F then Bus.clashClear k s
    else if j = 0x1E then Bus.clearCounters k s
    else s
  | .lin k =>
    if j = 6 then LinBus.select k v s
    else if j = 7 then LinBus.sleep k s
    else if j = 0x0D then LinBus.clearCounters k s
    else if 0x50 ≤ j ∧ j < 0x90 then LinBus.writeData k (j - 0x50) s
    else s
  | .t1s k => if j = 8 then s.zero [(0x6600 + k, 6), (0x6600 + k, 7)] else s
  | _ => s

/-- Module control, sleep, access, Audit, escrow, update (chapters 02, 03, 15 to 18). A key or binding write leaves a session that
still awaits its PROVE (R85). A reaction whose tick has come applies before a Clear of that tick (R469).
DESIGN CHOICE: notes/assumptions/159.md. -/
def control (w : Writer) (g : LGroup) (j v : Nat) (before s : State) : State :=
  match g with
  | .sessionCtl => if 1 ≤ j ∧ j ≤ 3 then Bll.closeWhere w (fun x => decide (x.transport = 1 ∨ x.transport = 2)) s else s
  | .keySlots =>
    Bll.closeWhere w (fun x => decide (x.phase = .active ∧ x.slot = (if j < 0x11 then j - 1 else j - 0x11))) s
  | .time => if j = 2 then Time.sourceWrite s else if j = 5 then Time.stepTo v s else s
  | .power => if j = 2 then Sleep.request v s else s
  | .sleep 0 =>
    if j = 0x0B then Sleep.keepAwake (before.rd 0x6800 0x0B) s
    else if j = 0x0C then Sleep.roundStart v s
    else if j = 0x16 then Sleep.clearCounters s
    else s
  | .access =>
    if j = 4 then Access.request v s else if j = 0x11 then Access.enrol v s else if j = 0x1B then Access.clearCounters s else s
  | .keySlot t => if j = 6 then Access.revoke t s else s
  | .accessZone 0 => if j = 1 then Access.memoryStart v s else s
  | .auditCtl 0 => if j = 0x0A then s.zero [(0x7400, 7), (0x7400, 8), (0x7400, 9)] else s
  | .source id =>
    if j = 5 then (if v = 1 then Fns.acknowledge id s else Fns.clear id (Fns.graceExpiry id s))
    else if j = 6 ∧ v = 1 then Audit.raise id s
    else s
  | .escrow 0 =>
    if j = 2 then Escrow.force s
    else if j = 7 then
      (Escrow.heads s (Escrow.limpCells s)).foldl (fun s n =>
        let s := (s.unitAll n).foldl (fun s m => (Escrow.setOwner m 0 s).modCell m fun c => { c with limpRetry := none }) s
        Cells.accept n 0 (Chan.duty s n) true (s.wr (0x4000 + n) 3 0)) s
    else if j = 0x0C then s.zero [(0x7600, 8), (0x7600, 9)]
    else s
  | .update =>
    if j = 2 then (match v with | 1 => Upd.begin_ s | 2 => Upd.finish s | _ => Upd.discard s)
    else if j = 4 then Upd.stageWrite v s
    else if j = 7 then Upd.activation v s
    else s
  | .fnReset => if j = 1 then Fns.reset ⟨v / 256, v % 256⟩ s else s
  | _ => s

/-- A FunctionState commits: a transition still open to the function as it stands now. DESIGN CHOICE: notes/assumptions/25.md. -/
def moveFn (f : Fn) (v : Nat) (s : State) : State :=
  if Fns.fixedActive f ∨ f.cls = 0x0C ∨ (v = 2 ∧ s.fn f ≠ 1 ∧ s.fn f ≠ 3) then s else Fns.move f v s

/-- What one committed write does beside storing its value. -/
def effect (w : Writer) (before : State) (x : Item) (s : State) : State :=
  match fnOf s x, LGroup.ofIndex s.ca x.1 with
  | some f, _ => moveFn f x.2.2 s
  | none, some (.customer _) => notice s w x
  | none, some g =>
    let j := x.2.1
    let v := x.2.2
    control w g j v before (network g j v before (sequencer w g j v before (cells g j v before s)))
  | none, none => s

/-- The value of a committed write is stored: the owner of a whole structure (R55); an engine's boundary may still take the
value before it (R261). -/
def put (x : Item) (s : State) : State :=
  match LGroup.ofIndex s.ca x.1, Fns.row s x.1 x.2.1, fnOf s x with
  | some (.chanCfg n), some _, none =>
    if x.2.1 = 1 then (s.structure_ n).foldl (fun s m => if Chan.owner s m = x.2.2 then s else Escrow.setOwner m x.2.2 s) s
    else s.wr x.1 x.2.1 x.2.2
  | some (.loop e), some r, none => if kept (.loop e) x.2.1 r.acc then (Loops.noteWrite e x.1 x.2.1 s).wr x.1 x.2.1 x.2.2 else s
  | some (.profile e), some _, none => (Loops.noteWrite e x.1 x.2.1 s).wr x.1 x.2.1 x.2.2
  | some g, some r, none => if kept g x.2.1 r.acc then s.wr x.1 x.2.1 x.2.2 else s
  | _, _, _ => s

/-- A committed entry that the parameter store keeps: persistent without being part of a function's stored set, but for
the strongroom's, which are kept where they are (R53, R85, R213). -/
def persistent (s : State) (x : Item) : Bool :=
  match LGroup.ofIndex s.ca x.1 with
  | some .keySlots => false
  | some (.chanCfg n) => decide (x.2.1 ≠ 1) && ((LGroup.chanCfg n).row x.2.1).any (·.pers)
  | some g => (g.row x.2.1).any fun r => (r.pers && decide (r.acc ≠ .ro)) || (decide (r.acc = .rwc) && (Fns.owners s g x.2.1 x.2.2).isEmpty)
  | none => false

/-- All writes of a posting commit at one tick (R61): their values first, then what they do, in posting order. -/
def commit (w : Writer) (writes : List Write) (s : State) : State :=
  let l := writes.map item
  let cond := Sleep.beforeCommit s
  let before := s
  let s := l.foldl (fun s x => put x s) s
  let s := l.foldl (fun s x => effect w before x s) s
  let s := Sleep.afterCommit cond l s
  Store.persist ((l.filter (persistent before)).map fun x => (x.1, x.2.1)) s

/-! ### A posting from evaluation to commit -/

/-- A posting writes StageData, and waits for its staging loan (R498). -/
def stages (writes : List Write) : Bool := writes.any fun x => decide (x.index = 0x7C00 ∧ x.sub = 4)

/-- An evaluated posting commits, or waits for the store loan of the functions it moves into Active (R43, R51). Other postings
are evaluated and commit while it waits. DESIGN CHOICE: notes/assumptions/162.md. -/
def storeOrCommit (reply : Reply) (w : Writer) (writes : List Write) (s : State) : Option Answer × State :=
  let fns := (entering s 0 writes).map (·.2)
  if fns.isEmpty then (some ⟨.ok, 0xFF⟩, commit w writes s)
  else (none, Store.kick { s with jobs := s.jobs ++ [{ kind := .functions reply w writes fns, phase := .waiting s.ticks }] })

/-- A posting of a writer has been evaluated and waits for its loan or its burst. -/
def waits (s : State) (w : Writer) : Bool :=
  (s.jobs.any fun j => match j.kind with
    | .functions _ v _ _ => decide (v = w)
    | .entries _ => false) || s.update.job.any fun j => decide (j.writer = w)

/-- R59: a posting evaluated. The answer is absent while the posting waits for a loan. -/
def run (reply : Reply) (w : Writer) (writes : List Write) (s : State) : Option Answer × State :=
  match items s w 0 [] writes s with
  | .error (i, st) =>
    let p := match items s w 0 [] (writes.take i) s with
      | .ok p => p
      | .error _ => s
    (some ⟨st, i⟩, (writes[i]?).elim s fun x => noteRefused s p x st)
  | .ok p =>
    match transitions s p w 0 writes with
    | some (i, f, st, l) => (some ⟨st, i⟩, s.setRefusal f l.1 l.2 st)
    | none =>
      if stages writes then
        (none, Upd.askLoan (s.modUpdate fun u => { u with job := some { reply := reply, writer := w, writes := writes } }))
      else storeOrCommit reply w writes s

/-- The store burst of a posting has completed: its functions' sets are stored as the commit leaves them, and it commits
(R43, R51). -/
def stored (w : Writer) (writes : List Write) (fns : List Fn) (s : State) : Answer × State :=
  (⟨.ok, 0xFF⟩, fns.foldl (fun s f => Fns.store f s) (commit w writes s))

/-- The store loan is declined: nothing is stored, each function that would have entered Active records DECLINED in its
LastRefusal, and the posting is refused at the first such write (R51). -/
def storeDeclined (writes : List Write) (fns : List Fn) (s : State) : Answer × State :=
  let at_ := (entering s 0 writes).head?.elim 0xFF (·.1)
  (⟨.declined, at_⟩, fns.foldl (fun s f => s.setRefusal f f.group 1 .declined) s)

/-- The place of StageData in a posting whose staging loan is declined (R498). -/
def stagePosition (writes : List Write) : Nat := writes.findIdx fun x => decide (x.index = 0x7C00 ∧ x.sub = 4)

end Posting

end Sys2Proof.Machine
end

