-- ==== Sys2Proof/Machine/Reads.lean ====
section
/-! DEFINITION. Reads of entries (R39, R57, R558, Table 02-7), subscriptions and notifications (R94 to R97, R286 to R288). -/

namespace Sys2Proof.Machine

/-- The value a read returns: an entry of Unconfigured functions reads its default, but for what every function's group
carries (Table 02-7). DEDUCED: notes/assumptions/20.md. -/
def State.read (s : State) (i j : Nat) : Nat :=
  match LGroup.ofIndex s.ca i with
  | none => 0
  | some g =>
    let o := Fns.owners s g j (s.rd i j)
    if j = 0 ∨ (g.fn?.isSome ∧ j < 3) ∨ o = [] ∨ o.any (fun f => decide (Rights.shown s f ≠ 0)) then s.view i j
    else Ledger.dflt i j

namespace Reads

/-- The type a read returns: a CMD entry reads the status of its last action as U8 (Table 02-3). -/
def typeOf (r : Row) : LType := if r.acc = .cmd then .u8 else r.ty

/-- R558: the check of one read by a role; `old` for a 1.3 session (R92). -/
def check (s : State) (role : Nat) (old : Bool) (i j : Nat) : Status :=
  match LGroup.ofIndex s.ca i, Fns.row s i j with
  | some g, some r =>
    if old && !r.v1 then .noEntry
    else if role < r.role.rank ∨ r.acc = .wo then .denied
    else if (Fns.owners s g j (s.rd i j)).any (fun f => decide (f.cls = 1) && (s.bank f.inst).resetting) then .busy
    else .ok
  | _, _ => .noEntry

/-- An entry as an item of a response. -/
def item (s : State) (i j : Nat) : List Byte :=
  Frames.item i j ((Fns.row s i j).elim .u8 typeOf) (s.read i j)

/-- R558: a read request: its items checked in order, or the first refused position with its status. -/
def checkAll (s : State) (role : Nat) (old : Bool) : Nat → List (Nat × Nat) → Option (Nat × Status)
  | _, [] => none
  | k, p :: r => if check s role old p.1 p.2 = .ok then checkAll s role old (k + 1) r else some (k, check s role old p.1 p.2)

/-- The items that fit in `room` octets; the position of the first that does not (R80). -/
def collect (s : State) : Nat → Nat → List (Nat × Nat) → Except Nat (List Byte)
  | _, _, [] => .ok []
  | k, room, p :: r =>
    let x := item s p.1 p.2
    if room < x.length then .error k
    else match collect s (k + 1) (room - x.length) r with
      | .ok l => .ok (x ++ l)
      | .error n => .error n

/-- A read request answered: its status and, with OK, its items, all taken at one instant. -/
def run (s : State) (role : Nat) (old : Bool) (room : Nat) (l : List (Nat × Nat)) : Answer × List Byte :=
  match checkAll s role old 0 l with
  | some (k, st) => (⟨st, k⟩, [])
  | none => match collect s 0 room l with
    | .ok x => (⟨.ok, 0xFF⟩, x)
    | .error k => (⟨.range, k⟩, [])

/-- The (index, sub-index) pairs of a READ payload: a count of 1 to 32 and that many (Table 03-3). -/
def parse (l : List Byte) : Option (List (Nat × Nat)) :=
  let n := (l.getD 0 0).toNat
  if 1 ≤ n ∧ n ≤ 32 ∧ l.length = 1 + 3 * n then
    some ((List.range n).map fun k => (Bus.num l (1 + 3 * k) 2, Bus.num l (3 + 3 * k) 1))
  else none

/-- The writes of a list of items, none where they do not fill the octets (Table 03-3). -/
def parseItems : Nat → List Byte → Option (List Write)
  | 0, l => if l = [] then some [] else none
  | n + 1, l =>
    let len := Bus.num l 4 1
    if l.length < 5 + len then none
    else (parseItems n (l.drop (5 + len))).map fun r =>
      { index := Bus.num l 0 2, sub := Bus.num l 2 1, code := Bus.num l 3 1, value := (l.drop 5).take len } :: r

/-- The writes of a WRITE payload: a count of 1 to 32 and that many items. -/
def parseWrites (l : List Byte) : Option (List Write) :=
  let n := (l.getD 0 0).toNat
  if 1 ≤ n ∧ n ≤ 32 then parseItems n (l.drop 1) else none

end Reads

namespace Subs

/-- A subscription of a session replaced, by number. -/
def put (k : Nat) (x : Subscription) (s : State) : State :=
  s.modSession k fun y => { y with subs := y.subs.map fun z => if z.number = x.number then x else z }

/-- A subscription of a session removed. -/
def remove (k n : Nat) (s : State) : State := s.modSession k fun y => { y with subs := y.subs.filter (·.number ≠ n) }

/-- The row of a subscribed entry. -/
def row (s : State) (x : Subscription) : Option Row := Fns.row s (x.loc / 256) (x.loc % 256)

/-- The present value of a subscribed entry. -/
def value (s : State) (x : Subscription) : Nat := s.read (x.loc / 256) (x.loc % 256)

/-- R96: a change is a difference from the last notified value of at least the deadband. -/
def changed (t : LType) (deadband a b : Nat) : Bool :=
  if t.numeric then decide (max 1 deadband ≤ (t.toInt a - t.toInt b).natAbs) else decide (a ≠ b)

/-- The queued notification of a subscription that has not begun to leave. -/
def queued (s : State) (k n : Nat) : Option VItem :=
  s.vault.find? fun x => match x.cargo with
    | .notify j _ m .. => decide (j = k ∧ m = n) && x.sending.isEmpty
    | _ => false

/-- What a session is notified of is queued in the Vault, for the path of the session: an item of `n` octets (R95). -/
def queueFor (k tc n : Nat) (x : Cargo) (s : State) : Bool × State :=
  let y := s.session k
  Vault.queue tc (Bll.queueOf y.transport y.addr y.port) (Bll.wire y.transport (Frames.noticeLen n)) x s

/-- A notification of a session with the next number of its sequence (R95). -/
def send (k tc n status changes : Nat) (it : List Byte) (s : State) : Bool × State :=
  let fc := (s.session k).notifySeq + 1
  let q := queueFor k tc it.length (.notify k fc n status changes s.now it) s
  if q.1 then (true, q.2.modSession k fun y => { y with notifySeq := fc }) else (false, s)

/-- R97: a notification of a subscription; one that is queued takes the value and the time and adds to ChangeCount.
DESIGN CHOICE: notes/assumptions/32.md. -/
def notify (k : Nat) (x : Subscription) (status changes : Nat) (it : List Byte) (s : State) : Bool × State :=
  match queued s k x.number with
  | some y =>
    (true, Vault.modify y.id (fun z => { z with cargo := match z.cargo with
      | .notify a fc n _ c _ _ => .notify a fc n status (min 0xFFFF (c + changes)) s.now it
      | c => c }) s)
  | none => send k x.tc x.number status changes it s

/-- A notification of the present value. -/
def report (k : Nat) (x : Subscription) (changes : Nat) (s : State) : State :=
  let q := notify k x Status.ok.code changes (Reads.item s (x.loc / 256) (x.loc % 256)) s
  if q.1 then put k { x with last := value s x, due := s.ticks + x.interval * 1000, owed := false } q.2 else s

/-- One subscription looks at its entry: a change is notified at once or once the minimum interval has passed (R96); an entry
that has been withdrawn ends it with a last NOTIFY (R67, R97). -/
def poll (k : Nat) (x : Subscription) (s : State) : State :=
  match row s x with
  | none => remove k x.number (notify k x Status.noEntry.code 1 (octets 2 (x.loc / 256) ++ octets 1 (x.loc % 256) ++ octets 2 0) s).2
  | some r =>
    if x.mode = 1 ∨ Reads.check s 4 false (x.loc / 256) (x.loc % 256) ≠ .ok ∨ !changed (Reads.typeOf r) x.deadband (value s x) x.last then s
    else if x.mode = 0 ∨ x.due ≤ s.ticks then report k x 1 s
    else put k { x with owed := true } s

/-- NOTIFY_INTERVAL: the interval of a periodic subscription has ended, or a change has waited for its minimum interval. -/
def interval (k n : Nat) (s : State) : State :=
  match (s.session k).subs.find? (·.number = n) with
  | none => s
  | some x =>
    if x.due ≤ s.ticks ∧ (s.session k).phase = .active then
      match x.mode, row s x with
      | 1, some r =>
        let c := b01 (changed (Reads.typeOf r) x.deadband (value s x) x.last)
        let q := notify k x (Reads.check s 4 false (x.loc / 256) (x.loc % 256)).code c (Reads.item s (x.loc / 256) (x.loc % 256)) s
        put k { x with last := value s x, due := x.due + x.interval * 1000 } q.2
      | 2, some _ => if x.owed then report k x 1 s else s
      | _, _ => s
    else s

/-- Every subscription of every open session looks at its entry. -/
def pollAll (s : State) : State :=
  s.sessions.foldl (fun s p => p.2.subs.foldl (fun s x => poll p.1 x s) s) s

/-! ### Change-of-state events (R287, R288) -/

/-- The event of a record already waits in the Vault or in its context's queue. -/
def eventWaits (s : State) (r : Nat) : Bool :=
  (s.vault.any fun x => x.cargo = .cos r) || (s.ctx (Inputs.dest s r).2).rx.any fun x => x.cos = some r

/-- The event of a record is queued to its destination; without room it stays with the record and merges (R288). -/
def queueEvent (r : Nat) (s : State) : State :=
  let c := s.cosOf r
  let tc := field (Inputs.config s r) 17 3
  let d := (Inputs.dest s r).2
  if !c.queued ∨ eventWaits s r then s
  else match (Inputs.dest s r).1 with
    | 1 =>
      let s := if (s.session d).transport ≠ 3 ∧ Vault.sleeps s (s.session d).port then Inputs.lost r s else s
      (queueFor d tc 23 (.cos r) s).2
    | 2 => (Seq.rxQueue d tc 19 { cos := some r } s).2
    | _ => s

/-- Every record with an event queues it. -/
def queueEvents (s : State) : State := s.cos.foldl (fun s p => queueEvent p.1 s) s

/-! ### SUBSCRIBE and UNSUBSCRIBE (R94, R96) -/

/-- The subscriptions of the module. -/
def total (s : State) : Nat := (s.sessions.map fun p => p.2.subs.length).sum

/-- The lowest free subscription number of a session. -/
def freeNumber (x : Session) : Option Nat := (List.range 64).find? fun n => x.subs.all (·.number ≠ n)

/-- The interval fits the mode (R96). -/
def intervalOk (mode iv : Nat) : Bool :=
  match mode with
  | 0 => decide (iv = 0)
  | 1 => decide (10 ≤ iv ∧ iv ≤ 60000)
  | 2 => decide (1 ≤ iv ∧ iv ≤ 60000)
  | _ => false

/-- SUBSCRIBE: the status, and with OK the number of the new subscription. The present value stands as the last notified one, no
notification is sent, and an interval runs from now. DESIGN CHOICE: notes/assumptions/160.md. -/
def subscribe (k : Nat) (l : List Byte) (s : State) : Answer × List Byte × State :=
  let x := s.session k
  let n (a w : Nat) : Nat := Bus.num l a w
  let st := Reads.check s x.role (decide (x.version = 0x0103)) (n 0 2) (n 2 1)
  let numeric := ((Fns.row s (n 0 2) (n 2 1)).map Reads.typeOf).any (·.numeric)
  if l.length ≠ 11 then (⟨.range, 0xFF⟩, [], s)
  else if st ≠ .ok then (⟨st, 0⟩, [], s)
  else if !intervalOk (n 3 1) (n 5 2) ∨ 8 ≤ n 4 1 ∨ (n 7 4 ≠ 0 ∧ !numeric) ∨ 1024 ≤ total s then (⟨.range, 0xFF⟩, [], s)
  else match freeNumber x with
    | none => (⟨.range, 0xFF⟩, [], s)
    | some m =>
      let y : Subscription :=
        { number := m, loc := n 0 2 * 256 + n 2 1, mode := n 3 1, tc := n 4 1, interval := n 5 2, deadband := n 7 4,
          last := s.read (n 0 2) (n 2 1), due := s.ticks + n 5 2 * 1000 }
      (⟨.ok, 0xFF⟩, octets 1 m, s.modSession k fun z => { z with subs := z.subs ++ [y] })

/-- UNSUBSCRIBE: the subscription ends, and its queued notification is withdrawn; a number not in use is out of range. -/
def unsubscribe (k : Nat) (l : List Byte) (s : State) : Answer × State :=
  let n := (l.getD 0 0).toNat
  if l.length ≠ 1 ∨ (s.session k).subs.all (·.number ≠ n) then (⟨.range, 0xFF⟩, s)
  else
    let s := match queued s k n with
      | some y => Vault.drop y.id s
      | none => s
    (⟨.ok, 0xFF⟩, remove k n s)

end Subs

end Sys2Proof.Machine
end

