-- ==== Sys2Proof/Machine/Sessions.lean ====
section
/-! DEFINITION. Sessions: opening, freshness, evaluation of requests, relays and closing (R73 to R92, R98 to R100, R416,
R417). -/

namespace Sys2Proof.Machine

namespace Bll

/-! ### Arriving frames -/

/-- Table 03-9's code of a path. -/
def transportOf : Via → Nat
  | .uplink => 1 | .t1s => 2 | .can => 3 | .service => 4

/-- The switch port through which the module answers on a path. -/
def portOf (o : Origin) : Nat :=
  match o.via with
  | .service => 8
  | _ => o.port

/-- The module has the address that a datagram was sent to: an IPv4 address of 0 disables IPv4, an all-zero IPv6 address leaves
only the link-local one. The service port and CAN have addresses of their own (R76, R102). -/
def addressed (s : State) (o : Origin) : Bool :=
  match o.via, o.ip with
  | .uplink, .v4 | .t1s, .v4 => decide (s.rd 0x1180 2 ≠ 0)
  | .uplink, .v6 | .t1s, .v6 => decide (s.rd 0x1180 3 ≠ 0)
  | _, _ => true

/-- The Ledger is served in Run, and in Standby on the service port (R533), to frames that reach an address of the module. -/
def served (s : State) (o : Origin) : Bool :=
  (decide (s.power = 3) || (decide (s.power = 2) && decide (o.via = .service))) && addressed s o

/-- A frame is read in the 1.3 layout (R91). -/
def oldLayout (f : Frame) : Bool := decide (f.version / 16 = 1)

/-- Destination and source; a 1.3 frame carries neither (R91). -/
def destOf (f : Frame) : Nat := if oldLayout f then 0 else f.dest
/-- The source node: 14 bits of its field; the others are reserved (R73). -/
def sourceOf (f : Frame) : Nat := if oldLayout f then 0 else f.source % 2 ^ 14

/-- The octets of a host's frame before its tag (Table 03-2, R91). -/
def hostOctets (type : Nat) (f : Frame) : List Byte :=
  let b (n v : Nat) := octets n v
  if oldLayout f then b 1 f.version ++ b 1 type ++ b 1 f.session ++ b 1 f.flags ++ b 4 f.fc ++ b 2 f.len ++ f.payload
  else b 1 f.version ++ b 1 type ++ b 2 f.dest ++ b 2 f.source ++ b 1 f.session ++ b 1 f.flags ++ b 4 f.fc ++ b 2 f.len ++ f.payload

/-- The tag of a frame under a session key (R79). -/
def tagOf (ks type : Nat) (f : Frame) : Nat := Config.cmac ks (hostOctets type f) % 2 ^ 64

/-- The first check of R86: shorter than its minimum, L inconsistent, an OPEN or PROVE of another length. -/
def malformed (type : Nat) (f : Frame) : Bool :=
  f.cut || decide (f.len ≠ f.payload.length ∨ 1400 < f.len) || (decide (type = 1) && decide (f.len ≠ 9))
    || (decide (type = 3) && decide (f.len ≠ 16))

/-- A frame discarded and counted in MalformedFrames. -/
def discard (s : State) : State := s.inc 0x1180 9

/-! ### Lock-out (R84) -/

/-- A record is that of a source: its node, its path and its address there. DEDUCED: notes/assumptions/37.md. -/
def isOpener (source transport addr : Nat) (x : Opener) : Bool :=
  decide (x.source = source ∧ x.transport = transport ∧ x.addr = addr)

/-- The record of a source. -/
def opener (s : State) (source transport addr : Nat) : Option Opener := s.openers.find? (isOpener source transport addr)

/-- The source is locked out. -/
def lockedOut (s : State) (source transport addr : Nat) : Bool :=
  (opener s source transport addr).any fun x => decide (s.ticks < x.lockedBy)

/-- An exchange of a source has ended in AUTH: the eighth within any 10 s locks it out for 60 s. During the lock-out nothing is
counted and the lock-out runs on. DESIGN CHOICE: notes/assumptions/156.md. -/
def authFailed (source transport addr : Nat) (s : State) : State :=
  if lockedOut s source transport addr then s
  else
    let others := s.openers.filter fun x => !isOpener source transport addr x
    let l := s.ticks :: ((opener s source transport addr).elim [] (·.failures)).filter fun t => decide (s.ticks < t + 10000000)
    let x : Opener := { source := source, transport := transport, addr := addr, failures := l, lockedBy := 0 }
    if 8 ≤ l.length then
      { s with openers := { x with failures := [], lockedBy := s.ticks + 60000000 } :: others }.inc 0x1180 0x0A
    else { s with openers := x :: others }

/-- OPEN_LOCKOUT_END: the lock-out of a source has run out. -/
def lockoutEnd (transport source addr : Nat) (s : State) : State :=
  if lockedOut s source transport addr then s
  else { s with openers := s.openers.filter fun x => !(isOpener source transport addr x && decide (x.lockedBy ≠ 0)) }

/-! ### OPEN (R82, R83, R90) -/

/-- R83: the key slots that qualify for a role and a source, the preferred first. -/
def slotFor (s : State) (role source : Nat) : Option Nat :=
  let ok (node k : Nat) : Bool :=
    let v := s.rd 0x1181 (0x11 + k)
    decide (s.rd 0x1181 (1 + k) ≠ 0 ∧ field v 0 3 ≠ 0 ∧ role ≤ field v 0 3 ∧ field v 16 14 = node)
  match (List.range 16).find? (ok source) with
  | some k => some k
  | none => (List.range 16).find? (ok 0)

/-- The version an OPEN negotiates (Table 03-6). -/
def negotiated (s : State) (byte : Nat) : Option Nat :=
  if byte / 16 = 2 then some 0x0200 else if byte = 0x13 ∧ s.rd 0x1180 6 = 1 then some 0x0103 else none

/-- The lowest free session number of a path (R77, R100). -/
def freeSession (s : State) (service : Bool) : Option Nat :=
  ((List.range 128).filter fun k => decide (126 ≤ k) = service).find? fun k =>
    decide ((s.session k).phase = .free ∧ s.rd (0x1100 + k) 1 = 0)

/-- What an OPEN is answered: a status, or the session, its version and its key slot. -/
def openCheck (s : State) (o : Origin) (f : Frame) : Except Status (Nat × Nat × Nat) :=
  let role := Bus.num f.payload 0 1
  let service := decide (o.via = .service)
  if lockedOut s (sourceOf f) (transportOf o.via) o.addr then .error .auth
  else match negotiated s f.version with
    | none => .error .version
    | some v =>
      if role = 0 ∨ 4 < role then .error .range
      else if role = 4 ∧ !service then .error .denied
      else if s.blank then .error .busy
      else match freeSession s service with
        | none => .error .busy
        | some k => match slotFor s role (sourceOf f) with
          | none => .error .auth
          | some slot => .ok (k, v, slot)

/-- The CHALLENGE of an OPEN (Table 03-3); session 0xFF on a refusal. DESIGN CHOICE: notes/assumptions/36.md. -/
def challenge (s : State) (f : Frame) (st : Status) (k offered nm : Nat) : List Byte :=
  let byte := if oldLayout f then 0x13 else 0x20
  Frames.plain byte 2 (sourceOf f) (s.rd 0x1180 1) k 0 (octets 1 st.code ++ octets 1 k ++ octets 2 offered ++ octets 8 nm)

/-- OPEN: checked in order and answered by a CHALLENGE; Nm is drawn for every OPEN (R81, R82). One that is answered with AUTH
during a lock-out counts towards no other (R84). DESIGN CHOICE: notes/assumptions/156.md. -/
def open_ (o : Origin) (f : Frame) (s : State) : State :=
  let r := openCheck s o f
  let d := s.draw
  let nm := d.1 % 2 ^ 64
  let s := d.2
  let port := portOf o
  match r with
  | .error st =>
    let s := if st = .auth then authFailed (sourceOf f) (transportOf o.via) o.addr s else s
    transmit (transportOf o.via) o.addr port 0xFF o.tc (challenge s f st 0xFF 0x0200 nm) { s with answer := ⟨st, 0xFF⟩ }
  | .ok (k, v, slot) =>
    let x : Session :=
      { phase := .challenged (s.ticks + 1000000), transport := transportOf o.via, addr := o.addr, port := port,
        source := sourceOf f, role := Bus.num f.payload 0 1, version := v, slot := slot, nh := Bus.num f.payload 1 8, nm := nm }
    transmit (transportOf o.via) o.addr port k o.tc (challenge s f .ok k v nm)
      { (s.modSession k fun _ => x) with answer := ⟨.ok, 0xFF⟩ }

/-! ### PROVE (R81, R82) -/

/-- The proof a host must give. -/
def proofOf (s : State) (k : Nat) : Nat :=
  let x := s.session k
  Config.cmac (s.rd 0x1181 (1 + x.slot))
    ([0x50, 0x52, 0x56] ++ octets 8 x.nh ++ octets 8 x.nm ++ octets 1 k ++ octets 1 x.role ++ octets 2 x.source) % 2 ^ 128

/-- The module's proof. -/
def moduleProof (s : State) (k : Nat) : Nat :=
  let x := s.session k
  Config.cmac (s.rd 0x1181 (1 + x.slot))
    ([0x4F, 0x50, 0x4E] ++ octets 8 x.nm ++ octets 8 x.nh ++ octets 1 k ++ octets 1 x.role) % 2 ^ 128

/-- The session key KS. -/
def keyOf (s : State) (k : Nat) : Nat :=
  let x := s.session k
  Config.cmac (s.rd 0x1181 (1 + x.slot)) ([0x4B, 0x45, 0x59] ++ octets 8 x.nh ++ octets 8 x.nm ++ octets 1 k) % 2 ^ 128

/-- A session's number awaits a PROVE. -/
def awaits (s : State) (k : Nat) : Bool :=
  match (s.session k).phase with
  | .challenged t => decide (s.ticks < t)
  | _ => false

/-- The OPENED frame. -/
def opened (s : State) (k : Nat) (st : Status) (proof : Nat) : List Byte :=
  let x := s.session k
  Frames.plain (Frames.versionByte x.version) 4 x.source (s.rd 0x1180 1) k 0 (octets 1 st.code ++ octets 16 proof)

/-- IdleTimeout from now, as it is set when the request arrives. DESIGN CHOICE: notes/assumptions/158.md. -/
def idle (s : State) : Nat := s.ticks + s.rd 0x1180 5 * 1000

/-- PROVE for the session that awaits it. -/
def prove (k tc : Nat) (proof : Nat) (s : State) : State :=
  let x := s.session k
  let send (st : Status) (p : Nat) (t : State) : State :=
    transmit x.transport x.addr x.port k tc (opened s k st p) { t with answer := ⟨st, 0xFF⟩ }
  if s.blank then send .busy 0 s
  else if proof = proofOf s k then
    let t := (s.modSession k fun y => { y with phase := .active, ks := keyOf s k, idleBy := idle s }).setFn ⟨0x0C, k⟩ 2
    send .ok (moduleProof s k) ((t.wr (0x1100 + k) 8 0).wr (0x1100 + k) 0x0A s.now)
  else send .auth 0 (authFailed x.source x.transport x.addr (s.modSession k fun _ => {}))

/-- PROVE_TIMEOUT. -/
def proveTimeout (k : Nat) (s : State) : State :=
  match (s.session k).phase with
  | .challenged t => if t ≤ s.ticks then s.modSession k fun _ => {} else s
  | _ => s

/-! ### Relays (R74, R416, R417) -/

/-- The proxy entry of a node. -/
def proxyOf (s : State) (node : Nat) : Option Nat :=
  ((List.range 64).map fun k => s.rd 0x1182 (1 + k)).find? fun v => decide (field v 16 4 ≠ 0 ∧ field v 0 14 = node ∧ node ≠ 0)

/-- The device of a proxy entry, as relays are keyed: bus kind × 65,536 + bus × 256 + device address. -/
def deviceOf (v : Nat) : Nat := field v 16 4 * 65536 + field v 20 4 * 256 + field v 24 8

/-- A relay to a device is outstanding. -/
def deviceBusy (s : State) (dev : Nat) : Bool := s.sessions.any fun p => p.2.relay.any fun r => decide (r.1 = dev)

/-- The first item of a request for a proxied device that the session's role does not reach (R40, R74): an entry that the
module's own table knows asks the role of its row, another one Observe for a read and Operate for a write.
DESIGN CHOICE: notes/assumptions/154.md. -/
def relayDenied (s : State) (role type : Nat) (l : List Byte) : Option Nat :=
  let write := decide (type = 0x11)
  let items := if write then ((Reads.parseWrites l).getD []).map fun x => (x.index, x.sub) else (Reads.parse l).getD []
  items.findIdx? fun p => decide (role < (Fns.row s p.1 p.2).elim (if write then 2 else 1) (·.role.rank))

/-- The request relayed to its device, with the next relay tag: on every bus as an item of the Vault (R21).
DESIGN CHOICE: notes/assumptions/41.md. DESIGN CHOICE: notes/assumptions/42.md. -/
def relayOut (dev type tc : Nat) (payload : List Byte) (s : State) : State :=
  let tag := Map.get 0 s.relayTags dev % 256
  let bus := dev / 256 % 256
  let rec_ : List Byte := octets 1 1 ++ octets 1 (bus + 48) ++ octets 1 dev ++ octets 1 tag ++ octets 1 type ++ [0] ++ payload
  let s := { s with relayTags := Map.put 0 s.relayTags dev (tag + 1) }
  match dev / 65536 with
  | 1 => (Vault.queue tc (12 + Iso.relayChannel bus (dev % 256)) rec_.length (.relay rec_) s).2
  | 2 => match Vault.take tc 10 (Vault.coinsOf rec_.length) true s with
    | (some c, s) => (Vault.free c s).send (.relay 2 bus (dev % 256) tag rec_)
    | (none, s) => s
  | _ => Switch.emit [2 + bus] tc
      { inPort := 10, dst := 2 ^ 48 - 1, src := Switch.entry s 10 4, len := max 64 (rec_.length + 18), etype := 0x88B5, data := rec_ } s

/-! ### Evaluation (R87) -/

/-- A payload has the form its type requires (R79). -/
def formOk (type : Nat) (l : List Byte) : Bool :=
  match type with
  | 0x10 => (Reads.parse l).isSome
  | 0x11 => (Reads.parseWrites l).isSome
  | 0x12 => decide (l.length = 11)
  | 0x13 => decide (l.length = 1)
  | 0x05 => l.isEmpty
  | 0x15 => l.isEmpty
  | _ => false

/-- A request leaves the queue for its evaluation. -/
def begin_ (k : Nat) (r : Request) (s : State) : State :=
  s.modSession k fun x => { x with
    queue := x.queue.filter (·.fc ≠ r.fc), evaluating := some r.fc, evalTc := r.tc, evalType := r.type }

/-- The octets of items that a response of a session can hold (R80). -/
def room (s : State) (k : Nat) : Nat := if (s.session k).version = 0x0103 then 1398 else 1390

/-- One request evaluated: answered, or left waiting for a loan or a proxied device. -/
def evaluate (k : Nat) (r : Request) (s : State) : State :=
  let s := begin_ k r s
  let x := s.session k
  let old := decide (x.version = 0x0103)
  let answer (a : Answer) (rest : List Byte) (s : State) : State := respond k r.fc r.type r.tc a rest s
  if !formOk r.type r.payload then answer ⟨.range, 0xFF⟩ [] s
  else match proxyOf s r.dest with
    | some v =>
      if r.type ≠ 0x10 ∧ r.type ≠ 0x11 then answer ⟨.range, 0xFF⟩ [] s
      else if let some i := relayDenied s x.role r.type r.payload then answer ⟨.denied, i⟩ [] s
      else if field v 16 4 = 2 ∧ !LinBus.commander s (field v 20 4) then answer ⟨.noEntry, 0xFF⟩ [] s
      else relayOut (deviceOf v) r.type r.tc r.payload (s.modSession k fun x => { x with
        relay := some (deviceOf v, s.ticks + s.rd 0x1180 8 * 1000) })
    | none =>
      match r.type with
      | 0x10 =>
        let y := Reads.run s x.role old (room s k) ((Reads.parse r.payload).getD [])
        answer y.1 y.2 s
      | 0x11 =>
        let y := Posting.run (.session k r.fc) (.session (Fin.ofNat 128 k)) ((Reads.parseWrites r.payload).getD []) s
        match y.1 with
        | some a => closeIfAsked k (answer a [] y.2)
        | none => y.2
      | 0x12 => let y := Subs.subscribe k r.payload s; answer y.1 y.2.1 y.2.2
      | 0x13 => let y := Subs.unsubscribe k r.payload s; answer y.1 [] y.2
      | 0x05 => close k (answer ⟨.ok, 0xFF⟩ [] s)
      | _ => answer ⟨.ok, 0xFF⟩ [] s

/-- A request must wait behind another session's relay to the same device (R417). -/
def blocked (s : State) (r : Request) : Bool := (proxyOf s r.dest).any fun v => deviceBusy s (deviceOf v)

/-- A session evaluates its requests one at a time, in arrival order (R87). -/
def pump (k : Nat) : Nat → State → State
  | 0, s => s
  | n + 1, s =>
    let x := s.session k
    match x.queue with
    | r :: _ =>
      if x.phase = .active ∧ x.evaluating.isNone ∧ !s.blank ∧ !blocked s r then pump k n (evaluate k r s) else s
    | [] => s

/-- Every session goes on with its requests. -/
def pumpAll (s : State) : State := s.sessions.foldl (fun s p => pump p.1 (p.2.queue.length + 1) s) s

/-- The answer of a posting that waited reaches its session, which goes on with its requests. -/
def deliver (k fc : Nat) (a : Answer) (s : State) : State :=
  let x := s.session k
  if x.evaluating = some fc then
    pumpAll (closeIfAsked k (respond k fc x.evalType x.evalTc a [] s))
  else s

/-! ### Reception (R86) -/

/-- Destinations the module serves (R74). -/
def destOk (s : State) (d : Nat) : Bool := decide (d = 0 ∨ d = s.rd 0x1180 1) || (proxyOf s d).isSome

/-- A reserved bit of the header is set (Table 03-2). -/
def reservedBits (f : Frame) : Bool :=
  decide (128 ≤ f.session ∨ 2 ≤ f.flags) || (!oldLayout f && decide (2 ^ 14 ≤ f.dest ∨ 2 ^ 14 ≤ f.source))

/-- FC seen, among those from H − 15 on. DEDUCED: notes/assumptions/38.md. -/
def mark (k fc : Nat) (s : State) : State :=
  s.modSession k fun x => { x with seen := (fc :: x.seen).eraseDups.filter fun n => decide (high s k ≤ n + 15) }

/-- A refusal under R86: a response that completes its FC. One that had completed keeps its record, and one that is still
being evaluated is answered by its evaluation as well. DESIGN CHOICE: notes/assumptions/39.md. -/
def refuse (k fc type tc : Nat) (st : Status) (s : State) : State :=
  let x := s.session k
  if pending x fc ∨ x.done.any (·.1 = fc) then
    transmitOn k tc (Frames.build s k type fc (prefix_ x (max x.highDone fc) ⟨st, 0xFF⟩)) { s with answer := ⟨st, 0xFF⟩ }
  else respond k fc type tc ⟨st, 0xFF⟩ [] s

/-- A request whose tag and version are right (R86, R87, R89). What R86 refuses keeps its status while Ledger service is absent,
and what it would queue is answered with BUSY (R26). DESIGN CHOICE: notes/assumptions/157.md. -/
def accept (k type tc : Nat) (f : Frame) (s : State) : State :=
  let h := high s k
  let x := s.session k
  if f.fc = 0 ∨ f.fc + 15 < h then refuse k f.fc type tc .auth (s.inc (0x1100 + k) 0x0D)
  else if f.fc ≤ h ∧ x.seen.contains f.fc then
    match x.done.find? (·.1 = f.fc) with
    | some d => transmitOn k tc d.2.1 s
    | none => s
  else if h = 0xFFFFFFFF then refuse k f.fc type tc .auth (mark k f.fc s)
  else if 16 ≤ View.outstanding x then refuse k f.fc type tc .window (mark k f.fc (s.inc (0x1100 + k) 0x0E))
  else if reservedBits f then refuse k f.fc type tc .reserved (mark k f.fc s)
  else if !destOk s (destOf f) then refuse k f.fc type tc .noEntry (mark k f.fc s)
  else
    let s := mark k f.fc (s.wr (0x1100 + k) 8 (max h f.fc))
    if s.blank then respond k f.fc type tc ⟨.busy, 0xFF⟩ [] s
    else
      let s := s.modSession k fun x => { x with
        queue := x.queue ++ [{ fc := f.fc, type := type, dest := destOf f, payload := f.payload, tc := tc }] }
      pump k 17 s

/-- R86: an arriving frame of a type. A PROVE that its session does not await is discarded, also one with a valid tag, which counts
in MalformedFrames. DESIGN CHOICE: notes/assumptions/176.md. -/
def receive (o : Origin) (type : Nat) (f : Frame) (s : State) : State :=
  let k := f.session % 128
  let x := s.session k
  let same := decide (x.transport = transportOf o.via ∧ x.addr = o.addr ∧ x.source = sourceOf f)
  if !served s o then s
  else if malformed type f then discard s
  else if type = 1 then open_ o f s
  else if type = 3 ∧ awaits s k then
    (if same then prove k o.tc (leNat f.payload) s else discard s)
  else if x.phase ≠ .active ∨ !same then discard s
  else if f.tag ≠ tagOf x.ks type f then s.inc (0x1100 + k) 0x0C
  else if f.version ≠ Frames.versionByte x.version ∨ type = 3 then discard s
  else accept k type o.tc f (s.modSession k fun y => { y with idleBy := idle s })

/-! ### Events of sessions -/

/-- IDLE_TIMEOUT: no authenticated request for IdleTimeout (R98). -/
def idleTimeout (k : Nat) (s : State) : State :=
  if isOpen s k ∧ (s.session k).idleBy ≤ s.ticks then pumpAll (close k s) else s

/-- PROXY_TIMEOUT: the device has not answered within ProxyTimeout (R74). -/
def proxyTimeout (k : Nat) (s : State) : State :=
  let x := s.session k
  match x.relay, x.evaluating with
  | some (_, t), some fc => if t ≤ s.ticks then deliver k fc ⟨.busy, 0xFF⟩ s else s
  | _, _ => s

/-- The status that an octet of a relay answer spells; a reserved one is told as RANGE. -/
def statusOf (n : Nat) : Status :=
  ([.ok, .busy, .denied, .range, .reserved, .state, .type, .noEntry, .window, .auth, .version, .causePersists, .declined, .owner,
    .duplicate].find? fun st => st.code = n).getD .range

/-- RELAY_RESPONSE: the answer whose device and tag match an outstanding relay becomes the BLL response (R416). -/
def relayAnswer (dev tag status position : Nat) (items : List Byte) (s : State) : State :=
  match s.sessions.find? fun p => p.2.relay.any fun r => decide (r.1 = dev) with
  | some (k, x) =>
    match x.evaluating with
    | some fc =>
      if Map.get 0 s.relayTags dev = tag + 1 then
        let rest := if x.evalType = 0x10 ∧ status = 0 then items else []
        pumpAll (respond k fc x.evalType x.evalTc ⟨statusOf status, position⟩ rest s)
      else s
    | none => s
  | none => s

/-- A relay answer as it arrives on a bus, in the layout of Table 14-11. -/
def relayFrame (dev : Nat) (l : List Byte) (s : State) : State :=
  if Bus.num l 0 1 = 1 ∧ field (Bus.num l 1 1) 4 4 = 4 ∧ Bus.num l 2 1 = dev % 256 ∧ 8 ≤ l.length then
    relayAnswer dev (Bus.num l 3 1) (Bus.num l 6 1) (Bus.num l 7 1) (l.drop 8) s
  else s

/-- The fields of a BLL frame that arrived whole as octets (Table 03-2, R91): its type and the rest. -/
def parse (l : List Byte) : Nat × Frame :=
  let n (a w : Nat) : Nat := Bus.num l a w
  let v := n 0 1
  if v / 16 = 1 then
    (n 1 1, { version := v, dest := 0, source := 0, session := n 2 1, flags := n 3 1, fc := n 4 4, len := n 8 2,
              payload := (l.drop 10).take (l.length - 18), tag := n (l.length - 8) 8, cut := decide (l.length < 18) })
  else
    (n 1 1, { version := v, dest := n 2 2, source := n 4 2, session := n 6 1, flags := n 7 1, fc := n 8 4, len := n 12 2,
              payload := (l.drop 14).take (l.length - 22), tag := n (l.length - 8) 8, cut := decide (l.length < 22) })

/-- A message completed on a CAN channel: a BLL frame, or a relay answer (R78, R417). -/
def fromCan (c : Nat) (l : List Byte) (s : State) : State :=
  if c < 64 then let p := parse l; receive { via := .can, addr := c, port := 10, tc := 3 } p.1 p.2 s
  else relayFrame (65536 + (c - 64)) l s

end Bll

end Sys2Proof.Machine
end

