-- ==== Sys2Proof/Machine/Mailbox.lean ====
section
/-! DEFINITION. The Ledger mailbox of a context: its operations and their response (R64 to R67, R331, R332, Table 12-7), and
to whom the answer of a posting that waited goes. -/

namespace Sys2Proof.Machine

namespace Mail

/-! ### Request blocks -/

/-- The octets of a request block, to the end of data memory. -/
def block (s : State) (c addr : Nat) : List Byte := Seq.dataBytes s (c / 4) addr (16384 - addr)

/-- The items of a posting at the head of a block, none where they run past it. -/
def items : Nat → List Byte → Option (List Write)
  | 0, _ => some []
  | n + 1, l =>
    let len := Bus.num l 4 1
    if l.length < 5 + len then none
    else (items n (l.drop (5 + len))).map fun r =>
      { index := Bus.num l 0 2, sub := Bus.num l 2 1, code := Bus.num l 3 1, value := (l.drop 5).take len } :: r

/-- The writes of a block laid out as the payload of WRITE. -/
def writes (l : List Byte) : Option (List Write) :=
  let n := Bus.num l 0 1
  if 1 ≤ n ∧ n ≤ 32 then items n (l.drop 1) else none

/-- The entries of a block laid out as the payload of READ. -/
def reads (l : List Byte) : Option (List (Nat × Nat)) := Reads.parse (l.take (1 + 3 * Bus.num l 0 1))

/-! ### Publish and withdraw (R64, R65, R332, Table 12-7) -/

/-- A declaration of the request block, as it stands there. -/
structure Decl where
  sub : Nat
  code : Nat
  size : Nat
  access : Nat
  role : Nat
  dflt : Nat
  lo : Nat
  hi : Nat
  deriving DecidableEq, Repr

/-- The type that a code and a size spell, none where they do not match (Table 02-2). -/
def typeOf (code size : Nat) : Option LType :=
  if code = 0x0D ∧ 1 ≤ size ∧ size ≤ 240 then some (.oct size)
  else ([.bool, .u8, .u16, .u32, .u64, .i16, .i32, .q16, .e8, .b16, .b32, .t64, .b8].find? fun t => t.code = code).filter
    fun t => t.size = size

/-- The type codes with a minimum and a maximum. -/
def bounded (code : Nat) : Bool := [0x02, 0x03, 0x04, 0x05, 0x06, 0x07, 0x08, 0x0C].contains code

/-- The declarations at the head of a block. -/
def decls : Nat → List Byte → Option (List Decl)
  | 0, _ => some []
  | n + 1, l =>
    let code := Bus.num l 1 1
    let size := Bus.num l 2 1
    let len := if bounded code then 5 + 3 * size else 5 + size
    if l.length < len then none
    else (decls n (l.drop len)).map fun r =>
      { sub := Bus.num l 0 1, code := code, size := size, access := Bus.num l 3 1, role := Bus.num l 4 1,
        dflt := Bus.num l 5 size, lo := if bounded code then Bus.num l (5 + size) size else 0,
        hi := if bounded code then Bus.num l (5 + 2 * size) size else 0 } :: r

/-- An access code of Table 12-7. -/
def accessOf : Nat → Option Access
  | 0 => some .ro | 1 => some .rw | 2 => some .wo | 3 => some .rwc | 4 => some .cmd | _ => none

/-- A role of Table 12-7. -/
def roleOf : Nat → Option Role
  | 1 => some .observe | 2 => some .operate | 3 => some .integrate | _ => none

/-- The row a declaration makes, none where R332 refuses it with RANGE. -/
def rowOf (d : Decl) : Option Row :=
  match typeOf d.code d.size, accessOf d.access, roleOf d.role with
  | some t, some a, some r =>
    let chk : Check :=
      if t.numeric then (match t with
        | .i16 | .i32 | .q16 => .srange (t.toInt d.lo) (t.toInt d.hi) 1
        | _ => .range d.lo d.hi 1)
      else .any
    if 1 ≤ d.sub ∧ chk.status t d.dflt = .ok then
      some { lo := d.sub, cnt := 1, name := "", ty := t, acc := a, role := r, dflt := d.dflt, chk := chk }
    else none
  | _, _, _ => none

/-- The declarations checked in order: the entries they publish, or the first refused position.
DESIGN CHOICE: notes/assumptions/33.md. -/
def declare_ (s : State) (c i : Nat) : Nat → List Nat → List Decl → Except Answer (List Published)
  | _, _, [] => .ok []
  | k, seen, d :: r =>
    match rowOf d with
    | none => .error ⟨.range, k⟩
    | some row =>
      if seen.contains d.sub ∨ (Seq.publishedAt s (i * 256 + d.sub)).isSome then .error ⟨.duplicate, k⟩
      else match declare_ s c i (k + 1) (d.sub :: seen) r with
        | .ok l => .ok ({ loc := i * 256 + d.sub, owner := c, row := row, lo := d.lo, hi := d.hi } :: l)
        | .error a => .error a

/-- Operation 3: a group is published or added to. -/
def publish (c : Nat) (l : List Byte) (s : State) : Answer × State :=
  let i := Bus.num l 0 2
  let n := Bus.num l 2 1
  let no (st : Status) : Answer × State := (⟨st, 0xFF⟩, s)
  if i < 0xC000 ∨ n = 0 ∨ 32 < n then no .range
  else if (Seq.groupOwner s i).any (· ≠ c) then no .owner
  else match decls n (l.drop 3) with
    | none => no .range
    | some ds => match declare_ s c i 0 [] ds with
      | .error a => (a, s)
      | .ok ps =>
        if 2048 < s.published.length + ps.length ∨ 32768 < Seq.publishedSize s + (ps.map fun p => p.row.ty.size).sum then no .range
        else (⟨.ok, 0xFF⟩, ps.foldl (fun s p => s.wr (p.loc / 256) (p.loc % 256) p.row.dflt) { s with published := s.published ++ ps })

/-- Operation 5: a published group ends (R67). -/
def withdraw (c : Nat) (l : List Byte) (s : State) : Answer × State :=
  let i := Bus.num l 0 2
  match Seq.groupOwner s i with
  | none => (⟨.noEntry, 0xFF⟩, s)
  | some o => if o = c then (⟨.ok, 0xFF⟩, Seq.withdrawPublished (fun p => decide (p.loc / 256 = i)) s) else (⟨.owner, 0xFF⟩, s)

/-! ### Writes of own entries (R66) -/

/-- The check of one write of operation 4. DESIGN CHOICE: notes/assumptions/34.md. -/
def ownCheck (s : State) (c : Nat) (seen : List (Nat × Nat)) (x : Write) : Status :=
  match Seq.publishedAt s (x.index * 256 + x.sub) with
  | some p =>
    if p.owner ≠ c then .owner
    else if seen.contains (x.index, x.sub) then .duplicate
    else if x.code ≠ p.row.ty.code ∨ x.value.length ≠ p.row.ty.size then .type
    else p.row.chk.status p.row.ty (Rights.valueOf x)
  | none => if (Fns.row s x.index x.sub).isSome then .owner else .noEntry

/-- The first refused write. -/
def ownFirst (s : State) (c : Nat) : Nat → List (Nat × Nat) → List Write → Option Answer
  | _, _, [] => none
  | k, seen, x :: r =>
    if ownCheck s c seen x = .ok then ownFirst s c (k + 1) ((x.index, x.sub) :: seen) r else some ⟨ownCheck s c seen x, k⟩

/-- Operation 4: all of the context's writes of its own entries commit together, or none. -/
def writeOwn (c : Nat) (ws : List Write) (s : State) : Answer × State :=
  match ownFirst s c 0 [] ws with
  | some a => (a, s)
  | none => (⟨.ok, 0xFF⟩, ws.foldl (fun s x => s.wr x.index x.sub (Rights.valueOf x)) s)

/-! ### The answer -/

/-- A request completes: the response block, LSTATUS and LEDGER. -/
def done (c : Nat) (a : Answer) (rest : List Byte) (s : State) : State :=
  let s := Seq.dataStore (c / 4) (s.ctx c).lrspAddr (octets 1 a.status.code ++ octets 1 a.position ++ rest) s
  Seq.raiseEvent c 0 ({ s with answer := a }.modCtx c fun x => { x with
    mailbox := none, lStatus := a.status.code, lPosition := a.position, lDone := true })

/-- The answer of a posting that waited for a loan: discarded where the context has stopped meanwhile (R331). -/
def deliver (c : Nat) (a : Answer) (s : State) : State :=
  match (s.ctx c).mailbox with
  | some m => if !m.storing then s else if m.discard then s.modCtx c fun x => { x with mailbox := none } else done c a [] s
  | none => s

/-- MAILBOX_DONE: the request is evaluated and answered, or waits for a loan; while Ledger service is absent it is answered
BUSY. DESIGN CHOICE: notes/assumptions/35.md. -/
def complete (c : Nat) (s : State) : State :=
  match (s.ctx c).mailbox with
  | none => s
  | some m =>
    let l := block s c m.addr
    let w : Writer := .context (Fin.ofNat 128 c)
    let role := Rights.role s w
    let range : State := done c ⟨.range, 0xFF⟩ [] s
    if m.storing then s
    else if s.blank then done c ⟨.busy, 0xFF⟩ [] s
    else match m.op with
      | 1 => (reads l).elim range fun r => let y := Reads.run s role false 16384 r; done c y.1 y.2 s
      | 2 => (writes l).elim range fun ws =>
        if Posting.waits s w then done c ⟨.busy, 0xFF⟩ [] s
        else
          let y := Posting.run (.mailbox c) w ws s
          match y.1 with
          | some a => if (y.2.ctx c).mailbox.isSome then done c a [] y.2 else y.2
          | none => y.2.modCtx c fun x => { x with mailbox := x.mailbox.map fun m => { m with storing := true } }
      | 3 => let y := publish c l s; done c y.1 [] y.2
      | 4 => (writes l).elim range fun ws => let y := writeOwn c ws s; done c y.1 [] y.2
      | _ => let y := withdraw c l s; done c y.1 [] y.2

end Mail

/-- The answer of a posting that waited for a loan reaches its writer. -/
def Reply.deliver (r : Reply) (a : Answer) (s : State) : State :=
  match r with
  | .session k fc => Bll.deliver k fc a { s with answer := a }
  | .mailbox c => Mail.deliver c a { s with answer := a }
  | .direct => { s with answer := a }

end Sys2Proof.Machine
end

