-- ==== Sys2Proof/Machine/Supervisor.lean ====
section
/-! DEFINITION. The supervisor pairs and the heartbeat: stops, takeover, self-tests, the banks' heartbeat monitors, limp inputs,
the end of a Ledger blank (R26, R28, R128, R480 to R489, R505, R510). -/

namespace Sys2Proof.Machine

namespace Sup

/-- The supervisor's record changed. -/
def mod (f : Supervisor → Supervisor) (s : State) : State := { s with supervisor := f s.supervisor }

/-- The banks. -/
def banks : List Nat := List.range 16

/-! ### The heartbeat (R128, R480) -/

/-- A bank hears the heartbeat: a bank in escrow for its loss is reconciled and leaves it. -/
def beatBank (b : Nat) (s : State) : State :=
  if (s.bank b).unpowered then s
  else
    let s := s.modBank b fun r => { r with beatAt := s.ticks, lost := false }
    Escrow.endBank .heartbeat b s

/-- Every bank hears the heartbeat. -/
def beatAll (s : State) : State :=
  banks.foldl (fun s b => beatBank b s) (mod (fun x => { x with lastBeat := s.ticks }) s)

/-- HEARTBEAT: the running pair sends it. -/
def heartbeat (s : State) : State := if s.supervisor.runs ∧ 2 ≤ s.power then beatAll s else s

/-- HEARTBEAT_LOST: no heartbeat within the bound of R128, and the bank enters escrow. -/
def heartbeatLost (b : Nat) (s : State) : State :=
  let r := s.bank b
  if 2 ≤ s.power ∧ !r.unpowered ∧ !r.lost ∧ r.beatAt + 1350 ≤ s.ticks then
    let s := (s.inc (0x4900 + b) 8).modBank b fun r => { r with lost := true }
    Escrow.enterBank .heartbeat b (Audit.raise (0x1000 + b * 16 + 1) s)
  else s

/-! ### Pairs (R482, R510) -/

/-- A pair stands stopped. -/
def stopped (s : State) (p : Nat) : Bool :=
  (s.supervisor.testing.any fun x => x.1 = p) || s.supervisor.failed.contains p

/-- A stopped pair is reset and its self-test begins; LastStopCause says why it stopped. -/
def test (p cause : Nat) (s : State) : State :=
  mod (fun x => { x with testing := x.testing.filter (fun y => y.1 ≠ p) ++ [(p, s.ticks)] }) (s.wr 0x7602 5 cause)

/-- The standby pair leaves hot standby. -/
def unready (s : State) : State :=
  mod (fun x => { x with standbyReady := false, absentSince := some (x.absentSince.getD s.ticks) }) s

/-- The running pair stops: Ledger service ends, and a pair in hot standby begins its takeover. -/
def stopRunning (cause : Nat) (s : State) : State :=
  let p := s.supervisor.running
  let s := test p cause (Audit.raise 0x1900 { s with blank := true })
  let s := mod (fun x => { x with runs := false, takingOver := false }) s
  if s.supervisor.standbyReady then unready (mod (fun x => { x with running := 1 - p, takingOver := true }) s) else s

/-- A pair stops: the running one, the standby one, or the running one in stages 2 and 3 of an activation. -/
def stop (p cause : Nat) (s : State) : State :=
  let v := s.supervisor
  if s.power < 2 ∨ stopped s p then s
  else if p = v.running then
    if v.runs ∨ v.takingOver then stopRunning cause s
    else if s.update.activation.any fun a => decide (a.stage = 2 ∨ a.stage = 3) then
      Upd.startFailed (1, 0) (mod (fun x => { x with running := 1 - p, testing := x.testing.filter (fun y => y.1 ≠ 1 - p) })
        (test p cause (Audit.raise 0x1900 s)))
    else s
  else unready (test p cause (Audit.raise 0x1901 s))

/-- WATCHDOG_EXPIRY: a pair stops by its watchdog. -/
def watchdog (p : Nat) (s : State) : State :=
  if s.power < 2 ∨ stopped s p then s else stop p 3 (Audit.raise 0x1904 s)

/-- TAKEOVER: a standby pair resumes the heartbeat and reconciles every bank; each census restarts as a recovery. -/
def takeover (s : State) : State :=
  let v := s.supervisor
  if s.power < 2 ∨ v.runs ∨ !(s.update.activation.all fun a => decide (a.stage = 5)) ∨ !(v.takingOver || v.standbyReady) then s
  else
    let s := if v.takingOver then s else unready (mod (fun x => { x with running := 1 - x.running }) s)
    let gap := s.ticks - v.lastBeat
    let s := mod (fun x => { x with runs := true, takingOver := false }) s
    let s := ((s.inc 0x7602 2).wr 0x7602 3 s.now).wr 0x7602 4 (min u32max gap)
    let s := beatAll (Audit.raise 0x1902 s)
    (List.range 32).foldl (fun s e => Perf.censusEnter 3 e s) s

/-- STANDBY_SELF_TEST_DONE: a stopped pair becomes the standby pair, or stays stopped. DESIGN CHOICE: notes/assumptions/135.md. -/
def tested (p : Nat) (passed : Bool) (s : State) : State :=
  if s.supervisor.testing.any fun x => x.1 = p then
    let s := mod (fun x => { x with testing := x.testing.filter fun y => y.1 ≠ p }) s
    if passed then mod (fun x => { x with running := 1 - p, standbyReady := true, absentSince := none }) s
    else Audit.raise 0x1901 (mod (fun x => { x with failed := p :: x.failed }) s)
  else s

/-- STANDBY_ABSENT: StandbyReady has read 0 for 2 s. -/
def absent (s : State) : State :=
  match s.supervisor.absentSince with
  | some t => if s.elapsed t 2000000 then Audit.raise 0x1903 (mod (fun x => { x with absentSince := none }) s) else s
  | none => s

/-! ### Limp inputs (R483 to R486) -/

/-- LHEN_CHANGE: the filtered level. -/
def lhen (level : Bool) (s : State) : State := Escrow.force (s.wr 0x7600 5 (b01 level))

/-- LH_INPUT_CHANGE: the limp cells of an input take the command of its level. -/
def lhInput (i : Nat) (level : Bool) (s : State) : State :=
  if s.rdBit 0x7600 4 i = level then s
  else
    let s := s.wrBit 0x7600 4 i level
    (Escrow.limpEntries s).foldl (fun s e =>
      if e.2.1 = i ∧ Chan.owner s e.1 = 0xF100 then Escrow.limpApply e.1 (Escrow.limpCommand s e) s else s) s

/-- LIMP_LOAN_RETRY: a limp cell whose loan was declined asks again while its input calls for conduction. -/
def limpRetry (n : Nat) (s : State) : State :=
  match (s.cell n).limpRetry, Escrow.limpEntry s n with
  | some t, some e => if t ≤ s.ticks ∧ Chan.owner s n = 0xF100 then Escrow.limpApply n (Escrow.limpCommand s e) s else s
  | _, _ => s

/-! ### The end of a blank (R26, R480, R505, R506) -/

/-- The blank ends: after an activation the listed engines' contexts start, and a listed keystore schema has closed every
session. -/
def resume (s : State) : State :=
  if s.blank ∧ s.supervisor.runs ∧ s.update.activation.all (fun a => decide (a.stage = 5)) then
    let s := { s with blank := false }
    if s.update.activation.isSome then
      Upd.ended (if Upd.closesSessions s then s.sessions.foldl (fun s p => if Bll.isOpen s p.1 then Bll.close p.1 s else s) s else s)
    else s
  else s

end Sup

end Sys2Proof.Machine
end

