-- ==== Sys2Proof/Machine/Power.lean ====
section
/-! DEFINITION. Supplies, clocks, reset, the start sequence and the power states (chapter 19, R521 to R538; R42, R52, R53,
R431, R435, R532). -/

namespace Sys2Proof.Machine

namespace Power

/-- The supplies' record changed. -/
def mod (f : Supply → Supply) (s : State) : State := { s with supply := f s.supply }

/-- The logic supply in mV: the higher of VLOGA and VLOGB (R521). -/
def logic (s : State) : Nat := max s.supply.vloga s.supply.vlogb

/-- An occurrence while the Audit runs. -/
def tell (c : Bool) (id : Nat) (s : State) : State := Audit.raiseIf (c && decide (2 ≤ s.power)) id s

/-- A threshold with hysteresis (Table 19-3): low from below `falling` until `rising`. -/
def low (was : Bool) (mv falling rising : Nat) : Bool := if was then decide (mv < rising) else decide (mv < falling)

/-! ### What outlives a start (R42, R53, R85, R500, R532) -/

/-- The entries that no start returns to its default beside those of the parameter store: the strongroom's, those that the
Ledger names persistent without a write, and the limp levels that AON filters. -/
def kept : List (Nat × Nat) :=
  [(0x1000, 8), (0x6800, 9), (0x7000, 0x0B), (0x7000, 0x0D), (0x7000, 0x0E), (0x7000, 0x0F), (0x7000, 0x13), (0x7600, 4), (0x7600, 5),
   (0x7C00, 1), (0x7C00, 5), (0x7C00, 0x0F), (0x7C00, 0x10), (0x7C00, 0x11), (0x7C00, 0x12)]
    ++ (List.range 32).map (fun j => (0x1181, 1 + j))
    ++ (List.range 16).flatMap fun t => [(0x7010 + t, 1), (0x7010 + t, 2), (0x7010 + t, 3)]

/-- A location of the parameter store that holds a CellOwner. -/
def ownerLoc (loc : Nat) : Bool := decide (0x400000 ≤ loc ∧ loc < 0x420000 ∧ loc % 256 = 1)

/-- The Ledger's values as a start finds them; `alarm` where AON has held WakeAlarm. DEDUCED: notes/assumptions/29.md. -/
def ledger (s : State) (alarm : Bool) : NatMap Nat :=
  (if alarm then (0x6804, 0x19) :: kept else kept).foldl
    (fun m p => Map.put (Ledger.dflt p.1 p.2) m (p.1 * 256 + p.2) (s.rd p.1 p.2)) (s.stored.filter fun p => !ownerLoc p.1)

/-- The module with every volatile value at its default and every output FLOAT, not running.
DESIGN CHOICE: notes/assumptions/14.md. -/
def halted (alarm : Bool) (s : State) : State :=
  let t : State :=
    { ca := s.ca, now := s.now, ticks := s.ticks, ledger := ledger s alarm, stored := s.stored, storedFns := s.storedFns,
      storedImages := s.storedImages, answer := s.answer, out := s.out, rng := s.rng, free := s.free, power := 0,
      access := { keys := s.access.keys, failures := s.access.failures, lockedTill := s.access.lockedTill },
      caps := if alarm then s.caps else [],
      tally := { latched := s.tally.latched, sleeping := s.tally.sleeping, wakeOut := s.tally.wakeOut },
      supervisor := { running := s.supervisor.running, runs := false, standbyReady := false, lastBeat := s.supervisor.lastBeat },
      update := s.update, supply := { s.supply with onBackup := false, sensorBad := false, mismatchAt := none, mismatchTold := false },
      pending := s.pending }
  (List.range 16).foldl (fun t b => t.modBank b fun r => { r with supplyMv := (s.bank b).supplyMv, bandAt := s.ticks, highAt := (s.bank b).highAt }) t

/-- No wake is latched. -/
def dropWake (s : State) : State := s.modTally fun t => { t with latched := none }

/-! ### Supplies (R521, R522, Table 19-3) -/

/-- The voltages and what follows from them; each source raises as its condition begins (Table 19-12). -/
def levels (ka a b : Nat) (s : State) : State :=
  let x := s.supply
  let l := max a b
  let s := mod (fun x => { x with
    ka := ka, vloga := a, vlogb := b, kaLow := low x.kaLow ka 4000 5000, aLow := low x.aLow a 5500 6000,
    bLow := low x.bLow b 5500 6000, logicLow := low x.logicLow l 7500 8000 }) s
  let y := s.supply
  let up := decide (4500 ≤ l)
  tell (y.logicLow && !x.logicLow) 0x1B02 (tell (up && y.bLow && !x.bLow) 0x1B01 (tell (up && y.aLow && !x.aLow) 0x1B00
    (tell (up && y.kaLow && !x.kaLow) 0x1B04 s)))

/-- KA and the logic supply are both absent: AON stops, and what it held is lost. -/
def aonLost (s : State) : State :=
  if s.supply.kaLow ∧ logic s < 4500 ∧ s.power < 2 then mod (fun x => { x with brownout := false }) ((dropWake (halted false s)).modTally fun t => { t with wakeOut := none })
  else s

/-- SUPPLY_THRESHOLD. -/
def threshold (pin : SupplyPin) (mv : Nat) (s : State) : State :=
  let x := s.supply
  aonLost (match pin with
    | .ka => levels mv x.vloga x.vlogb s
    | .vloga => levels x.ka mv x.vlogb s
    | .vlogb => levels x.ka x.vloga mv s)

/-- LOGIC_SUPPLY_LOST: outside Sleep everything stops and every cell floats; AON latches the loss while KA is present. -/
def logicLost (s : State) : State :=
  if 4500 ≤ logic s then s
  else if s.power < 2 then aonLost s
  else mod (fun x => { x with brownout := !x.kaLow }) (dropWake (halted false s))

/-- RESET_N_ASSERT: every cell floats, an entry in progress and a latched wake end; module time goes on. -/
def reset (s : State) : State :=
  mod (fun x => { x with reset := true }) (dropWake (halted (decide (s.power = 1)) s))

/-! ### The start sequence (R52, R53, R125, R435, R529) -/

/-- The supervisors, the engines' census and cycle counters, and the banks of a start. -/
def boot (cause : Nat) (s : State) : State :=
  let s := { s with
    power := 3,
    supervisor := { running := 0, runs := true, standbyReady := false, testing := [(1, s.ticks)], absentSince := some s.ticks,
                    lastBeat := s.ticks } }
  let s := Time.sourceWrite ((s.wr 0x1300 4 cause).wr 0x1300 3 s.now)
  let s := (List.range 32).foldl (fun s e => s.modEng e fun r => { r with
    cycleBase := s.ticks,
    census := { startTick := s.ticks, startTime := s.now, until_ := s.ticks + Perf.duration s e } }) s
  let s := (List.range 32).foldl (fun s e => Perf.tagStart e s) { s with pmem := s.storedImages }
  (List.range 16).foldl (fun s b =>
    let s := s.modBank b fun r => { r with beatAt := s.ticks, reached := decide (6500 ≤ r.supplyMv) }
    Protect.powerLoss b (Protect.supplyOff b s)) s

/-- The functions with a stored configuration in the order of the start: banks first (Table 19-6). -/
def startOrder (s : State) : List Fn :=
  [1, 2, 3, 4, 5, 6, 7, 8, 9, 10].flatMap fun c =>
    (s.storedFns.filter fun f => decide (f / 256 = c) && (s.ca || decide (c ≠ 10))).map fun f => ⟨c, f % 256⟩

/-- A function enters Active; a bank's cells take OFF at once. -/
def enter (f : Fn) (s : State) : State :=
  let s := Fns.standUp f s
  if f.cls = 1 then Cells.slot f.inst [] s else s

/-- A cell passes to its stored owner where that has entered Active in an Active bank; otherwise its stored value becomes 0
(R53). DESIGN CHOICE: notes/assumptions/30.md. -/
def owner (s : State) (p : Nat × Nat) : State :=
  let n := p.1 / 256 - 0x4000
  if s.active ⟨p.2 / 256, p.2 % 256⟩ ∧ s.active ⟨1, n / 32⟩ then s.wr (0x4000 + n) 1 p.2
  else { s with stored := Map.erase s.stored p.1 }

/-- Every stored owner takes its cells. -/
def owners (s : State) : State := (s.stored.filter fun p => ownerLoc p.1).foldl owner s

/-- What a start raises: a latched loss of the logic supply, supplies that are low, and a real-time clock that has stopped. -/
def told (s : State) : State :=
  let x := s.supply
  let s := mod (fun x => { x with brownout := false }) (tell x.brownout 0x1B03 s)
  tell (!x.rtcOk) 0x1B06 (tell x.logicLow 0x1B02 (tell x.bLow 0x1B01 (tell x.aLow 0x1B00 (tell x.kaLow 0x1B04 s))))

/-- The wake that ended Sleep: its record, the networks that sleep on, and WAKE (R433, R435). -/
def woken (w : Wakeup) (sleeping : Nat) (s : State) : State :=
  let rest := (List.range 8).foldl (fun a n => if bitOf sleeping n && !bitOf w.nets n then setBit a n true else a) 0
  Sleep.sendWake w.nets (Sleep.networks rest false (Sleep.latchRecord w s))

/-- POWER_UP_START: supplies rising, the release of RESET_N, or a wake latched in Sleep (R528, R529, R532).
DESIGN CHOICE: notes/assumptions/31.md. DESIGN CHOICE: notes/assumptions/143.md. -/
def start (ka a b : Nat) (s : State) : State :=
  if max a b < 6000 ∨ 2 ≤ s.power ∨ (s.power = 1 ∧ s.tally.latched.isNone) then s
  else
    let slept := decide (s.power = 1)
    let cause := if s.supply.reset then 1 else if slept then 4 else 0
    let w := s.tally.latched
    let sleeping := s.tally.sleeping
    let touches := if slept then s.access.touches else []
    let s := levels ka a b (mod (fun x => { x with reset := false }) (halted slept s))
    let s := boot cause { s with tally := { wakeOut := s.tally.wakeOut } }
    let s := owners ((startOrder s).foldl (fun s f => enter f s) s)
    let s := (told (Upd.powerUp s)).modAccess fun a => { a with touches := touches }
    match w with
    | some w => if slept then woken w sleeping s else s
    | none => s

/-! ### Power entries (R431, R532 to R534) -/

/-- POWER_ENTRY_COMPLETE: Standby or Sleep is reached, and a latched wake is served: in Sleep it acts on AON and waits for the
start, with the touches that AON has latched (R435, R442). A PowerStateRequest is answered by the sleep it asked for (R72). -/
def entered (s : State) : State :=
  match s.tally.entering with
  | none => s
  | some d =>
    let s := s.modTally fun t => { t with entering := none }
    let s := if 1 ≤ d ∧ s.tally.depth ≤ d then Sleep.answer .ok s else s
    if d = 2 then
      let t := Inputs.latchWake { (halted true s) with cells := s.cells }
      let touches := if s.tally.latched.isSome then s.access.touches else []
      let t := { t with cells := [], power := 1, access := { t.access with touches := touches } }
      if t.tally.latched.isSome then Sleep.aonWake t else t
    else
      let s := if d = 1 then { (s.inc 0x6805 5) with power := 2 } else s
      match s.tally.latched with
      | some w => Sleep.serve w true (dropWake s)
      | none => s

/-! ### Clocks (R526, R527) -/

/-- REF_CLOCK_LOSS. -/
def refLost (s : State) : State :=
  if s.supply.onBackup ∨ s.power < 2 then s
  else Audit.raise 0x1B05 ((mod (fun x => { x with onBackup := true }) s).wr 0x1200 3 3)

/-- REF_CLOCK_RETURN. -/
def refBack (s : State) : State :=
  if s.supply.onBackup then Time.sourceWrite (mod (fun x => { x with onBackup := false }) s) else s

/-- RTC_CLOCK_LOSS. DESIGN CHOICE: notes/assumptions/144.md. -/
def rtcLost (s : State) : State :=
  if s.supply.rtcOk then tell true 0x1B06 (mod (fun x => { x with rtcOk := false }) s) else s

/-! ### Boardnet and base plate (R197, R519, R536, R538) -/

/-- The mismatch condition of the boardnet mode (Table 19-9). -/
def mismatch (s : State) : Bool :=
  let l := ((List.range 16).map fun b => (s.bank b).supplyMv).filter (4500 ≤ ·)
  if s.volt24 then !l.isEmpty && l.all fun v => decide (8000 ≤ v ∧ v ≤ 16000) else l.any fun v => decide (18000 < v)

/-- The watch keeps the tick since which the condition holds. -/
def watch (s : State) : State :=
  let c := decide (2 ≤ s.power) && mismatch s
  mod (fun x => { x with
    mismatchAt := if c then some (x.mismatchAt.getD s.ticks) else none, mismatchTold := x.mismatchTold && c }) s

/-- BOARDNET_MISMATCH: the condition has held for its time. -/
def boardnet (s : State) : State :=
  if s.supply.mismatchAt.any (s.elapsed · (if s.volt24 then 5000000 else 500000)) && !s.supply.mismatchTold then
    Audit.raise 0x1B08 (mod (fun x => { x with mismatchTold := true }) s)
  else s

/-- The sensors disagree by more than 10 K, or one leaves its range (Table 19-12). -/
def plateBad (t0 t1 : Int) : Bool :=
  decide (100 < (t0 - t1).natAbs ∨ t0 < -400 ∨ 1500 < t0 ∨ t1 < -400 ∨ 1500 < t1)

/-- The sensors' readings in 0.1 °C: BasePlateTemperature holds the higher one, above 85 °C the Teller derates (R197, R519);
readings in order end the sensors' condition.
DEDUCED: notes/assumptions/67.md. -/
def plate (t0 t1 : Int) (s : State) : State :=
  let t := max t0 t1
  let hot := decide (850 < t)
  let s := ((s.wr 0x1301 6 (rawOf 16 t0)).wr 0x1301 7 (rawOf 16 t1)).wr 0x4A00 9 (rawOf 16 t)
  let s := Audit.raiseIf (hot && !s.teller.derating) 0x1108 s
  (mod (fun x => { x with sensorBad := x.sensorBad && plateBad t0 t1 }) s).modTeller fun x => { x with derating := hot }

/-- BASEPLATE_DERATE. -/
def derate (t0 t1 : Int) (s : State) : State := if s.power < 2 then s else plate t0 t1 s

/-- BASEPLATE_SENSOR: the sensors disagree or leave their range. -/
def sensor (t0 t1 : Int) (s : State) : State :=
  if s.power < 2 then s
  else
    let s := Audit.raiseIf (plateBad t0 t1 && !s.supply.sensorBad) 0x1B07 (plate t0 t1 s)
    mod (fun x => { x with sensorBad := plateBad t0 t1 }) s

end Power

end Sys2Proof.Machine
end

