-- ==== Sys2Proof/Machine/Clients.lean ====
section
/-! DEFINITION. What the Teller's answers do in the engines that asked (R189, R202, R204), what every command ends with,
and the form in which a command of the table writes a single entry. -/

namespace Sys2Proof.Machine

namespace Clients

/-! ### Grants (R202) -/

/-- A granted turn-on of a cell: kind 0, 1 or 5. The waiting commands of the requester go to their bank; a lamp's inrush
window opens (R183). Where protection keeps every one of the outputs off, the loan is returned.
DESIGN CHOICE: notes/assumptions/55.md. -/
def turnOnGranted (r kind : Nat) (s : State) : State :=
  let hs := (s.loanHeads r).filter fun h => (s.cell h).loanPending
  let s := (hs.flatMap s.unitAll).foldl (fun s m => s.modCell m fun c => { c with loanPending := false }) s
  let go := hs.filter fun h =>
    let c := s.cell h
    Chan.conducts c.want && !(decide (2 ≤ c.prot ∧ c.prot ≤ 5)) && !Cells.waitsHeat s h
  if go.isEmpty then Teller.giveBack r s
  else go.foldl (fun s h =>
    let s := if kind = 0 then
        s.modCells (s.crew h) fun c => { c with winFrom := s.ticks, winTo := s.ticks + Chan.window s h, peak := 0 }
      else s
    Cells.push h (s.cell h).want (s.cell h).wantDuty true s) s

/-- The burst of the parameter store begins (R192, R213). -/
def storeGranted (s : State) : State :=
  { s with jobs := s.jobs.map fun j => if j.phase = .requested then { j with phase := .storing } else j }

/-- A granted loan reaches its requester (Table 07-4). -/
def granted (l : Loan) (s : State) : State :=
  match l.kind with
  | 2 => Coil.granted l.requester s
  | 3 => Protect.retryGranted l.requester s
  | 4 => Gangs.granted l.requester s
  | 6 => storeGranted s
  | 7 => Upd.granted s
  | 8 => Access.granted s
  | k => turnOnGranted l.requester k s

/-! ### Declines (R204, R205) -/

/-- R111: a declined turn-on leaves the output off, with LoanDeclined set until the next conducting command; limp asks
again after 100 ms (R485), a loop engine's start ends (R253). DEDUCED: notes/assumptions/52.md. -/
def turnOnDeclined (r kind : Nat) (s : State) : State :=
  let hs := (s.loanHeads r).filter fun h => (s.cell h).loanPending
  let s := hs.foldl (fun s h => Cells.declineTurnOn h s) s
  if kind = 1 ∧ Chan.owner s r / 256 = 3 then Loops.startDeclined (Chan.owner s r % 256) s else s

/-- A phase of the store's job changes. -/
def jobPhase (old new : JobPhase) (s : State) : State :=
  { s with jobs := s.jobs.map fun j => if j.phase = old then { j with phase := new } else j }

/-- R51: a posting whose store loan was declined is refused. -/
def storeRefused (j : Job) (s : State) : State :=
  match j.kind with
  | .functions reply _ writes fns =>
    let y := Posting.storeDeclined writes fns s
    reply.deliver y.1 y.2
  | .entries _ => s

/-- R51: the declined store loan of a posting refuses it, after the blank where Ledger service is absent (R26). R213: that of
single entries is requested again after 100 ms. -/
def storeDeclined (s : State) : State :=
  match s.jobs.find? fun j => decide (j.phase = .requested) with
  | none => s
  | some j =>
    match j.kind with
    | .entries _ => Store.kick (Store.later s)
    | .functions .. =>
      if s.blank then jobPhase .requested .declined s
      else Store.kick (storeRefused j { s with jobs := s.jobs.filter fun j => decide (j.phase ≠ .requested) })

/-- R498: the posting whose staging loan was declined is refused at its StageData write. -/
def stageRefused (j : StageJob) (s : State) : State :=
  j.reply.deliver ⟨.declined, Posting.stagePosition j.writes⟩ (Upd.jobEnded (s.modUpdate fun u => { u with job := none }))

/-- R498: the declined staging loan refuses the posting, after the blank where Ledger service is absent (R26); without a
posting it is a build burst's. -/
def updateDeclined (s : State) : State :=
  match s.update.job with
  | some j =>
    if j.running then s
    else if s.blank then s.modUpdate fun u => { u with job := some { j with held := some false } }
    else stageRefused j s
  | none => Upd.buildDeclined s

/-- A declined request reaches its requester. -/
def declined (l : Loan) (s : State) : State :=
  match l.kind with
  | 2 => Coil.declined l.requester s
  | 3 => Protect.retryDeclined l.requester s
  | 4 => Gangs.declined l.requester s
  | 6 => storeDeclined s
  | 7 => updateDeclined s
  | 8 => Access.declined s
  | k => turnOnDeclined l.requester k s

/-- Every declined request reaches its requester; a new request may be declined at once, and its requester reacts too.
DESIGN CHOICE: notes/assumptions/4.md. -/
def declines : Nat → State → State
  | 0, s => s
  | k + 1, s =>
    if s.teller.declined.isEmpty then s
    else
      let l := s.teller.declined
      declines k (l.foldl (fun s x => declined x s) (s.modTeller fun t => { t with declined := [] }))

/-- TELLER_SCAN: the scan of a module tick and what follows for the requesters it grants (R202). -/
def scan (s : State) : State :=
  let x := Teller.scan s
  x.granted.foldl (fun s l => granted l s) x.state

/-- PATIENCE_EXPIRED: a request whose patience has run out is declined (R204). -/
def patience (r : Nat) (s : State) : State :=
  match Teller.requestOf s.teller r with
  | some l =>
    if s.elapsed l.arrival (l.patience * 1000) then
      Teller.decline l (Audit.raise 0x1100 ((s.modTeller fun t => { t with
        queue := t.queue.filter (·.requester ≠ r) }).inc 0x4A08 2))
    else s
  | none => s

/-- LOAN_DURATION_END: a loan is returned at the tick of its grant plus its duration (R189). -/
def durationEnd (slot : Nat) (s : State) : State :=
  match Map.get none s.teller.loans slot with
  | some l => if s.elapsed l.grantTick l.duration then Teller.giveBack l.requester s else s
  | none => s

/-! ### The ends of bursts -/

/-- What a stored burst was for: entries enter the store, or the posting that waited commits (R42, R43, R51, R213). -/
def storeDone (j : Job) (s : State) : State :=
  match j.kind with
  | .entries locs => locs.foldl (fun s x => Store.save x s) s
  | .functions reply w writes fns => let y := Posting.stored w writes fns s; reply.deliver y.1 y.2

/-- PARAMETER_STORE_COMPLETE: a burst of the parameter store is done, and a posting that waited for it commits, after the blank
where Ledger service is absent (R26). A burst counts once, however many functions it stores.
DESIGN CHOICE: notes/assumptions/163.md. -/
def storeComplete (s : State) : State :=
  match s.jobs.find? fun j => decide (j.phase = .storing) with
  | none => s
  | some j =>
    let s := (Teller.giveBack Store.code s).inc 0x1000 8
    match s.blank, j.kind with
    | true, .functions .. => Store.kick (jobPhase .storing .stored s)
    | _, _ => Store.kick (storeDone j { s with jobs := s.jobs.filter fun j => decide (j.phase ≠ .storing) })

/-- The posting that writes StageData commits after its burst, or goes on to its store loan (R498). -/
def stageDone (j : StageJob) (s : State) : State :=
  let y := Posting.storeOrCommit j.reply j.writer j.writes (s.modUpdate fun u => { u with job := none })
  Upd.jobEnded (y.1.elim y.2 fun a => j.reply.deliver a y.2)

/-- STAGE_BURST_COMPLETE: the staging burst is done, and its posting goes on, after the blank where Ledger service is absent
(R26, R498). -/
def stageComplete (s : State) : State :=
  match s.update.job with
  | some j =>
    if j.running then
      let s := Teller.giveBack 0x1001 s
      if s.blank then s.modUpdate fun u => { u with job := some { j with running := false, held := some true } }
      else stageDone j s
    else s
  | none => s

/-- SERVICE_RESUME: the postings that were held go on with what they waited for, then the sessions with their requests (R26). -/
def resume (s : State) : State :=
  let t := Sup.resume s
  if s.blank ∧ !t.blank then
    let l := t.jobs.filter fun j => decide (j.phase = .stored ∨ j.phase = .declined)
    let t := { t with jobs := t.jobs.filter fun j => decide (j.phase ≠ .stored ∧ j.phase ≠ .declined) }
    let t := l.foldl (fun t j => if j.phase = .stored then storeDone j t else storeRefused j t) t
    let t := match t.update.job with
      | some j => j.held.elim t fun done => if done then stageDone j t else stageRefused j t
      | none => t
    Bll.pumpAll (Store.kick t)
  else t

/-- GATEWAY_RECORD: the gateway takes the oldest frame behind P10; one that is no record for it counts as an error drop
(R405). DESIGN CHOICE: notes/assumptions/107.md. -/
def gatewayRecord (s : State) : State :=
  match s.gateway with
  | [] => s
  | (id, tc, f) :: r =>
    let s := Vault.leave id 10 { s with gateway := r }
    let drop := s.inc 0x600A 0x26
    if !Bus.forGateway s f then drop
    else if Bus.num f.data 0 1 = 1 ∧ Bus.num f.data 1 1 / 16 = 1 then Bus.gatewayCan tc f.data s
    else if Bus.num f.data 0 1 = 1 ∧ Bus.num f.data 1 1 / 16 = 2 ∧ Bus.num f.data 1 1 % 16 < 8 then LinBus.gateway f.data s
    else drop

/-! ### After every command -/

/-- A change of PowerState is timed (Table 02-14). -/
def noteState (before : Nat) (s : State) : State :=
  if Escrow.powerState s = before then s else s.wr 0x1300 3 s.now

/-- What follows from a command's effect at the same tick: declined requests reach their requesters, engines see the new
state of their cells, limp forces its cells, changed values are notified, frames leave their channels, pending access
requests are served, and the mismatch watch sees the supplies. DESIGN CHOICE: notes/assumptions/3.md. -/
def settle (s : State) : State :=
  Power.watch (Access.poll (Bus.suspendedHeads (Iso.pumpAll (Subs.pollAll (Subs.queueEvents
    (Inputs.breakEnds (Protect.watchAbsentAll (Escrow.force (Loops.pollAll (Coil.pollAll (declines 8 s)))))))))))

end Clients

/-- What a command leaves whose effect on `s` is `u`: the state settles, the change of PowerState is timed, and the queue, the
ticks and the order of module time are as they were (R69). DESIGN CHOICE: notes/assumptions/2.md. -/
def State.after (s u : State) : State := s.keep (Clients.noteState (Escrow.powerState s) (Clients.settle u))

/-- A command with the effect `f`. -/
def run (f : State → State) (s : State) : Host.Outcome State Fault Refusal := .next (s.after (f s))

/-- A command of the logic: in Sleep and Off nothing but the AON domain acts (R530). DESIGN CHOICE: notes/assumptions/15.md. -/
def powered (f : State → State) (s : State) : Host.Outcome State Fault Refusal :=
  run (fun s => if 2 ≤ s.power then f s else s) s

/-- A command of a sequencer context, whose effect stays within the sequencers: nothing else settles with it. -/
def issued (f : State → State) (s : State) : Host.Outcome State Fault Refusal :=
  .next (s.keep (if 2 ≤ s.power then f s else s))

/-! ### Single writes named by the table -/

namespace Direct

/-- The writer can write: an active session served in the present power state (R73, R421), or a context of a module in
Standby or Run. -/
def served (s : State) : Writer → Bool
  | .session k => decide ((s.session k).phase = .active) &&
      (decide (s.power = 3) || (decide (s.power = 2) && decide ((s.session k).transport = 4)))
  | .context _ => decide (2 ≤ s.power)

/-- The write of a value by its entry's type; a value too wide for the type is one octet longer than the type.
DESIGN CHOICE: notes/assumptions/19.md. -/
def write (s : State) (i j v : Nat) : Write :=
  match Fns.row s i j with
  | some r =>
    let n := r.ty.size
    { index := i, sub := j, code := r.ty.code, value := if v < 256 ^ n then octets n v else octets (n + 1) v }
  | none => { index := i, sub := j, code := LType.u32.code, value := octets 4 v }

/-- The write of an octet string. -/
def octetWrite (i j : Nat) (l : List Byte) : Write := { index := i, sub := j, code := (LType.oct 0).code, value := l }

/-- R58: a context has a posting in evaluation, in its mailbox or waiting for a loan. -/
def second (s : State) : Writer → Bool
  | .session _ => false
  | .context c => Posting.waits s (.context c) || (s.ctx c).mailbox.any fun m => decide (m.op = 2)

/-- A posting of one write (R59). A context that is not Active writes nothing (R41), and nothing is written while Ledger
service is absent (R26). A context has one posting in evaluation at a time (R58). -/
def post (w : Writer) (x : Write) (s : State) : State :=
  if !served s w then s
  else if s.blank then { s with answer := ⟨.busy, 0xFF⟩ }
  else
    let ok := match w with
      | .session _ => true
      | .context c => s.active ⟨5, c⟩
    if second s w then { s with answer := ⟨.busy, 0xFF⟩ }
    else if ok then
      let y := Posting.run .direct w [x] s
      match y.1 with
      | some a => { y.2 with answer := a }
      | none => y.2
    else { s with answer := ⟨.denied, 0⟩ }

/-- The posting that writes one entry. -/
def entry (w : Writer) (i j v : Nat) (s : State) : State := post w (write s i j v) s

end Direct

end Sys2Proof.Machine
end

