-- ==== Sys2Proof/Machine/Paths.lean ====
section
/-! DEFINITION. The far side of a context's paths: cell commands, ownership requests, the windows of the coil and loop
engines, and the loads that wait for them (R323, R325 to R328, R330, Tables 12-3 and 12-4). -/

namespace Sys2Proof.Machine

namespace Path

/-- The writer that a context is. -/
def writer (c : Nat) : Writer := .context (Fin.ofNat 128 c)

/-- The entry of a word of the engine windows (Table 12-4); a coil slot's second word of results is apart. -/
def entryOf (a : Nat) : Nat × Nat :=
  if a < 0x23000 then
    let k := (a - 0x22000) % 64 / 16
    let o := if a % 16 = 0 then 0x18 else if a % 16 = 4 then 0x19 else 0x20
    (0x4C00 + (a - 0x22000) / 64, Coil.sub k o)
  else
    let e := (a - 0x23000) / 64
    match (a - 0x23000) % 64 / 4 with
    | 0 => (0x4D00 + e, 0x0C)
    | 1 => (0x4D00 + e, 0x0D)
    | 2 => (0x4D00 + e, 0x0E)
    | 3 => (0x4D00 + e, 0x0F)
    | 4 => (0x4D80 + e, 1)
    | 5 => (0x4D80 + e, 2)
    | 6 => (0x4D00 + e, 0x30)
    | 7 => (0x4D00 + e, 0x31)
    | 8 => (0x4D00 + e, 0x32)
    | 9 => (0x4D00 + e, 0x33)
    | 10 => (0x4D00 + e, 0x34)
    | 11 => (0x4D00 + e, 0x36)
    | 12 => (0x4D80 + e, 0x10)
    | _ => (0x4D80 + e, 0x11)

/-- What a load of a path word returns (Tables 12-3, 12-4); offsets that neither lists return nothing. -/
def read (a : Nat) (s : State) : Nat :=
  if a < 0x22000 then
    let n := (a - 0x20000) / 16
    match a % 16 with
    | 0 => s.read (0x4000 + n) 3 + s.read (0x4000 + n) 4 * 65536
    | 4 => s.read (0x4200 + n) 2
    | 8 => s.read (0x4600 + n) 1 % 65536 + s.read (0x4600 + n) 3 % 65536 * 65536
    | _ => s.read (0x4000 + n) 1
  else if a < 0x23000 ∧ a % 16 = 12 then
    let e := 0x4C00 + (a - 0x22000) / 64
    let k := (a - 0x22000) % 64 / 16
    s.read e (Coil.sub k 0x21) + s.read e (Coil.sub k 0x22) * 65536
  else s.read (entryOf a).1 (entryOf a).2

/-- PATH_LOAD_COMPLETE: the value reaches the register of the stalled context (R323). DESIGN CHOICE: notes/assumptions/89.md. -/
def loadComplete (c : Nat) (s : State) : State :=
  Seq.loaded1 c read s

/-- One committed write of entries by a context, or a path refusal (R326, R328). -/
def post (c : Nat) (p : Seq.Path) (n : Nat) (l : List Write) (s : State) : State :=
  let y := Posting.run .direct (writer c) l s
  match y.1 with
  | some a => if a.status = .ok then y.2 else Seq.refuse c p n a.status y.2
  | none => y.2

/-- A COMMAND store (R325, R326). -/
def command (c n v : Nat) (s : State) : State :=
  let code := field v 0 8
  let dv := bitOf v 8
  if field v 9 7 ≠ 0 then Seq.refuse c .command n .reserved s
  else if 5 < code ∧ code ≠ 0xFF then Seq.refuse c .command n .range s
  else if code = 0xFF ∧ !dv then s
  else post c .command n
    ((if code = 0xFF then [] else [Direct.write s (0x4000 + n) 3 code])
      ++ (if dv then [Direct.write s (0x4000 + n) 4 (field v 16 16)] else [])) s

/-- An ownership request is decided; its result is told later (R327). -/
def decided (c n : Nat) (st : Status) (s : State) : State :=
  Perf.event c 25 1 (s.modCtx c fun x => { x with ownReq := some (st.code, n) })

/-- The code of a context as owner (R54). -/
def ownCode (c : Nat) : Nat := 0x0500 + c

/-- An acquire: role, present owner, bank state, then R54 and R55. DESIGN CHOICE: notes/assumptions/93.md. -/
def acquire (c n : Nat) (s : State) : State :=
  if (s.ctx c).ownReq.isSome then Seq.refuse c .ownership n .busy s
  else if Rights.role s (writer c) ≠ 3 then decided c n .denied s
  else if Chan.owner s n ≠ 0 then decided c n .owner s
  else if !s.active ⟨1, n / 32⟩ then decided c n .state s
  else
    let y := Posting.run .direct (writer c) [Direct.write s (0x4000 + n) 1 (ownCode c)] s
    decided c n (y.1.elim .ok (·.status)) y.2

/-- A release gives the cell, with its whole structure and its present command, to the Ledger. -/
def release (c n : Nat) (s : State) : State :=
  if (s.ctx c).ownReq.isSome then Seq.refuse c .ownership n .busy s
  else if Chan.owner s n ≠ ownCode c then decided c n .owner s
  else decided c n .ok ((s.structure_ n).foldl (fun s m => Escrow.setOwner m 0 s) s)

/-- OWNER_REQUEST_DONE: OWNRESULT and the event OWNER; a refused request is also a path refusal (R327, R330). -/
def ownerDone (c : Nat) (s : State) : State :=
  match (s.ctx c).ownReq with
  | none => s
  | some (st, n) =>
    let s := Seq.raiseEvent c 2 (s.modCtx c fun x => { x with ownReq := none, ownResult := st + n * 256 + 2 ^ 17 })
    if st = 0 then s else Seq.refuse c .ownership n (Bll.statusOf st) s

/-- An OWNER store: 1 acquires, 2 releases (Table 12-3). -/
def owner (c n v : Nat) (s : State) : State :=
  if 4 ≤ v then Seq.refuse c .ownership n .reserved s
  else if v = 1 then acquire c n s
  else if v = 2 then release c n s
  else Seq.refuse c .ownership n .range s

/-- A store to an engine window (R328). -/
def window (c a v : Nat) (s : State) : State :=
  let x := entryOf a
  let p : Seq.Path := if a < 0x23000 then .coil else .loop
  let n := if a < 0x23000 then (a - 0x22000) / 64 else (a - 0x23000) / 64
  match Fns.row s x.1 x.2 with
  | some r =>
    if 256 ^ r.ty.size ≤ v then Seq.refuse c p n .reserved s else post c p n [Direct.write s x.1 x.2 v] s
  | none => s

/-- A path store takes effect by its address. -/
def store (c a v : Nat) (s : State) : State :=
  if a < 0x22000 then
    (if a % 16 = 0 then command c ((a - 0x20000) / 16) v s
     else if a % 16 = 12 then owner c ((a - 0x20000) / 16) v s else s)
  else window c a v s

/-- A store leaves the engine's path queue, where it stands at the head; in any case it takes effect (R326).
DESIGN CHOICE: notes/assumptions/88.md. -/
def take (c a v : Nat) (s : State) : State :=
  let e := c / 4
  match (s.eng e).paths with
  | x :: r =>
    if x.ctx = c ∧ x.addr = a ∧ x.value = v then store c a v (s.modEng e fun y => { y with paths := r }) else store c a v s
  | [] => store c a v s

/-- A path store by the word address that a context uses; an address that Table 12-1 forbids a store to is none. -/
def takeAt (c : Nat) (w v : Word) (s : State) : State :=
  match Seq.region w 4 true with
  | .ok (.path a) => if (s.ctx c).st = 1 ∨ (s.eng (c / 4)).paths ≠ [] then take c a v.toNat s else s
  | _ => s

end Path

end Sys2Proof.Machine
end

