-- ==== Sys2Proof/Machine/ExecAccess.lean ====
section
/-! DEFINITION. The commands of the access engine (chapter 16). -/

namespace Sys2Proof.Machine

/-- ACCESS_REQUEST (R442). -/
def execAccessRequest (w : Writer) (zone : Nat) (s : State) : Host.Outcome State Fault Refusal :=
  run (Direct.entry w 0x7000 4 zone) s

/-- LF_BURST_END (R452). -/
def execLfBurstEnd (a : Fin 4) (milliamps : Nat) (s : State) : Host.Outcome State Fault Refusal :=
  powered (Access.burstEnd a milliamps) s

/-- REPLY_PHASE_END (R445). -/
def execReplyPhaseEnd (s : State) : Host.Outcome State Fault Refusal :=
  powered Access.phaseEnd s

/-- ANCHOR_FRAME (R441). -/
def execAnchorFrame (p : Fin 9) (f : AnchorFrame) (s : State) : Host.Outcome State Fault Refusal :=
  powered (Access.frame p f) s

/-- ACCESS_EXCHANGE_TIMEOUT (R446). -/
def execAccessExchangeTimeout (s : State) : Host.Outcome State Fault Refusal :=
  powered Access.exchangeTimeout s

/-- ANCHOR_ABSENT (R441). -/
def execAnchorAbsent (a : Fin 8) (s : State) : Host.Outcome State Fault Refusal :=
  powered (Access.absent a) s

/-- ANCHOR_WAKE_TIMEOUT (R442). -/
def execAnchorWakeTimeout (s : State) : Host.Outcome State Fault Refusal :=
  powered Access.wakeTimeout s

/-- LOCKOUT_END (R451). -/
def execLockoutEnd (s : State) : Host.Outcome State Fault Refusal :=
  run Access.lockoutEnd s

/-- MEMORY_READ (R453). -/
def execMemoryRead (w : Writer) (t : Fin 16) (block : Fin 16) (s : State) : Host.Outcome State Fault Refusal :=
  run (Direct.entry w 0x7030 1 (t + block * 16)) s

/-- MEMORY_WRITE (R453). -/
def execMemoryWrite (w : Writer) (t : Fin 16) (block : Fin 16) (s : State) : Host.Outcome State Fault Refusal :=
  run (Direct.entry w 0x7030 1 (t + block * 16 + 256)) s

/-- MEMORY_REQUEST_TIMEOUT (R453). -/
def execMemoryRequestTimeout (s : State) : Host.Outcome State Fault Refusal :=
  powered Access.memoryTimeout s

/-- ENROL_RECORD (R454). -/
def execEnrolRecord (w : Writer) (record : List Byte) (s : State) : Host.Outcome State Fault Refusal :=
  run (Direct.post w (Direct.octetWrite 0x7000 0x11 record)) s

/-- TOKEN_REVOKE (R455). -/
def execTokenRevoke (w : Writer) (t : Fin 16) (value : Nat) (s : State) : Host.Outcome State Fault Refusal :=
  run (Direct.entry w (0x7010 + t) 6 value) s

end Sys2Proof.Machine
end

