-- ==== Sys2Proof/Machine/ExecAudit.lean ====
section
/-! DEFINITION. The commands of the Audit unit, per-function reset, escrow, the supervisors and limp-home (chapter 17). -/

namespace Sys2Proof.Machine

/-- SOURCE_WINDOW_CLOSE (R464). -/
def execSourceWindowClose (id : Fin 8192) (s : State) : Host.Outcome State Fault Refusal :=
  powered (Fns.windowClose id) s

/-- GRACE_EXPIRY (R469). -/
def execGraceExpiry (id : Fin 8192) (s : State) : Host.Outcome State Fault Refusal :=
  powered (Fns.graceExpiry id) s

/-- SOURCE_ACKNOWLEDGE (R470). -/
def execSourceAcknowledge (w : Writer) (id : Fin 8192) (s : State) : Host.Outcome State Fault Refusal :=
  run (Direct.entry w (0x8000 + id) 5 1) s

/-- SOURCE_CLEAR (R472). -/
def execSourceClear (w : Writer) (id : Fin 8192) (s : State) : Host.Outcome State Fault Refusal :=
  run (Direct.entry w (0x8000 + id) 5 2) s

/-- SOURCE_FORCE (R465). -/
def execSourceForce (w : Writer) (id : Fin 8192) (value : Nat) (s : State) : Host.Outcome State Fault Refusal :=
  run (Direct.entry w (0x8000 + id) 6 value) s

/-- FUNCTION_RESET (R476). -/
def execFunctionReset (w : Writer) (fn : Nat) (s : State) : Host.Outcome State Fault Refusal :=
  run (Direct.entry w 0x7E00 1 fn) s

/-- FUNCTION_RESET_DONE (R476). -/
def execFunctionResetDone (s : State) : Host.Outcome State Fault Refusal :=
  powered Fns.resetDone s

/-- ESCROW_EXPIRY (R481). -/
def execEscrowExpiry (b : Fin 16) (cell : Option (Fin 512)) (s : State) : Host.Outcome State Fault Refusal :=
  powered (Fns.escrowExpiry b (cell.map (·.val))) s

/-- SUPERVISOR_STOP (R482). -/
def execSupervisorStop (pair : Fin 2) (cause : StopCause) (s : State) : Host.Outcome State Fault Refusal :=
  powered (Sup.stop pair (match cause with | .mismatch => 1 | .memory => 2)) s

/-- WATCHDOG_EXPIRY (R482). -/
def execWatchdogExpiry (pair : Fin 2) (s : State) : Host.Outcome State Fault Refusal :=
  powered (Sup.watchdog pair) s

/-- TAKEOVER (R480). -/
def execTakeover (s : State) : Host.Outcome State Fault Refusal :=
  powered Sup.takeover s

/-- STANDBY_SELF_TEST_DONE (R482). -/
def execStandbySelfTestDone (pair : Fin 2) (passed : Bool) (s : State) : Host.Outcome State Fault Refusal :=
  powered (Sup.tested pair passed) s

/-- STANDBY_ABSENT (R489). -/
def execStandbyAbsent (s : State) : Host.Outcome State Fault Refusal :=
  powered Sup.absent s

/-- LHEN_CHANGE (R486). -/
def execLhenChange (level : Bool) (s : State) : Host.Outcome State Fault Refusal :=
  powered (Sup.lhen level) s

/-- LH_INPUT_CHANGE (R485). -/
def execLhInputChange (i : Fin 32) (level : Bool) (s : State) : Host.Outcome State Fault Refusal :=
  powered (Sup.lhInput i level) s

/-- LIMP_LOAN_RETRY (R485). -/
def execLimpLoanRetry (n : Fin 512) (s : State) : Host.Outcome State Fault Refusal :=
  powered (Sup.limpRetry n) s

/-- LIMP_EXIT (R487). -/
def execLimpExit (w : Writer) (value : Nat) (s : State) : Host.Outcome State Fault Refusal :=
  run (Direct.entry w 0x7600 7 value) s

end Sys2Proof.Machine
end

