-- ==== Sys2Proof/Machine/ExecCells.lean ====
section
/-! DEFINITION. The commands of the Teller, the channel cells, their protection and diagnostics, the banks, gangs, lamps and PWM (chapters 04 to 07 and 17). -/

namespace Sys2Proof.Machine

/-- A sample instant, which is every 20th tick: the sets, then the coil slots and inputs of the cells (R117, R227, R274). -/
def cellSamples (set : List CellSample) (supply : List (Fin 16 × Nat)) (logicMa : Nat) (s : State) : State :=
  if s.ticks % 20 = 0 then
    (List.range 512).foldl (fun s n => Inputs.sample n (Coil.sample n s)) (Measure.sample set supply logicMa s)
  else s

/-- A temperature sample, which is every 100th tick (R117). -/
def temperatureSamples (set : List (Fin 512 × Int)) (s : State) : State :=
  if s.ticks % 100 = 0 then Measure.temperatures set s else s

/-- A bank's command slot: commands, counter loads, and the failed members of gangs whose reserve has conducted since an earlier
slot (R129, R175, R285). -/
def commandSlot (b : Nat) (corrupt : List Nat) (s : State) : State :=
  let done := Gangs.releasable s b
  done.foldl (fun s g => Gangs.release g s) (Inputs.loadSlot b (Cells.slot b corrupt s))

/-- TELLER_SCAN (R202). -/
def execTellerScan (s : State) : Host.Outcome State Fault Refusal :=
  powered Clients.scan s

/-- PATIENCE_EXPIRED (R204). -/
def execPatienceExpired (requester : Nat) (s : State) : Host.Outcome State Fault Refusal :=
  powered (Clients.patience requester) s

/-- LOAN_DURATION_END (R189). -/
def execLoanDurationEnd (slot : Fin 128) (s : State) : Host.Outcome State Fault Refusal :=
  powered (Clients.durationEnd slot) s

/-- LIMIT_ENGAGE (R140). -/
def execLimitEngage (n : Fin 512) (s : State) : Host.Outcome State Fault Refusal :=
  powered (Protect.engage n) s

/-- THERMAL_SHUTDOWN (R141). -/
def execThermalShutdown (n : Fin 512) (current : Int) (s : State) : Host.Outcome State Fault Refusal :=
  powered (Protect.shutdown n current) s

/-- THERMAL_RECOVER (R141). -/
def execThermalRecover (n : Fin 512) (s : State) : Host.Outcome State Fault Refusal :=
  powered (Protect.recover n) s

/-- LIMIT_DWELL_EXPIRY (R142). -/
def execLimitDwellExpiry (n : Fin 512) (current : Int) (s : State) : Host.Outcome State Fault Refusal :=
  powered (Protect.dwell n current) s

/-- RETRY_SPACING_EXPIRY (R144). -/
def execRetrySpacingExpiry (n : Fin 512) (s : State) : Host.Outcome State Fault Refusal :=
  powered (Protect.retry n) s

/-- RETRIES_USED_RESET (R146). -/
def execRetriesUsedReset (n : Fin 512) (s : State) : Host.Outcome State Fault Refusal :=
  powered (Protect.retriesReset n) s

/-- CELL_SAMPLE (R117). -/
def execCellSample (set : List CellSample) (supply : List (Fin 16 × Nat)) (logicMa : Nat)
    (s : State) : Host.Outcome State Fault Refusal :=
  powered (cellSamples set supply logicMa) s

/-- TEMPERATURE_SAMPLE (R117). -/
def execTemperatureSample (set : List (Fin 512 × Int)) (s : State) : Host.Outcome State Fault Refusal :=
  powered (temperatureSamples set) s

/-- SUPPLY_OFF_ENTER (R163, R279). -/
def execSupplyOffEnter (b : Fin 16) (s : State) : Host.Outcome State Fault Refusal :=
  powered (fun s => if (s.bank b).supplyOff ∨ !Protect.supplyDue s b then s else Inputs.dropAll b (Protect.supplyOff b s)) s

/-- SUPPLY_OFF_END (R164). -/
def execSupplyOffEnd (b : Fin 16) (s : State) : Host.Outcome State Fault Refusal :=
  powered (Protect.supplyBack b) s

/-- BANK_LOGIC_POWER_LOSS (R165, R279). -/
def execBankLogicPowerLoss (b : Fin 16) (s : State) : Host.Outcome State Fault Refusal :=
  powered (fun s => if (s.bank b).unpowered ∨ 3000 ≤ (s.bank b).supplyMv then s
    else (Escrow.bankCells b).foldl (fun s n => Inputs.forget n s) (Protect.powerLoss b s)) s

/-- BANK_LOGIC_RETURN (R165). -/
def execBankLogicReturn (b : Fin 16) (s : State) : Host.Outcome State Fault Refusal :=
  powered (Protect.powerBack b) s

/-- BANK_SUPPLY_THRESHOLD (R136). -/
def execBankSupplyThreshold (b : Fin 16) (millivolts : Nat) (s : State) : Host.Outcome State Fault Refusal :=
  powered (Protect.supplyLevel b millivolts) s

/-- PROOF_REQUEST (R155). -/
def execProofRequest (w : Writer) (n : Fin 512) (value : Nat) (s : State) : Host.Outcome State Fault Refusal :=
  run (Direct.entry w (0x4400 + n) 0x0D value) s

/-- PROOF_START (R155). -/
def execProofStart (n : Fin 512) (s : State) : Host.Outcome State Fault Refusal :=
  powered (Protect.proofStart n) s

/-- PROOF_COMPLETE (R153). -/
def execProofComplete (n : Fin 512) (v25 v50 : Int) (s : State) : Host.Outcome State Fault Refusal :=
  powered (Protect.proofComplete n v25 v50) s

/-- OFF_DIAG_CYCLE (R159). -/
def execOffDiagCycle (n : Fin 512) (s : State) : Host.Outcome State Fault Refusal :=
  powered (Protect.cycle n) s

/-- OFF_DIAG_EVALUATE (R159). -/
def execOffDiagEvaluate (n : Fin 512) (pin partner : Int) (s : State) : Host.Outcome State Fault Refusal :=
  powered (Protect.evaluate n pin partner) s

/-- STUCK_HIGH_CONFIRM (R159). -/
def execStuckHighConfirm (n : Fin 512) (s : State) : Host.Outcome State Fault Refusal :=
  powered (Protect.stuckConfirm n) s

/-- WIRED_OR_CONFIRM (R160). -/
def execWiredOrConfirm (a n : Fin 512) (s : State) : Host.Outcome State Fault Refusal :=
  powered (Protect.wiredConfirm a n) s

/-- OPEN_ON_CONFIRM (R159). -/
def execOpenOnConfirm (n : Fin 512) (s : State) : Host.Outcome State Fault Refusal :=
  powered (Protect.openOnConfirm n) s

/-- BANK_COMMAND_SLOT (R129). -/
def execBankCommandSlot (b : Fin 16) (corrupt : List (Fin 512)) (s : State) : Host.Outcome State Fault Refusal :=
  powered (commandSlot b (corrupt.map (·.val))) s

/-- HEARTBEAT (R128). -/
def execHeartbeat (s : State) : Host.Outcome State Fault Refusal :=
  powered Sup.heartbeat s

/-- HEARTBEAT_LOST (R128). -/
def execHeartbeatLost (b : Fin 16) (s : State) : Host.Outcome State Fault Refusal :=
  powered (Sup.heartbeatLost b) s

/-- TIME_ALIGNED (R127). -/
def execTimeAligned (b : Fin 16) (err : Int) (s : State) : Host.Outcome State Fault Refusal :=
  powered (Protect.timeAligned b err) s

/-- CLOCK_FAULT (R479). -/
def execClockFault (b : Fin 16) (hz : Nat) (s : State) : Host.Outcome State Fault Refusal :=
  powered (Protect.clockFault b hz) s

/-- OVERVOLTAGE (R136). -/
def execOvervoltage (b : Fin 16) (millivolts : Nat) (s : State) : Host.Outcome State Fault Refusal :=
  powered (Protect.overvoltage b millivolts) s

/-- IMBALANCE_CONFIRM (R175). -/
def execImbalanceConfirm (g : Fin 64) (s : State) : Host.Outcome State Fault Refusal :=
  powered (Gangs.confirm g) s

/-- TAKEOVER_DEADLINE (R175). -/
def execTakeoverDeadline (g : Fin 64) (s : State) : Host.Outcome State Fault Refusal :=
  powered (Gangs.deadline g) s

/-- TAKEOVER_RETRY (R176). -/
def execTakeoverRetry (g : Fin 64) (s : State) : Host.Outcome State Fault Refusal :=
  powered (Gangs.retry g) s

/-- PWM_PERIOD_START (R179). -/
def execPwmPeriodStart (n : Fin 512) (s : State) : Host.Outcome State Fault Refusal :=
  powered (fun s => Gangs.periodStart n (Coil.period n s)) s

/-- PWM_ON_END (R180). -/
def execPwmOnEnd (n : Fin 512) (s : State) : Host.Outcome State Fault Refusal :=
  powered (Gangs.onEnd n) s

/-- INRUSH_WINDOW_END (R184). -/
def execInrushWindowEnd (n : Fin 512) (s : State) : Host.Outcome State Fault Refusal :=
  powered (Gangs.windowEnd n) s

end Sys2Proof.Machine
end

