-- ==== Sys2Proof/Machine/ExecEngines.lean ====
section
/-! DEFINITION. The commands of the coil engines, the loop engines and the field inputs (chapters 08 to 10). -/

namespace Sys2Proof.Machine

/-- An accepted level: the input reports it, and a wake input wakes on its edge (R278, R433). -/
def levelAccept (n : Nat) (s : State) : State :=
  let x := s.input n
  match x.ready && x.known && !(s.bank (n / 32)).resetting, x.cand with
  | true, some (_, _, l) => Sleep.inputAccepted n l (Inputs.accept n s)
  | _, _ => Inputs.accept n s

/-- COIL_ENERGISE (R223). -/
def execCoilEnergise (w : Writer) (e : Fin 64) (k : Fin 4) (s : State) : Host.Outcome State Fault Refusal :=
  run (Direct.entry w (0x4C00 + e) (Coil.sub k 0x18) 1) s

/-- COIL_RELEASE (R234). -/
def execCoilRelease (w : Writer) (e : Fin 64) (k : Fin 4) (s : State) : Host.Outcome State Fault Refusal :=
  run (Direct.entry w (0x4C00 + e) (Coil.sub k 0x18) 0) s

/-- SLOT_REARM (R238). -/
def execSlotRearm (w : Writer) (e : Fin 64) (k : Fin 4) (value : Nat) (s : State) : Host.Outcome State Fault Refusal :=
  run (Direct.entry w (0x4C00 + e) (Coil.sub k 0x1B) value) s

/-- COIL_SCHEDULE_TIME (R223). -/
def execCoilScheduleTime (e : Fin 64) (k : Fin 4) (s : State) : Host.Outcome State Fault Refusal :=
  powered (Coil.schedule e k) s

/-- TTP_MAX_EXPIRY (R225). -/
def execTtpMaxExpiry (e : Fin 64) (k : Fin 4) (s : State) : Host.Outcome State Fault Refusal :=
  powered (Coil.ttpMax e k) s

/-- PEAK_DWELL_END (R220). -/
def execPeakDwellEnd (e : Fin 64) (k : Fin 4) (s : State) : Host.Outcome State Fault Refusal :=
  powered (Coil.dwellEnd e k) s

/-- REGULATION_FAULT (R229). -/
def execRegulationFault (e : Fin 64) (k : Fin 4) (s : State) : Host.Outcome State Fault Refusal :=
  powered (Coil.regulationFault e k) s

/-- DEFERRAL_EXPIRY (R231). -/
def execDeferralExpiry (e : Fin 64) (k : Fin 4) (s : State) : Host.Outcome State Fault Refusal :=
  powered (Coil.deferralEnd e k) s

/-- MIN_OFF_END (R233). -/
def execMinOffEnd (e : Fin 64) (k : Fin 4) (s : State) : Host.Outcome State Fault Refusal :=
  powered (Coil.minOffEnd e k) s

/-- EVENT_LENGTH_END (R234). -/
def execEventLengthEnd (e : Fin 64) (k : Fin 4) (s : State) : Host.Outcome State Fault Refusal :=
  powered (Coil.eventEnd e k) s

/-- SWITCHED_REARM (R235). -/
def execSwitchedRearm (e : Fin 64) (k : Fin 4) (s : State) : Host.Outcome State Fault Refusal :=
  powered (Coil.switchedRearm e k) s

/-- DUTY_BUDGET_EXHAUSTED (R237). -/
def execDutyBudgetExhausted (e : Fin 64) (k : Fin 4) (s : State) : Host.Outcome State Fault Refusal :=
  powered (Coil.exhausted e k) s

/-- TRIP_PAUSE_END (R238). -/
def execTripPauseEnd (e : Fin 64) (k : Fin 4) (s : State) : Host.Outcome State Fault Refusal :=
  powered (Coil.pauseEnd e k) s

/-- SAMPLE_BOUNDARY (R255). -/
def execSampleBoundary (e : Fin 48) (s : State) : Host.Outcome State Fault Refusal :=
  powered (Loops.boundary e) s

/-- LOOP_STOP (R251). -/
def execLoopStop (w : Writer) (e : Fin 48) (s : State) : Host.Outcome State Fault Refusal :=
  run (Direct.entry w (0x4D00 + e) 0x0C 0) s

/-- LOOP_RUN (R253). -/
def execLoopRun (w : Writer) (e : Fin 48) (s : State) : Host.Outcome State Fault Refusal :=
  run (Direct.entry w (0x4D00 + e) 0x0C 1) s

/-- LOOP_HOLD (R262). -/
def execLoopHold (w : Writer) (e : Fin 48) (s : State) : Host.Outcome State Fault Refusal :=
  run (Direct.entry w (0x4D00 + e) 0x0C 2) s

/-- CONTROL_MODE_WRITE (R260). -/
def execControlModeWrite (w : Writer) (e : Fin 48) (mode : Nat) (s : State) : Host.Outcome State Fault Refusal :=
  run (Direct.entry w (0x4D00 + e) 0x0D mode) s

/-- LAG_CONFIRM (R259). -/
def execLagConfirm (e : Fin 48) (s : State) : Host.Outcome State Fault Refusal :=
  powered (Loops.lagConfirm e) s

/-- TRACK_CONFIRM (R259). -/
def execTrackConfirm (e : Fin 48) (s : State) : Host.Outcome State Fault Refusal :=
  powered (Loops.trackConfirm e) s

/-- EXTERNAL_FEEDBACK_TIMEOUT (R263). -/
def execExternalFeedbackTimeout (e : Fin 48) (s : State) : Host.Outcome State Fault Refusal :=
  powered (Loops.externalTimeout e) s

/-- INPUT_LEVEL_ACCEPT (R278). -/
def execInputLevelAccept (n : Fin 512) (s : State) : Host.Outcome State Fault Refusal :=
  powered (levelAccept n) s

/-- WETTING_PULSE (R275). -/
def execWettingPulse (n : Fin 512) (pin : Int) (s : State) : Host.Outcome State Fault Refusal :=
  powered (Inputs.pulse n pin) s

/-- WIRE_BREAK_PHASE (R280). -/
def execWireBreakPhase (n : Fin 512) (s : State) : Host.Outcome State Fault Refusal :=
  powered (Inputs.breakPhase n) s

/-- WIRE_BREAK_RESULT (R281). -/
def execWireBreakResult (n : Fin 512) (s : State) : Host.Outcome State Fault Refusal :=
  powered (Inputs.breakResult n) s

/-- COUNTER_EDGE (R283). -/
def execCounterEdge (n : Fin 512) (rising : Bool) (s : State) : Host.Outcome State Fault Refusal :=
  powered (Inputs.edge n rising) s

/-- COUNTER_LOAD (R285). -/
def execCounterLoad (w : Writer) (n : Fin 512) (value : Nat) (s : State) : Host.Outcome State Fault Refusal :=
  run (Direct.entry w (0x4E82 + n / 128) (1 + n % 128) value) s

/-- FIELD_SUPPLY_CHANGE (R289). -/
def execFieldSupplyChange (b : Fin 16) (s : State) : Host.Outcome State Fault Refusal :=
  powered (Inputs.supplyChange b) s

end Sys2Proof.Machine
end

