-- ==== Sys2Proof/Machine/ExecInstr.lean ====
section
/-! DEFINITION. The Fororn instructions as commands: the context named issues the instruction spelled (chapter 11). -/

namespace Sys2Proof.Machine

/-- A word that R297 makes undefined traps; one that spells an instruction is none of this command's. -/
def undefWord (c : Nat) (w e1 e2 : PWord) (s : State) : State :=
  match SeqDecode.decode w e1 e2 with
  | .error k => Seq.issueUndef c w k s
  | .ok _ => s

/-- NOP (R297). -/
def execSqNop (c : Fin 128) (s : State) : Host.Outcome State Fault Refusal :=
  issued (Seq.issue c .nop) s

/-- RET (R306). -/
def execSqRet (c : Fin 128) (s : State) : Host.Outcome State Fault Refusal :=
  issued (Seq.issue c .ret) s

/-- RTI (R315). -/
def execSqRti (c : Fin 128) (s : State) : Host.Outcome State Fault Refusal :=
  issued (Seq.issue c .rti) s

/-- YIELD (R309). -/
def execSqYield (c : Fin 128) (s : State) : Host.Outcome State Fault Refusal :=
  issued (Seq.issue c .yield) s

/-- WAIT (R309). -/
def execSqWait (c : Fin 128) (g : Fin 8) (s : State) : Host.Outcome State Fault Refusal :=
  issued (Seq.issue c (.wait g)) s

/-- SWI (R309). -/
def execSqSwi (c : Fin 128) (n : Fin 64) (s : State) : Host.Outcome State Fault Refusal :=
  issued (Seq.issue c (.swi n)) s

/-- BRK (R309). -/
def execSqBrk (c : Fin 128) (s : State) : Host.Outcome State Fault Refusal :=
  issued (Seq.issue c .brk) s

/-- WAIT_WAKE (R309). -/
def execWaitWake (c : Fin 128) (s : State) : Host.Outcome State Fault Refusal :=
  issued (Seq.wake c) s

/-- ADD (R298). -/
def execSqAdd (c : Fin 128) (gd gs : Fin 8) (s : State) : Host.Outcome State Fault Refusal :=
  issued (Seq.issue c (.alu .add gd gs)) s

/-- SUB (R298). -/
def execSqSub (c : Fin 128) (gd gs : Fin 8) (s : State) : Host.Outcome State Fault Refusal :=
  issued (Seq.issue c (.alu .sub gd gs)) s

/-- AND (R298). -/
def execSqAnd (c : Fin 128) (gd gs : Fin 8) (s : State) : Host.Outcome State Fault Refusal :=
  issued (Seq.issue c (.alu .and gd gs)) s

/-- OR (R298). -/
def execSqOr (c : Fin 128) (gd gs : Fin 8) (s : State) : Host.Outcome State Fault Refusal :=
  issued (Seq.issue c (.alu .or gd gs)) s

/-- XOR (R298). -/
def execSqXor (c : Fin 128) (gd gs : Fin 8) (s : State) : Host.Outcome State Fault Refusal :=
  issued (Seq.issue c (.alu .xor gd gs)) s

/-- SHL (R299). -/
def execSqShl (c : Fin 128) (gd gs : Fin 8) (s : State) : Host.Outcome State Fault Refusal :=
  issued (Seq.issue c (.shift .shl gd gs)) s

/-- SHR (R299). -/
def execSqShr (c : Fin 128) (gd gs : Fin 8) (s : State) : Host.Outcome State Fault Refusal :=
  issued (Seq.issue c (.shift .shr gd gs)) s

/-- SAR (R299). -/
def execSqSar (c : Fin 128) (gd gs : Fin 8) (s : State) : Host.Outcome State Fault Refusal :=
  issued (Seq.issue c (.shift .sar gd gs)) s

/-- ADDI (R298). -/
def execSqAddi (c : Fin 128) (gd : Fin 8) (imm : BitVec 12) (s : State) : Host.Outcome State Fault Refusal :=
  issued (Seq.issue c (.alui .add gd imm)) s

/-- SUBI (R298). -/
def execSqSubi (c : Fin 128) (gd : Fin 8) (imm : BitVec 12) (s : State) : Host.Outcome State Fault Refusal :=
  issued (Seq.issue c (.alui .sub gd imm)) s

/-- ANDI (R298). -/
def execSqAndi (c : Fin 128) (gd : Fin 8) (imm : BitVec 12) (s : State) : Host.Outcome State Fault Refusal :=
  issued (Seq.issue c (.alui .and gd imm)) s

/-- ORI (R298). -/
def execSqOri (c : Fin 128) (gd : Fin 8) (imm : BitVec 12) (s : State) : Host.Outcome State Fault Refusal :=
  issued (Seq.issue c (.alui .or gd imm)) s

/-- XORI (R298). -/
def execSqXori (c : Fin 128) (gd : Fin 8) (imm : BitVec 12) (s : State) : Host.Outcome State Fault Refusal :=
  issued (Seq.issue c (.alui .xor gd imm)) s

/-- SHLI (R299). -/
def execSqShli (c : Fin 128) (gd : Fin 8) (n : Fin 32) (s : State) : Host.Outcome State Fault Refusal :=
  issued (Seq.issue c (.shifti .shl gd n)) s

/-- SHRI (R299). -/
def execSqShri (c : Fin 128) (gd : Fin 8) (n : Fin 32) (s : State) : Host.Outcome State Fault Refusal :=
  issued (Seq.issue c (.shifti .shr gd n)) s

/-- SARI (R299). -/
def execSqSari (c : Fin 128) (gd : Fin 8) (n : Fin 32) (s : State) : Host.Outcome State Fault Refusal :=
  issued (Seq.issue c (.shifti .sar gd n)) s

/-- MOV (R298). -/
def execSqMov (c : Fin 128) (gd gs : Fin 8) (s : State) : Host.Outcome State Fault Refusal :=
  issued (Seq.issue c (.reg .mov gd gs)) s

/-- CMP (R298). -/
def execSqCmp (c : Fin 128) (gd gs : Fin 8) (s : State) : Host.Outcome State Fault Refusal :=
  issued (Seq.issue c (.reg .cmp gd gs)) s

/-- TST (R298). -/
def execSqTst (c : Fin 128) (gd gs : Fin 8) (s : State) : Host.Outcome State Fault Refusal :=
  issued (Seq.issue c (.reg .tst gd gs)) s

/-- NEG (R298). -/
def execSqNeg (c : Fin 128) (gd gs : Fin 8) (s : State) : Host.Outcome State Fault Refusal :=
  issued (Seq.issue c (.reg .neg gd gs)) s

/-- NOT (R298). -/
def execSqNot (c : Fin 128) (gd gs : Fin 8) (s : State) : Host.Outcome State Fault Refusal :=
  issued (Seq.issue c (.reg .not gd gs)) s

/-- MUL (R298). -/
def execSqMul (c : Fin 128) (gd gs : Fin 8) (s : State) : Host.Outcome State Fault Refusal :=
  issued (Seq.issue c (.reg .mul gd gs)) s

/-- MULHS (R298). -/
def execSqMulhs (c : Fin 128) (gd gs : Fin 8) (s : State) : Host.Outcome State Fault Refusal :=
  issued (Seq.issue c (.reg .mulhs gd gs)) s

/-- MULHU (R298). -/
def execSqMulhu (c : Fin 128) (gd gs : Fin 8) (s : State) : Host.Outcome State Fault Refusal :=
  issued (Seq.issue c (.reg .mulhu gd gs)) s

/-- ADC (R298). -/
def execSqAdc (c : Fin 128) (gd gs : Fin 8) (s : State) : Host.Outcome State Fault Refusal :=
  issued (Seq.issue c (.reg .adc gd gs)) s

/-- SBC (R298). -/
def execSqSbc (c : Fin 128) (gd gs : Fin 8) (s : State) : Host.Outcome State Fault Refusal :=
  issued (Seq.issue c (.reg .sbc gd gs)) s

/-- ROL (R299). -/
def execSqRol (c : Fin 128) (gd gs : Fin 8) (s : State) : Host.Outcome State Fault Refusal :=
  issued (Seq.issue c (.reg .rol gd gs)) s

/-- ROR (R299). -/
def execSqRor (c : Fin 128) (gd gs : Fin 8) (s : State) : Host.Outcome State Fault Refusal :=
  issued (Seq.issue c (.reg .ror gd gs)) s

/-- DIV (R300). -/
def execSqDiv (c : Fin 128) (gd gs : Fin 8) (s : State) : Host.Outcome State Fault Refusal :=
  issued (Seq.issue c (.reg .div gd gs)) s

/-- DIVU (R300). -/
def execSqDivu (c : Fin 128) (gd gs : Fin 8) (s : State) : Host.Outcome State Fault Refusal :=
  issued (Seq.issue c (.reg .divu gd gs)) s

/-- REM (R300). -/
def execSqRem (c : Fin 128) (gd gs : Fin 8) (s : State) : Host.Outcome State Fault Refusal :=
  issued (Seq.issue c (.reg .rem gd gs)) s

/-- REMU (R300). -/
def execSqRemu (c : Fin 128) (gd gs : Fin 8) (s : State) : Host.Outcome State Fault Refusal :=
  issued (Seq.issue c (.reg .remu gd gs)) s

/-- MIN (R298). -/
def execSqMin (c : Fin 128) (gd gs : Fin 8) (s : State) : Host.Outcome State Fault Refusal :=
  issued (Seq.issue c (.reg .min gd gs)) s

/-- MAX (R298). -/
def execSqMax (c : Fin 128) (gd gs : Fin 8) (s : State) : Host.Outcome State Fault Refusal :=
  issued (Seq.issue c (.reg .max gd gs)) s

/-- MINU (R298). -/
def execSqMinu (c : Fin 128) (gd gs : Fin 8) (s : State) : Host.Outcome State Fault Refusal :=
  issued (Seq.issue c (.reg .minu gd gs)) s

/-- MAXU (R298). -/
def execSqMaxu (c : Fin 128) (gd gs : Fin 8) (s : State) : Host.Outcome State Fault Refusal :=
  issued (Seq.issue c (.reg .maxu gd gs)) s

/-- REV (R298). -/
def execSqRev (c : Fin 128) (gd gs : Fin 8) (s : State) : Host.Outcome State Fault Refusal :=
  issued (Seq.issue c (.reg .rev gd gs)) s

/-- REVB (R298). -/
def execSqRevb (c : Fin 128) (gd gs : Fin 8) (s : State) : Host.Outcome State Fault Refusal :=
  issued (Seq.issue c (.reg .revb gd gs)) s

/-- BSWAP (R298). -/
def execSqBswap (c : Fin 128) (gd gs : Fin 8) (s : State) : Host.Outcome State Fault Refusal :=
  issued (Seq.issue c (.reg .bswap gd gs)) s

/-- PAR (R301). -/
def execSqPar (c : Fin 128) (gd gs : Fin 8) (s : State) : Host.Outcome State Fault Refusal :=
  issued (Seq.issue c (.reg .par gd gs)) s

/-- CLZ (R298). -/
def execSqClz (c : Fin 128) (gd gs : Fin 8) (s : State) : Host.Outcome State Fault Refusal :=
  issued (Seq.issue c (.reg .clz gd gs)) s

/-- POPC (R298). -/
def execSqPopc (c : Fin 128) (gd gs : Fin 8) (s : State) : Host.Outcome State Fault Refusal :=
  issued (Seq.issue c (.reg .popc gd gs)) s

/-- SXB (R298). -/
def execSqSxb (c : Fin 128) (gd gs : Fin 8) (s : State) : Host.Outcome State Fault Refusal :=
  issued (Seq.issue c (.reg .sxb gd gs)) s

/-- SXH (R298). -/
def execSqSxh (c : Fin 128) (gd gs : Fin 8) (s : State) : Host.Outcome State Fault Refusal :=
  issued (Seq.issue c (.reg .sxh gd gs)) s

/-- LDI (R298). -/
def execSqLdi (c : Fin 128) (gd : Fin 8) (imm : BitVec 12) (s : State) : Host.Outcome State Fault Refusal :=
  issued (Seq.issue c (.ldi gd imm)) s

/-- CMPI (R298). -/
def execSqCmpi (c : Fin 128) (gd : Fin 8) (imm : BitVec 12) (s : State) : Host.Outcome State Fault Refusal :=
  issued (Seq.issue c (.cmpi gd imm)) s

/-- LDIL (R296). -/
def execSqLdil (c : Fin 128) (gd : Fin 8) (imm : Word) (s : State) : Host.Outcome State Fault Refusal :=
  issued (Seq.issue c (.ldil gd imm)) s

/-- ADDX (R298). -/
def execSqAddx (c : Fin 128) (gd : Fin 8) (imm : BitVec 14) (s : State) : Host.Outcome State Fault Refusal :=
  issued (Seq.issue c (.aluix .add gd imm)) s

/-- SUBX (R298). -/
def execSqSubx (c : Fin 128) (gd : Fin 8) (imm : BitVec 14) (s : State) : Host.Outcome State Fault Refusal :=
  issued (Seq.issue c (.aluix .sub gd imm)) s

/-- ANDX (R298). -/
def execSqAndx (c : Fin 128) (gd : Fin 8) (imm : BitVec 14) (s : State) : Host.Outcome State Fault Refusal :=
  issued (Seq.issue c (.aluix .and gd imm)) s

/-- ORX (R298). -/
def execSqOrx (c : Fin 128) (gd : Fin 8) (imm : BitVec 14) (s : State) : Host.Outcome State Fault Refusal :=
  issued (Seq.issue c (.aluix .or gd imm)) s

/-- XORX (R298). -/
def execSqXorx (c : Fin 128) (gd : Fin 8) (imm : BitVec 14) (s : State) : Host.Outcome State Fault Refusal :=
  issued (Seq.issue c (.aluix .xor gd imm)) s

/-- CMPX (R298). -/
def execSqCmpx (c : Fin 128) (gd : Fin 8) (imm : BitVec 14) (s : State) : Host.Outcome State Fault Refusal :=
  issued (Seq.issue c (.cmpx gd imm)) s

/-- TSTX (R298). -/
def execSqTstx (c : Fin 128) (gd : Fin 8) (imm : BitVec 14) (s : State) : Host.Outcome State Fault Refusal :=
  issued (Seq.issue c (.tstx gd imm)) s

/-- LDIX (R298). -/
def execSqLdix (c : Fin 128) (gd : Fin 8) (imm : BitVec 14) (s : State) : Host.Outcome State Fault Refusal :=
  issued (Seq.issue c (.ldix gd imm)) s

/-- BSET (R301). -/
def execSqBset (c : Fin 128) (gd : Fin 8) (lsb : Fin 32) (s : State) : Host.Outcome State Fault Refusal :=
  issued (Seq.issue c (.bit .bset gd lsb)) s

/-- BCLR (R301). -/
def execSqBclr (c : Fin 128) (gd : Fin 8) (lsb : Fin 32) (s : State) : Host.Outcome State Fault Refusal :=
  issued (Seq.issue c (.bit .bclr gd lsb)) s

/-- BTGL (R301). -/
def execSqBtgl (c : Fin 128) (gd : Fin 8) (lsb : Fin 32) (s : State) : Host.Outcome State Fault Refusal :=
  issued (Seq.issue c (.bit .btgl gd lsb)) s

/-- BTST (R301). -/
def execSqBtst (c : Fin 128) (gd : Fin 8) (lsb : Fin 32) (s : State) : Host.Outcome State Fault Refusal :=
  issued (Seq.issue c (.bit .btst gd lsb)) s

/-- EXTU (R301). -/
def execSqExtu (c : Fin 128) (gd gs : Fin 8) (lsb width1 : Fin 32) (s : State) : Host.Outcome State Fault Refusal :=
  issued (Seq.issue c (.fld .extu gd gs lsb width1)) s

/-- EXTS (R301). -/
def execSqExts (c : Fin 128) (gd gs : Fin 8) (lsb width1 : Fin 32) (s : State) : Host.Outcome State Fault Refusal :=
  issued (Seq.issue c (.fld .exts gd gs lsb width1)) s

/-- INS (R301). -/
def execSqIns (c : Fin 128) (gd gs : Fin 8) (lsb width1 : Fin 32) (s : State) : Host.Outcome State Fault Refusal :=
  issued (Seq.issue c (.fld .ins gd gs lsb width1)) s

/-- CRC8 (R302). -/
def execSqCrc8 (c : Fin 128) (gd gs : Fin 8) (s : State) : Host.Outcome State Fault Refusal :=
  issued (Seq.issue c (.crc .crc8 gd gs)) s

/-- CRC16 (R302). -/
def execSqCrc16 (c : Fin 128) (gd gs : Fin 8) (s : State) : Host.Outcome State Fault Refusal :=
  issued (Seq.issue c (.crc .crc16 gd gs)) s

/-- CRC32 (R302). -/
def execSqCrc32 (c : Fin 128) (gd gs : Fin 8) (s : State) : Host.Outcome State Fault Refusal :=
  issued (Seq.issue c (.crc .crc32 gd gs)) s

/-- CRC32W (R302). -/
def execSqCrc32w (c : Fin 128) (gd gs : Fin 8) (s : State) : Host.Outcome State Fault Refusal :=
  issued (Seq.issue c (.crc .crc32w gd gs)) s

/-- CRC8M (R302). -/
def execSqCrc8m (c : Fin 128) (gd gs : Fin 8) (s : State) : Host.Outcome State Fault Refusal :=
  issued (Seq.issue c (.crcm .crc8m gd gs)) s

/-- CRC16M (R302). -/
def execSqCrc16m (c : Fin 128) (gd gs : Fin 8) (s : State) : Host.Outcome State Fault Refusal :=
  issued (Seq.issue c (.crcm .crc16m gd gs)) s

/-- CRC32M (R302). -/
def execSqCrc32m (c : Fin 128) (gd gs : Fin 8) (s : State) : Host.Outcome State Fault Refusal :=
  issued (Seq.issue c (.crcm .crc32m gd gs)) s

/-- LDW (R303). -/
def execSqLdw (c : Fin 128) (gd gb : Fin 8) (s : State) : Host.Outcome State Fault Refusal :=
  issued (Seq.issue c (.ldw gd gb .at_)) s

/-- STW (R303). -/
def execSqStw (c : Fin 128) (gs gb : Fin 8) (s : State) : Host.Outcome State Fault Refusal :=
  issued (Seq.issue c (.stw gs gb .at_)) s

/-- LDW_DISP (R303). -/
def execSqLdwDisp (c : Fin 128) (gd gb : Fin 8) (d : BitVec 12) (s : State) : Host.Outcome State Fault Refusal :=
  issued (Seq.issue c (.ldw gd gb (.disp d))) s

/-- STW_DISP (R303). -/
def execSqStwDisp (c : Fin 128) (gs gb : Fin 8) (d : BitVec 12) (s : State) : Host.Outcome State Fault Refusal :=
  issued (Seq.issue c (.stw gs gb (.disp d))) s

/-- LDW_POST (R304). -/
def execSqLdwPost (c : Fin 128) (gd gb : Fin 8) (s : State) : Host.Outcome State Fault Refusal :=
  issued (Seq.issue c (.ldw gd gb .post)) s

/-- STW_POST (R304). -/
def execSqStwPost (c : Fin 128) (gs gb : Fin 8) (s : State) : Host.Outcome State Fault Refusal :=
  issued (Seq.issue c (.stw gs gb .post)) s

/-- LDW_PRE (R304). -/
def execSqLdwPre (c : Fin 128) (gd gb : Fin 8) (s : State) : Host.Outcome State Fault Refusal :=
  issued (Seq.issue c (.ldw gd gb .pre)) s

/-- STW_PRE (R304). -/
def execSqStwPre (c : Fin 128) (gs gb : Fin 8) (s : State) : Host.Outcome State Fault Refusal :=
  issued (Seq.issue c (.stw gs gb .pre)) s

/-- LDB (R303). -/
def execSqLdb (c : Fin 128) (gd gb : Fin 8) (d : BitVec 14) (s : State) : Host.Outcome State Fault Refusal :=
  issued (Seq.issue c (.load .b false gd gb d)) s

/-- LDBS (R303). -/
def execSqLdbs (c : Fin 128) (gd gb : Fin 8) (d : BitVec 14) (s : State) : Host.Outcome State Fault Refusal :=
  issued (Seq.issue c (.load .b true gd gb d)) s

/-- LDH (R303). -/
def execSqLdh (c : Fin 128) (gd gb : Fin 8) (d : BitVec 14) (s : State) : Host.Outcome State Fault Refusal :=
  issued (Seq.issue c (.load .h false gd gb d)) s

/-- LDHS (R303). -/
def execSqLdhs (c : Fin 128) (gd gb : Fin 8) (d : BitVec 14) (s : State) : Host.Outcome State Fault Refusal :=
  issued (Seq.issue c (.load .h true gd gb d)) s

/-- LDWD (R303). -/
def execSqLdwd (c : Fin 128) (gd gb : Fin 8) (d : BitVec 14) (s : State) : Host.Outcome State Fault Refusal :=
  issued (Seq.issue c (.load .w false gd gb d)) s

/-- STB (R303). -/
def execSqStb (c : Fin 128) (gs gb : Fin 8) (d : BitVec 14) (s : State) : Host.Outcome State Fault Refusal :=
  issued (Seq.issue c (.store .b gs gb d)) s

/-- STH (R303). -/
def execSqSth (c : Fin 128) (gs gb : Fin 8) (d : BitVec 14) (s : State) : Host.Outcome State Fault Refusal :=
  issued (Seq.issue c (.store .h gs gb d)) s

/-- STWD (R303). -/
def execSqStwd (c : Fin 128) (gs gb : Fin 8) (d : BitVec 14) (s : State) : Host.Outcome State Fault Refusal :=
  issued (Seq.issue c (.store .w gs gb d)) s

/-- LDBP (R304). -/
def execSqLdbp (c : Fin 128) (gd gb : Fin 8) (s : State) : Host.Outcome State Fault Refusal :=
  issued (Seq.issue c (.ldbp gd gb)) s

/-- STBP (R304). -/
def execSqStbp (c : Fin 128) (gs gb : Fin 8) (s : State) : Host.Outcome State Fault Refusal :=
  issued (Seq.issue c (.stbp gs gb)) s

/-- LDWX (R303). -/
def execSqLdwx (c : Fin 128) (gd gb gi : Fin 8) (s : State) : Host.Outcome State Fault Refusal :=
  issued (Seq.issue c (.ldwx gd gb gi)) s

/-- STWX (R303). -/
def execSqStwx (c : Fin 128) (gs gb gi : Fin 8) (s : State) : Host.Outcome State Fault Refusal :=
  issued (Seq.issue c (.stwx gs gb gi)) s

/-- LDBX (R303). -/
def execSqLdbx (c : Fin 128) (gd gb gi : Fin 8) (s : State) : Host.Outcome State Fault Refusal :=
  issued (Seq.issue c (.ldbx gd gb gi)) s

/-- STBX (R303). -/
def execSqStbx (c : Fin 128) (gs gb gi : Fin 8) (s : State) : Host.Outcome State Fault Refusal :=
  issued (Seq.issue c (.stbx gs gb gi)) s

/-- BRANCH (R298). -/
def execSqBranch (c : Fin 128) (cond : Fin 15) (off : BitVec 12) (s : State) : Host.Outcome State Fault Refusal :=
  issued (Seq.issue c (.br cond off)) s

/-- BRANCH_X (R298). -/
def execSqBranchX (c : Fin 128) (cond : Fin 15) (off : BitVec 14) (s : State) : Host.Outcome State Fault Refusal :=
  issued (Seq.issue c (.brx cond off)) s

/-- CALL (R306). -/
def execSqCall (c : Fin 128) (addr : BitVec 12) (s : State) : Host.Outcome State Fault Refusal :=
  issued (Seq.issue c (.call addr)) s

/-- JMP (R295). -/
def execSqJmp (c : Fin 128) (addr : BitVec 12) (s : State) : Host.Outcome State Fault Refusal :=
  issued (Seq.issue c (.jmp addr)) s

/-- CALLR (R306). -/
def execSqCallr (c : Fin 128) (gs : Fin 8) (s : State) : Host.Outcome State Fault Refusal :=
  issued (Seq.issue c (.callr gs)) s

/-- JMPR (R295). -/
def execSqJmpr (c : Fin 128) (gs : Fin 8) (s : State) : Host.Outcome State Fault Refusal :=
  issued (Seq.issue c (.jmpr gs)) s

/-- CALLX (R306). -/
def execSqCallx (c : Fin 128) (addr : BitVec 13) (s : State) : Host.Outcome State Fault Refusal :=
  issued (Seq.issue c (.callx addr)) s

/-- JMPX (R295). -/
def execSqJmpx (c : Fin 128) (addr : BitVec 13) (s : State) : Host.Outcome State Fault Refusal :=
  issued (Seq.issue c (.jmpx addr)) s

/-- PUSH (R305). -/
def execSqPush (c : Fin 128) (gs : Fin 8) (s : State) : Host.Outcome State Fault Refusal :=
  issued (Seq.issue c (.push gs)) s

/-- POP (R305). -/
def execSqPop (c : Fin 128) (gd : Fin 8) (s : State) : Host.Outcome State Fault Refusal :=
  issued (Seq.issue c (.pop gd)) s

/-- PUSHM (R305). -/
def execSqPushm (c : Fin 128) (mask : BitVec 8) (s : State) : Host.Outcome State Fault Refusal :=
  issued (Seq.issue c (.pushm mask)) s

/-- POPM (R305). -/
def execSqPopm (c : Fin 128) (mask : BitVec 8) (s : State) : Host.Outcome State Fault Refusal :=
  issued (Seq.issue c (.popm mask)) s

/-- ADDSP (R305). -/
def execSqAddsp (c : Fin 128) (imm : BitVec 14) (s : State) : Host.Outcome State Fault Refusal :=
  issued (Seq.issue c (.addsp imm)) s

/-- GETSP (R305). -/
def execSqGetsp (c : Fin 128) (gd : Fin 8) (s : State) : Host.Outcome State Fault Refusal :=
  issued (Seq.issue c (.getsp gd)) s

/-- SETSP (R305). -/
def execSqSetsp (c : Fin 128) (gs : Fin 8) (s : State) : Host.Outcome State Fault Refusal :=
  issued (Seq.issue c (.setsp gs)) s

/-- REP (R310). -/
def execSqRep (c : Fin 128) (gc : Fin 8) (stopAfter : Option Nat) (s : State) : Host.Outcome State Fault Refusal :=
  issued (fun s => Seq.repeat_ c 1 ((s.ctx c).g.get gc).toNat (some gc) Path.read stopAfter (.rep gc) s) s

/-- REPI (R310). -/
def execSqRepi (c : Fin 128) (n : BitVec 14) (stopAfter : Option Nat) (s : State) : Host.Outcome State Fault Refusal :=
  issued (Seq.repeat_ c (SeqOp.repi n).len n.toNat none Path.read stopAfter (.repi n)) s

/-- MFS (R308). -/
def execSqMfs (c : Fin 128) (g : Fin 8) (reg : BitVec 8) (s : State) : Host.Outcome State Fault Refusal :=
  issued (Seq.issue c (.mfs g reg)) s

/-- MTS (R308). -/
def execSqMts (c : Fin 128) (g : Fin 8) (reg : BitVec 8) (s : State) : Host.Outcome State Fault Refusal :=
  issued (Seq.issue c (.mts g reg)) s

/-- UNDEF (R297). -/
def execSqUndef (c : Fin 128) (w e1 e2 : PWord) (s : State) : Host.Outcome State Fault Refusal :=
  issued (undefWord c w e1 e2) s

end Sys2Proof.Machine
end

