-- ==== Sys2Proof/Machine/ExecLedger.lean ====
section
/-! DEFINITION. The commands of the Ledger and its sessions (chapters 02 and 03): each takes effect by the function of its chapter. -/

namespace Sys2Proof.Machine

/-- The device of a relay answer, keyed as `State.relayTags` (Table 03-11). -/
def relayDevice (bus : RelayBus) (device : Nat) : Nat :=
  match bus with
  | .can k => 65536 + k * 256 + device
  | .lin k => 2 * 65536 + k * 256 + device
  | .t1s k => 3 * 65536 + k * 256 + device

/-- The CountersClear entry of a group, 0xFF where it has none (R166). -/
def clearEntry (s : State) (index : Nat) : Nat :=
  match LGroup.ofIndex s.ca index with
  | some (.chanDiag _) => 0x0E
  | some .teller => 0x0E
  | some (.coil _) => 0x0C
  | some (.loop _) => 0x3C
  | some (.context _) => 0x12
  | some (.perf _) => 0x13
  | some (.port _) => 0x2E
  | some (.vault 0) => 0x0D
  | some (.can _) => 0x1E
  | some (.lin _) => 0x0D
  | some (.t1s _) => 0x08
  | some (.sleep 0) => 0x16
  | some .access => 0x1B
  | some (.auditCtl 0) => 0x0A
  | some (.escrow 0) => 0x0C
  | _ => 0xFF

/-- OPEN (R82). -/
def execBllOpen (o : Origin) (f : Frame) (s : State) : Host.Outcome State Fault Refusal :=
  run (Bll.receive o 0x1 f) s

/-- PROVE (R82). -/
def execBllProve (o : Origin) (f : Frame) (s : State) : Host.Outcome State Fault Refusal :=
  run (Bll.receive o 0x3 f) s

/-- READ (R558). -/
def execBllRead (o : Origin) (f : Frame) (s : State) : Host.Outcome State Fault Refusal :=
  run (Bll.receive o 0x10 f) s

/-- WRITE (R59). -/
def execBllWrite (o : Origin) (f : Frame) (s : State) : Host.Outcome State Fault Refusal :=
  run (Bll.receive o 0x11 f) s

/-- SUBSCRIBE (R96). -/
def execBllSubscribe (o : Origin) (f : Frame) (s : State) : Host.Outcome State Fault Refusal :=
  run (Bll.receive o 0x12 f) s

/-- UNSUBSCRIBE (R94). -/
def execBllUnsubscribe (o : Origin) (f : Frame) (s : State) : Host.Outcome State Fault Refusal :=
  run (Bll.receive o 0x13 f) s

/-- KEEPALIVE (R98). -/
def execBllKeepalive (o : Origin) (f : Frame) (s : State) : Host.Outcome State Fault Refusal :=
  run (Bll.receive o 0x15 f) s

/-- CLOSE (R98). -/
def execBllClose (o : Origin) (f : Frame) (s : State) : Host.Outcome State Fault Refusal :=
  run (Bll.receive o 0x5 f) s

/-- RESERVED_TYPE_FRAME (R79). -/
def execReservedTypeFrame (o : Origin) (type : Nat) (f : Frame) (s : State) : Host.Outcome State Fault Refusal :=
  run (fun s => if [1, 3, 5, 0x10, 0x11, 0x12, 0x13, 0x15].contains type then s else Bll.receive o type f s) s

/-- OPEN_LOCKOUT_END (R84). -/
def execOpenLockoutEnd (source : OpenSource) (addr : Nat) (s : State) : Host.Outcome State Fault Refusal :=
  run (Bll.lockoutEnd (Bll.transportOf source.via) source.id addr) s

/-- PROVE_TIMEOUT (R82). -/
def execProveTimeout (k : Fin 128) (s : State) : Host.Outcome State Fault Refusal :=
  powered (Bll.proveTimeout k) s

/-- IDLE_TIMEOUT (R98). -/
def execIdleTimeout (k : Fin 128) (s : State) : Host.Outcome State Fault Refusal :=
  powered (Bll.idleTimeout k) s

/-- NOTIFY_INTERVAL (R96). -/
def execNotifyInterval (k : Fin 128) (sub : Fin 64) (s : State) : Host.Outcome State Fault Refusal :=
  powered (Subs.interval k sub) s

/-- SERVICE_RESUME (R26). -/
def execServiceResume (s : State) : Host.Outcome State Fault Refusal :=
  powered Clients.resume s

/-- PROXY_TIMEOUT (R74). -/
def execProxyTimeout (k : Fin 128) (s : State) : Host.Outcome State Fault Refusal :=
  powered (Bll.proxyTimeout k) s

/-- RELAY_RESPONSE (R416). -/
def execRelayResponse (bus : RelayBus) (device tag _type status position : Nat) (items : List Byte)
    (s : State) : Host.Outcome State Fault Refusal :=
  powered (Bll.relayAnswer (relayDevice bus device) tag status position items) s

/-- ISO_TP_TIMEOUT (R78). -/
def execIsoTpTimeout (channel : Fin 64) (receiving : Bool) (s : State) : Host.Outcome State Fault Refusal :=
  powered (Iso.timeout channel receiving) s

/-- ENTRY_WRITE (R57). -/
def execEntryWrite (w : Writer) (x : Write) (s : State) : Host.Outcome State Fault Refusal :=
  run (Direct.post w x) s

/-- FUNCTION_STATE_WRITE (R47). -/
def execFunctionStateWrite (w : Writer) (cls inst value : Nat) (s : State) : Host.Outcome State Fault Refusal :=
  run (Direct.entry w (Fn.group ⟨cls, inst⟩) 1 value) s

/-- PARAMETER_STORE_COMPLETE (R43). -/
def execParameterStoreComplete (s : State) : Host.Outcome State Fault Refusal :=
  powered Clients.storeComplete s

/-- PERSIST_STORE_RETRY (R213). -/
def execPersistStoreRetry (s : State) : Host.Outcome State Fault Refusal :=
  powered Store.kick s

/-- CELL_OWNER_WRITE (R54). -/
def execCellOwnerWrite (w : Writer) (n : Fin 512) (owner : Nat) (s : State) : Host.Outcome State Fault Refusal :=
  run (Direct.entry w (0x4000 + n) 1 owner) s

/-- CELL_COMMAND_WRITE (R110). -/
def execCellCommandWrite (w : Writer) (n : Fin 512) (cmd : Nat) (s : State) : Host.Outcome State Fault Refusal :=
  run (Direct.entry w (0x4000 + n) 3 cmd) s

/-- PWM_DUTY_WRITE (R108). -/
def execPwmDutyWrite (w : Writer) (n : Fin 512) (duty : Nat) (s : State) : Host.Outcome State Fault Refusal :=
  run (Direct.entry w (0x4000 + n) 4 duty) s

/-- SET_MODULE_TIME (R70). -/
def execSetModuleTime (w : Writer) (time : Nat) (s : State) : Host.Outcome State Fault Refusal :=
  run (Direct.entry w 0x1200 5 time) s

/-- KEY_SLOT_WRITE (R85). -/
def execKeySlotWrite (w : Writer) (slot : Fin 16) (binding : Bool) (value : Nat)
    (s : State) : Host.Outcome State Fault Refusal :=
  run (Direct.entry w 0x1181 ((if binding then 0x11 else 1) + slot) value) s

/-- ADDRESS_WRITE (R98). -/
def execAddressWrite (w : Writer) (which : AddressEntry) (value : Nat) (s : State) : Host.Outcome State Fault Refusal :=
  run (Direct.entry w 0x1180 (match which with | .node => 1 | .ipv4 => 2 | .ipv6 => 3) value) s

/-- COUNTERS_CLEAR (R166). -/
def execCountersClear (w : Writer) (index value : Nat) (s : State) : Host.Outcome State Fault Refusal :=
  run (fun s => Direct.entry w index (clearEntry s index) value s) s

end Sys2Proof.Machine
end

