-- ==== Sys2Proof/Machine/ExecNet.lean ====
section
/-! DEFINITION. The commands of the switch, the Vault, module time and the field buses (chapters 02, 13 and 14). -/

namespace Sys2Proof.Machine

/-- A frame begins at a port: its forwarding decision (R357). -/
def arrive (p : Nat) (f : EthHead) (s : State) : State :=
  let x : EthFrame :=
    { inPort := p, dst := f.dst, src := f.src, vid := f.vid, tagged := f.tagged, pcp := f.pcp, len := f.len,
      etype := f.etype, data := f.data, rtag := f.rtag }
  Switch.forward x s

/-- Every item whose tenor has ended is withdrawn (R366). -/
def tenors (s : State) : State :=
  let s := (List.range 128).foldl (fun s c => Switch.expireRx c s) (Switch.expire s)
  (List.range 16).foldl (fun s k => Bus.expire k s) s

/-- An attempt ends; a sleep that waited for it begins (R395, R431). -/
def attemptEnd (k : Nat) (o : CanOutcome) (s : State) : State :=
  let s := Bus.attemptEnd k o s
  if (s.can k).sleepAsked ∧ (s.can k).attempt = none then Sleep.canSleep k s else s

/-- A correctly received frame: a BLL or relay channel's, or the filters' (R402); on a controller that sleeps it counts as a
wake-up pattern (R434). -/
def canReceived (k : Nat) (f : CanFrame) (s : State) : State :=
  if Bus.listening s k f then
    let s := Bus.countReceived k s
    match Iso.channelOf s k f with
    | some c =>
      let y := Iso.receive c f.data s
      y.1.elim y.2 fun l => Bll.fromCan c l y.2
    | none => Bus.received k f s
  else if (s.can k).asleep then Sleep.canPattern k s
  else s

/-- FRAME_FORWARD_DECISION (R357). -/
def execFrameForwardDecision (p : Fin 9) (f : EthHead) (s : State) : Host.Outcome State Fault Refusal :=
  powered (arrive p f) s

/-- FRAME_RECEIVE_COMPLETE (R361). -/
def execFrameReceiveComplete (p : Fin 9) (good : Bool) (sec : MacsecResult)
    (s : State) : Host.Outcome State Fault Refusal :=
  powered (Switch.received p good sec) s

/-- EGRESS_TRANSMIT_START (R370). -/
def execEgressTransmitStart (p : Fin 12) (ecc : EccResult) (s : State) : Host.Outcome State Fault Refusal :=
  powered (Switch.start p ecc) s

/-- EGRESS_TRANSMIT_END (R363). -/
def execEgressTransmitEnd (p : Fin 12) (ctxs : List (Fin 128)) (s : State) : Host.Outcome State Fault Refusal :=
  powered (Switch.finish p ctxs) s

/-- TENOR_EXPIRY (R366). -/
def execTenorExpiry (s : State) : Host.Outcome State Fault Refusal :=
  powered tenors s

/-- GATE_ENTRY_CHANGE (R371). -/
def execGateEntryChange (p : Fin 8) (s : State) : Host.Outcome State Fault Refusal :=
  powered (Switch.gateChange p) s

/-- CONFIG_CHANGE (R373). -/
def execConfigChange (w : Writer) (p : Fin 8) (value : Nat) (s : State) : Host.Outcome State Fault Refusal :=
  run (Direct.entry w (0x6300 + p) 5 value) s

/-- CONFIG_CHANGE_TIME (R373). -/
def execConfigChangeTime (p : Fin 8) (s : State) : Host.Outcome State Fault Refusal :=
  powered (Switch.configTime p) s

/-- BULLION_WINDOW (R376). -/
def execBullionWindow (p : Fin 2) (s : State) : Host.Outcome State Fault Refusal :=
  powered (Switch.bullionWindow p) s

/-- RESERVATION_WRITE (R364). -/
def execReservationWrite (w : Writer) (egress : Bool) (i : Fin 12) (value : Nat)
    (s : State) : Host.Outcome State Fault Refusal :=
  run (Direct.entry w (if egress then 0x6101 else 0x6200 + i) (if egress then 1 + i else 1) value) s

/-- RECOVERY_RESET (R379). -/
def execRecoveryReset (k : Fin 64) (s : State) : Host.Outcome State Fault Refusal :=
  powered (Switch.recoveryReset k) s

/-- MACSEC_KEY_COMMIT (R380). -/
def execMacsecKeyCommit (w : Writer) (p : Fin 2) (value : Nat) (s : State) : Host.Outcome State Fault Refusal :=
  run (Direct.entry w (0x6000 + p) 0x14 value) s

/-- FDB_AGE_OUT (R384). -/
def execFdbAgeOut (mac : Nat) (s : State) : Host.Outcome State Fault Refusal :=
  powered (Switch.ageOut mac) s

/-- FDB_FLUSH (R384). -/
def execFdbFlush (w : Writer) (value : Nat) (s : State) : Host.Outcome State Fault Refusal :=
  run (Direct.entry w 0x6100 0x0C value) s

/-- AS_SYNC (R69). -/
def execAsSync (offset : Int) (s : State) : Host.Outcome State Fault Refusal :=
  powered (fun s => if s.supply.onBackup then s else Time.sync offset s) s

/-- SYNC_HOLDOVER (R548). -/
def execSyncHoldover (s : State) : Host.Outcome State Fault Refusal :=
  powered Time.holdover s

/-- LINK_UP (R383). -/
def execLinkUp (p : Fin 9) (s : State) : Host.Outcome State Fault Refusal :=
  powered (fun s => Sleep.linkUp p (Switch.linkUp p s)) s

/-- LINK_DOWN (R389). -/
def execLinkDown (p : Fin 9) (s : State) : Host.Outcome State Fault Refusal :=
  powered (Switch.linkDown p) s

/-- CAN_SLOT_REFILL (R395). -/
def execCanSlotRefill (k : Fin 16) (slot : Fin 3) (s : State) : Host.Outcome State Fault Refusal :=
  powered (Bus.refill k slot) s

/-- CAN_ATTEMPT_START (R396). -/
def execCanAttemptStart (k : Fin 16) (s : State) : Host.Outcome State Fault Refusal :=
  powered (Bus.attemptStart k) s

/-- CAN_ATTEMPT_END (R397). -/
def execCanAttemptEnd (k : Fin 16) (outcome : CanOutcome) (s : State) : Host.Outcome State Fault Refusal :=
  powered (attemptEnd k outcome) s

/-- CAN_FRAME_RECEIVED (R402). -/
def execCanFrameReceived (k : Fin 16) (f : CanFrame) (s : State) : Host.Outcome State Fault Refusal :=
  powered (canReceived k f) s

/-- BUS_OFF_RECOVER (R399). -/
def execBusOffRecover (w : Writer) (k : Fin 16) (value : Nat) (s : State) : Host.Outcome State Fault Refusal :=
  run (Direct.entry w (0x6400 + k) 0x0E value) s

/-- BUS_OFF_RECOVERY_DONE (R399). -/
def execBusOffRecoveryDone (k : Fin 16) (s : State) : Host.Outcome State Fault Refusal :=
  powered (Bus.recovered k) s

/-- CAN_INTEGRATION_DONE (R394). -/
def execCanIntegrationDone (k : Fin 16) (s : State) : Host.Outcome State Fault Refusal :=
  powered (Bus.integrated k) s

/-- CLASH_CLEAR (R401). -/
def execClashClear (w : Writer) (k : Fin 16) (value : Nat) (s : State) : Host.Outcome State Fault Refusal :=
  run (Direct.entry w (0x6400 + k) 0x0F value) s

/-- TRANSMIT_FRAME (R406). -/
def execTransmitFrame (w : Writer) (k : Fin 16) (value : List Byte) (s : State) : Host.Outcome State Fault Refusal :=
  run (Direct.post w (Direct.octetWrite (0x6400 + k) 0x0D value)) s

/-- TRANSCEIVER_FAULT (R418). -/
def execTransceiverFault (k : Fin 16) (present : Bool) (s : State) : Host.Outcome State Fault Refusal :=
  powered (Bus.transceiver k present) s

/-- GATEWAY_RECORD (R405). -/
def execGatewayRecord (s : State) : Host.Outcome State Fault Refusal :=
  powered Clients.gatewayRecord s

/-- LIN_SLOT (R410). -/
def execLinSlot (k : Fin 8) (s : State) : Host.Outcome State Fault Refusal :=
  powered (LinBus.startSlot k) s

/-- LIN_RESPONSE (R411). -/
def execLinResponse (k : Fin 8) (data : List Byte) (checksumOk : Bool) (s : State) : Host.Outcome State Fault Refusal :=
  powered (LinBus.response k data checksumOk) s

/-- LIN_NO_RESPONSE (R412). -/
def execLinNoResponse (k : Fin 8) (s : State) : Host.Outcome State Fault Refusal :=
  powered (LinBus.noResponse k) s

/-- LIN_HEADER (R412). -/
def execLinHeader (k : Fin 8) (ident : Fin 64) (syncOk : Bool) (s : State) : Host.Outcome State Fault Refusal :=
  powered (fun s => if s.supply.onBackup then s else LinBus.headerIn k ident syncOk s) s

/-- LIN_BUS_FAULT (R412). -/
def execLinBusFault (k : Fin 8) (held : Bool) (s : State) : Host.Outcome State Fault Refusal :=
  powered (LinBus.busFault k held) s

/-- SCHEDULE_SELECT (R410). -/
def execScheduleSelect (w : Writer) (k : Fin 8) (value : Nat) (s : State) : Host.Outcome State Fault Refusal :=
  run (Direct.entry w (0x6500 + k) 6 value) s

/-- SLEEP_COMMAND (R412). -/
def execSleepCommand (w : Writer) (k : Fin 8) (value : Nat) (s : State) : Host.Outcome State Fault Refusal :=
  run (Direct.entry w (0x6500 + k) 7 value) s

/-- PLCA_BEACON_LOSS (R414). -/
def execPlcaBeaconLoss (k : Fin 6) (s : State) : Host.Outcome State Fault Refusal :=
  powered (Plca.beaconLoss k) s

/-- PLCA_BEACON_RETURN (R414). -/
def execPlcaBeaconReturn (k : Fin 6) (s : State) : Host.Outcome State Fault Refusal :=
  powered (Plca.beaconReturn k) s

/-- T1S_COLLISION (R414). -/
def execT1sCollision (k : Fin 6) (s : State) : Host.Outcome State Fault Refusal :=
  powered (Plca.collision k) s

/-- PHY_FAULT (R418). -/
def execPhyFault (k : Fin 6) (present : Bool) (s : State) : Host.Outcome State Fault Refusal :=
  powered (Plca.phyFault k present) s

end Sys2Proof.Machine
end

