-- ==== Sys2Proof/Machine/ExecPaths.lean ====
section
/-! DEFINITION. The commands of the sequencer run-time: paths, mailbox, messages, locks, program loads, run control, tags and censuses (chapter 12). -/

namespace Sys2Proof.Machine

/-- A path access by a context that runs: the access alone, pc as it is. -/
def access (c : Nat) (f : State → State) (s : State) : State := if Seq.ready (s.ctx c) then f s else s

/-- SHARED_STORE_WRITEBACK (R323). -/
def execSharedStoreWriteback (e : Fin 32) (s : State) : Host.Outcome State Fault Refusal :=
  issued (Seq.writeback e) s

/-- PATH_LOAD_COMPLETE (R323). -/
def execPathLoadComplete (c : Fin 128) (s : State) : Host.Outcome State Fault Refusal :=
  issued (Path.loadComplete c) s

/-- CELL_PATH_COMMAND (R326). -/
def execCellPathCommand (c : Fin 128) (n : Fin 512) (value : Word) (s : State) : Host.Outcome State Fault Refusal :=
  powered (Path.takeAt c (BitVec.ofNat 32 (0x20000 + 16 * n)) value) s

/-- CELL_PATH_ACQUIRE (R327). -/
def execCellPathAcquire (c : Fin 128) (n : Fin 512) (s : State) : Host.Outcome State Fault Refusal :=
  powered (Path.takeAt c (BitVec.ofNat 32 (0x2000C + 16 * n)) 1) s

/-- CELL_PATH_RELEASE (R327). -/
def execCellPathRelease (c : Fin 128) (n : Fin 512) (s : State) : Host.Outcome State Fault Refusal :=
  powered (Path.takeAt c (BitVec.ofNat 32 (0x2000C + 16 * n)) 2) s

/-- OWNER_REQUEST_DONE (R327). -/
def execOwnerRequestDone (c : Fin 128) (s : State) : Host.Outcome State Fault Refusal :=
  issued (Path.ownerDone c) s

/-- ENGINE_WINDOW_STORE (R328). -/
def execEngineWindowStore (c : Fin 128) (addr value : Word) (s : State) : Host.Outcome State Fault Refusal :=
  powered (Path.takeAt c addr value) s

/-- TIMER_ARM (R329). -/
def execTimerArm (c : Fin 128) (value : Word) (s : State) : Host.Outcome State Fault Refusal :=
  issued (access c (Seq.timerArm c value)) s

/-- TIMER_FIRE (R329). -/
def execTimerFire (c : Fin 128) (s : State) : Host.Outcome State Fault Refusal :=
  issued (Seq.timerFire c) s

/-- LREQ_READ (R331). -/
def execLreqRead (c : Fin 128) (addr : BitVec 14) (s : State) : Host.Outcome State Fault Refusal :=
  issued (access c (Seq.lreq c 1 addr.toNat)) s

/-- LREQ_POSTING (R331). -/
def execLreqPosting (c : Fin 128) (addr : BitVec 14) (s : State) : Host.Outcome State Fault Refusal :=
  issued (access c (Seq.lreq c 2 addr.toNat)) s

/-- LREQ_PUBLISH (R332). -/
def execLreqPublish (c : Fin 128) (addr : BitVec 14) (s : State) : Host.Outcome State Fault Refusal :=
  issued (access c (Seq.lreq c 3 addr.toNat)) s

/-- LREQ_WRITE_OWN (R331). -/
def execLreqWriteOwn (c : Fin 128) (addr : BitVec 14) (s : State) : Host.Outcome State Fault Refusal :=
  issued (access c (Seq.lreq c 4 addr.toNat)) s

/-- LREQ_WITHDRAW (R332). -/
def execLreqWithdraw (c : Fin 128) (addr : BitVec 14) (s : State) : Host.Outcome State Fault Refusal :=
  issued (access c (Seq.lreq c 5 addr.toNat)) s

/-- MAILBOX_DONE (R331). -/
def execMailboxDone (c : Fin 128) (s : State) : Host.Outcome State Fault Refusal :=
  powered (Mail.complete c) s

/-- RXTAKE (R333). -/
def execRxtake (c : Fin 128) (addr : BitVec 14) (s : State) : Host.Outcome State Fault Refusal :=
  issued (access c (Seq.rxTake c addr.toNat)) s

/-- TXSEND (R334). -/
def execTxsend (c : Fin 128) (addr : BitVec 14) (len : Nat) (dest : Fin 128)
    (s : State) : Host.Outcome State Fault Refusal :=
  issued (access c (Seq.txSend c addr.toNat len dest)) s

/-- LOCK_LOAD (R335). -/
def execLockLoad (c : Fin 128) (i : Fin 32) (gd : Fin 8) (s : State) : Host.Outcome State Fault Refusal :=
  issued (access c fun s => let r := Seq.lockLoad c i s; Seq.setReg c gd r.1 r.2) s

/-- LOCK_RELEASE (R335). -/
def execLockRelease (c : Fin 128) (i : Fin 32) (s : State) : Host.Outcome State Fault Refusal :=
  issued (access c (Seq.lockStore c i 0)) s

/-- LOAD_BEGIN (R337). -/
def execLoadBegin (w : Writer) (s : State) : Host.Outcome State Fault Refusal :=
  run (Direct.entry w 0x5200 7 1) s

/-- LOAD_COMMIT (R337). -/
def execLoadCommit (w : Writer) (s : State) : Host.Outcome State Fault Refusal :=
  run (Direct.entry w 0x5200 7 2) s

/-- LOAD_ABORT (R337). -/
def execLoadAbort (w : Writer) (s : State) : Host.Outcome State Fault Refusal :=
  run (Direct.entry w 0x5200 7 3) s

/-- LOAD_DATA (R337). -/
def execLoadData (w : Writer) (data : List Byte) (s : State) : Host.Outcome State Fault Refusal :=
  run (Direct.post w (Direct.octetWrite 0x5200 4 data)) s

/-- RUN_STOP (R341). -/
def execRunStop (w : Writer) (c : Fin 128) (s : State) : Host.Outcome State Fault Refusal :=
  run (Direct.entry w (0x5100 + c) 0x0C 0) s

/-- RUN_START (R340). -/
def execRunStart (w : Writer) (c : Fin 128) (s : State) : Host.Outcome State Fault Refusal :=
  run (Direct.entry w (0x5100 + c) 0x0C 1) s

/-- RUN_RESTART (R340). -/
def execRunRestart (w : Writer) (c : Fin 128) (s : State) : Host.Outcome State Fault Refusal :=
  run (Direct.entry w (0x5100 + c) 0x0C 2) s

/-- TAG_ARM (R350). -/
def execTagArm (w : Writer) (e : Fin 32) (value : Nat) (s : State) : Host.Outcome State Fault Refusal :=
  run (Direct.entry w (0x5400 + e) 0x18 value) s

/-- CENSUS_START (R351). -/
def execCensusStart (w : Writer) (e : Fin 32) (s : State) : Host.Outcome State Fault Refusal :=
  run (Direct.entry w (0x5480 + e) 1 1) s

/-- CENSUS_END (R351). -/
def execCensusEnd (w : Option Writer) (e : Fin 32) (s : State) : Host.Outcome State Fault Refusal :=
  run (match w with | some w => Direct.entry w (0x5480 + e) 1 0 | none => fun s => if 2 ≤ s.power then Perf.censusExpire e s else s)
    s

end Sys2Proof.Machine
end

