-- ==== Sys2Proof/Machine/ExecSleep.lean ====
section
/-! DEFINITION. The commands of sleep and wake: requests, tally messages, rounds and wake sources (chapter 15). -/

namespace Sys2Proof.Machine

/-- A poll of a wake input in Sleep, which wakes the module once confirmed (R290, R433). -/
def inputPoll (n : Nat) (pin : Int) (s : State) : State :=
  let y := Inputs.wakePoll n pin s
  if y.2 then Sleep.localSource 1 n y.1 else y.1

/-- POWER_REQUEST_SLEEP (R424). -/
def execPowerRequestSleep (w : Writer) (s : State) : Host.Outcome State Fault Refusal :=
  run (Direct.entry w 0x1300 2 1) s

/-- POWER_REQUEST_STANDBY (R424). -/
def execPowerRequestStandby (w : Writer) (s : State) : Host.Outcome State Fault Refusal :=
  run (Direct.entry w 0x1300 2 2) s

/-- POWER_REQUEST_RUN (R424). -/
def execPowerRequestRun (w : Writer) (s : State) : Host.Outcome State Fault Refusal :=
  run (Direct.entry w 0x1300 2 3) s

/-- ROUND_START (R426). -/
def execRoundStart (w : Writer) (value : Nat) (s : State) : Host.Outcome State Fault Refusal :=
  run (Direct.entry w 0x6800 0x0C value) s

/-- KEEP_AWAKE (R421). -/
def execKeepAwake (w : Writer) (value : Nat) (s : State) : Host.Outcome State Fault Refusal :=
  run (Direct.entry w 0x6800 0x0B value) s

/-- CONSENT (R426). -/
def execTallyConsent (m : TallyMsg) (s : State) : Host.Outcome State Fault Refusal :=
  powered (Sleep.receive 2 m (Sleep.onConsent m)) s

/-- REFUSE (R426). -/
def execTallyRefuse (m : TallyMsg) (s : State) : Host.Outcome State Fault Refusal :=
  powered (Sleep.receive 3 m (Sleep.onRefuse m)) s

/-- SEAL (R428). -/
def execTallySeal (m : TallyMsg) (s : State) : Host.Outcome State Fault Refusal :=
  powered (Sleep.receive 4 m (Sleep.onSeal m)) s

/-- ABORT (R430). -/
def execTallyAbort (m : TallyMsg) (s : State) : Host.Outcome State Fault Refusal :=
  powered (Sleep.receive 5 m (Sleep.onAbort m)) s

/-- WAKE (R436). -/
def execTallyWake (m : TallyMsg) (s : State) : Host.Outcome State Fault Refusal :=
  powered (Sleep.receive 6 m (Sleep.onWake m)) s

/-- TALLY_CALL (R425). -/
def execTallyCall (m : TallyMsg) (s : State) : Host.Outcome State Fault Refusal :=
  powered (Sleep.receive 1 m (Sleep.onCall m)) s

/-- TALLY_AUTH (R423). -/
def execTallyAuth (type : Nat) (m : TallyMsg) (s : State) : Host.Outcome State Fault Refusal :=
  powered (Sleep.receive type m id) s

/-- ROUND_TIMEOUT (R426). -/
def execRoundTimeout (s : State) : Host.Outcome State Fault Refusal :=
  powered Sleep.timeout s

/-- ROUND_RETRY (R427). -/
def execRoundRetry (s : State) : Host.Outcome State Fault Refusal :=
  powered Sleep.retry s

/-- SEAL_END (R431). -/
def execSealEnd (s : State) : Host.Outcome State Fault Refusal :=
  powered Sleep.sealEnd s

/-- SEAL_MISSED (R432). -/
def execSealMissed (s : State) : Host.Outcome State Fault Refusal :=
  powered Sleep.sealMissed s

/-- TC10_SLEEP_TIMEOUT (R431). -/
def execTc10SleepTimeout (p : Fin 2) (s : State) : Host.Outcome State Fault Refusal :=
  powered (Sleep.tc10Timeout p) s

/-- POWER_ENTRY_COMPLETE (R533). -/
def execPowerEntryComplete (s : State) : Host.Outcome State Fault Refusal :=
  powered Power.entered s

/-- WAKE_INPUT_POLL (R290). -/
def execWakeInputPoll (n : Fin 64) (pin : Int) (s : State) : Host.Outcome State Fault Refusal :=
  run (inputPoll n pin) s

/-- A handle input is read: CapWake enables it, or the access engine uses it in Run (R434, R442). -/
def handleRead (i : Nat) (s : State) : Bool := decide (1 ≤ s.power) && (s.rdBit 0x6804 (0x11 + i) 0 || Access.touchCounts i s)

/-- A poll of a handle input; one that confirms a touch wakes the module and starts an access request. -/
def handlePoll (i r : Nat) (s : State) : State :=
  if handleRead i s then
    let y := Sleep.capPoll i r s
    if y.1 then Access.touch i (Sleep.handle i y.2) else y.2
  else s

/-- HANDLE_TOUCH (R434). -/
def execHandleTouch (x : HandleReading) (s : State) : Host.Outcome State Fault Refusal :=
  run (handlePoll x.input x.value) s

/-- CAN_WAKE_PATTERN (R434). -/
def execCanWakePattern (k : Fin 16) (s : State) : Host.Outcome State Fault Refusal :=
  run (Sleep.canPattern k) s

/-- CAN_WAKE_FRAME (R434). -/
def execCanWakeFrame (k : Fin 4) (f : CanFrame) (s : State) : Host.Outcome State Fault Refusal :=
  run (Sleep.canFrame k f) s

/-- CAN_FRAME_ERRORS (R434). -/
def execCanFrameErrors (k : Fin 4) (s : State) : Host.Outcome State Fault Refusal :=
  run (Sleep.canErrors k) s

/-- LIN_WAKE_SIGNAL (R434). -/
def execLinWakeSignal (k : Fin 8) (s : State) : Host.Outcome State Fault Refusal :=
  run (Sleep.linSignal k) s

/-- T1S_ACTIVITY (R434). -/
def execT1sActivity (k : Fin 6) (s : State) : Host.Outcome State Fault Refusal :=
  run (Sleep.t1sActivity k) s

/-- TC10_WAKE_REQUEST (R434). -/
def execTc10WakeRequest (p : Fin 2) (s : State) : Host.Outcome State Fault Refusal :=
  run (Sleep.tc10Wake p) s

/-- WAKE_ALARM (R434). -/
def execWakeAlarm (s : State) : Host.Outcome State Fault Refusal :=
  run Sleep.alarm s

/-- SERVICE_LINK_WAKE (R433). -/
def execServiceLinkWake (s : State) : Host.Outcome State Fault Refusal :=
  run Sleep.serviceLink s

/-- WAKE_OUT_PULSE_END (R435). -/
def execWakeOutPulseEnd (s : State) : Host.Outcome State Fault Refusal :=
  run Sleep.pulseEnd s

end Sys2Proof.Machine
end

