-- ==== Sys2Proof/Machine/ExecUpdate.lean ====
section
/-! DEFINITION. The commands of field update, supplies, clocks and reset (chapters 18 and 19). -/

namespace Sys2Proof.Machine

/-- UPDATE_BEGIN (R497). -/
def execUpdateBegin (w : Writer) (s : State) : Host.Outcome State Fault Refusal :=
  run (Direct.entry w 0x7C00 2 1) s

/-- UPDATE_FINISH (R493). -/
def execUpdateFinish (w : Writer) (s : State) : Host.Outcome State Fault Refusal :=
  run (Direct.entry w 0x7C00 2 2) s

/-- UPDATE_DISCARD (R497). -/
def execUpdateDiscard (w : Writer) (s : State) : Host.Outcome State Fault Refusal :=
  run (Direct.entry w 0x7C00 2 5) s

/-- STAGE_DATA (R498). -/
def execStageData (w : Writer) (data : List Byte) (s : State) : Host.Outcome State Fault Refusal :=
  run (Direct.post w (Direct.octetWrite 0x7C00 4 data)) s

/-- STAGE_BURST_COMPLETE (R498). -/
def execStageBurstComplete (s : State) : Host.Outcome State Fault Refusal :=
  powered Clients.stageComplete s

/-- MANIFEST_CHECK_COMPLETE (R497). -/
def execManifestCheckComplete (s : State) : Host.Outcome State Fault Refusal :=
  powered Upd.checked s

/-- BUILD_BURST_COMPLETE (R499). -/
def execBuildBurstComplete (s : State) : Host.Outcome State Fault Refusal :=
  powered Upd.burst s

/-- BUILD_LOAN_RETRY (R499). -/
def execBuildLoanRetry (s : State) : Host.Outcome State Fault Refusal :=
  powered Upd.buildRetry s

/-- ACTIVATION_SCHEDULE (R501). -/
def execActivationSchedule (w : Writer) (s : State) : Host.Outcome State Fault Refusal :=
  run (Direct.entry w 0x7C00 7 1) s

/-- ACTIVATION_CANCEL (R501). -/
def execActivationCancel (w : Writer) (s : State) : Host.Outcome State Fault Refusal :=
  run (Direct.entry w 0x7C00 7 2) s

/-- ACTIVATION_TICK (R504). -/
def execActivationTick (s : State) : Host.Outcome State Fault Refusal :=
  powered Upd.tick s

/-- ACTIVATION_HASH_DONE (R505). -/
def execActivationHashDone (s : State) : Host.Outcome State Fault Refusal :=
  powered Upd.hashDone s

/-- ACTIVATION_START_DONE (R507). -/
def execActivationStartDone (failed : Option (Nat × Nat)) (s : State) : Host.Outcome State Fault Refusal :=
  powered (Upd.startDone failed) s

/-- FALLBACK_DONE (R508). -/
def execFallbackDone (s : State) : Host.Outcome State Fault Refusal :=
  powered Upd.fallback s

/-- RESET_N_ASSERT (R528). -/
def execResetNAssert (s : State) : Host.Outcome State Fault Refusal :=
  run Power.reset s

/-- POWER_UP_START (R529). -/
def execPowerUpStart (ka vloga vlogb : Nat) (s : State) : Host.Outcome State Fault Refusal :=
  run (Power.start ka vloga vlogb) s

/-- LOGIC_SUPPLY_LOST (R522). -/
def execLogicSupplyLost (s : State) : Host.Outcome State Fault Refusal :=
  run Power.logicLost s

/-- SUPPLY_THRESHOLD (R521). -/
def execSupplyThreshold (pin : SupplyPin) (millivolts : Nat) (s : State) : Host.Outcome State Fault Refusal :=
  run (Power.threshold pin millivolts) s

/-- REF_CLOCK_LOSS (R526). -/
def execRefClockLoss (s : State) : Host.Outcome State Fault Refusal :=
  powered Power.refLost s

/-- REF_CLOCK_RETURN (R526). -/
def execRefClockReturn (s : State) : Host.Outcome State Fault Refusal :=
  powered Power.refBack s

/-- RTC_CLOCK_LOSS (R527). -/
def execRtcClockLoss (s : State) : Host.Outcome State Fault Refusal :=
  run Power.rtcLost s

/-- BOARDNET_MISMATCH (R536). -/
def execBoardnetMismatch (s : State) : Host.Outcome State Fault Refusal :=
  powered Power.boardnet s

/-- BASEPLATE_SENSOR (R538). -/
def execBaseplateSensor (t0 t1 : Int) (s : State) : Host.Outcome State Fault Refusal :=
  powered (Power.sensor t0 t1) s

/-- BASEPLATE_DERATE (R197). -/
def execBaseplateDerate (t0 t1 : Int) (s : State) : Host.Outcome State Fault Refusal :=
  powered (Power.derate t0 t1) s

end Sys2Proof.Machine
end

