-- ==== Sys2Proof/Machine/Dispatch.lean ====
section
/-! DEFINITION. The commands of the block and their meanings, one arm per constructor. -/

namespace Sys2Proof.Machine

def exec (i : Instr) (s : State) : Host.Outcome State Fault Refusal :=
  match i with
  | .bllOpen o f => Sys2Proof.Machine.execBllOpen o f s
  | .openLockoutEnd source addr => Sys2Proof.Machine.execOpenLockoutEnd source addr s
  | .bllProve o f => Sys2Proof.Machine.execBllProve o f s
  | .proveTimeout k => Sys2Proof.Machine.execProveTimeout k s
  | .bllRead o f => Sys2Proof.Machine.execBllRead o f s
  | .bllWrite o f => Sys2Proof.Machine.execBllWrite o f s
  | .bllSubscribe o f => Sys2Proof.Machine.execBllSubscribe o f s
  | .bllUnsubscribe o f => Sys2Proof.Machine.execBllUnsubscribe o f s
  | .bllKeepalive o f => Sys2Proof.Machine.execBllKeepalive o f s
  | .bllClose o f => Sys2Proof.Machine.execBllClose o f s
  | .idleTimeout k => Sys2Proof.Machine.execIdleTimeout k s
  | .notifyInterval k sub => Sys2Proof.Machine.execNotifyInterval k sub s
  | .serviceResume => Sys2Proof.Machine.execServiceResume s
  | .proxyTimeout k => Sys2Proof.Machine.execProxyTimeout k s
  | .relayResponse bus device tag type status position items => Sys2Proof.Machine.execRelayResponse bus device tag type status position items s
  | .entryWrite w x => Sys2Proof.Machine.execEntryWrite w x s
  | .functionStateWrite w cls inst value => Sys2Proof.Machine.execFunctionStateWrite w cls inst value s
  | .parameterStoreComplete => Sys2Proof.Machine.execParameterStoreComplete s
  | .persistStoreRetry => Sys2Proof.Machine.execPersistStoreRetry s
  | .cellOwnerWrite w n owner => Sys2Proof.Machine.execCellOwnerWrite w n owner s
  | .cellCommandWrite w n cmd => Sys2Proof.Machine.execCellCommandWrite w n cmd s
  | .pwmDutyWrite w n duty => Sys2Proof.Machine.execPwmDutyWrite w n duty s
  | .setModuleTime w time => Sys2Proof.Machine.execSetModuleTime w time s
  | .keySlotWrite w slot binding value => Sys2Proof.Machine.execKeySlotWrite w slot binding value s
  | .addressWrite w which value => Sys2Proof.Machine.execAddressWrite w which value s
  | .countersClear w index value => Sys2Proof.Machine.execCountersClear w index value s
  | .tellerScan => Sys2Proof.Machine.execTellerScan s
  | .patienceExpired requester => Sys2Proof.Machine.execPatienceExpired requester s
  | .loanDurationEnd slot => Sys2Proof.Machine.execLoanDurationEnd slot s
  | .limitEngage n => Sys2Proof.Machine.execLimitEngage n s
  | .thermalShutdown n current => Sys2Proof.Machine.execThermalShutdown n current s
  | .thermalRecover n => Sys2Proof.Machine.execThermalRecover n s
  | .limitDwellExpiry n current => Sys2Proof.Machine.execLimitDwellExpiry n current s
  | .retrySpacingExpiry n => Sys2Proof.Machine.execRetrySpacingExpiry n s
  | .cellSample set supply logicMa => Sys2Proof.Machine.execCellSample set supply logicMa s
  | .temperatureSample set => Sys2Proof.Machine.execTemperatureSample set s
  | .supplyOffEnter b => Sys2Proof.Machine.execSupplyOffEnter b s
  | .supplyOffEnd b => Sys2Proof.Machine.execSupplyOffEnd b s
  | .bankLogicPowerLoss b => Sys2Proof.Machine.execBankLogicPowerLoss b s
  | .bankLogicReturn b => Sys2Proof.Machine.execBankLogicReturn b s
  | .proofRequest w n value => Sys2Proof.Machine.execProofRequest w n value s
  | .proofStart n => Sys2Proof.Machine.execProofStart n s
  | .proofComplete n v25 v50 => Sys2Proof.Machine.execProofComplete n v25 v50 s
  | .offDiagCycle n => Sys2Proof.Machine.execOffDiagCycle n s
  | .offDiagEvaluate n pin partner => Sys2Proof.Machine.execOffDiagEvaluate n pin partner s
  | .stuckHighConfirm n => Sys2Proof.Machine.execStuckHighConfirm n s
  | .wiredOrConfirm a n => Sys2Proof.Machine.execWiredOrConfirm a n s
  | .openOnConfirm n => Sys2Proof.Machine.execOpenOnConfirm n s
  | .bankCommandSlot b corrupt => Sys2Proof.Machine.execBankCommandSlot b corrupt s
  | .heartbeat => Sys2Proof.Machine.execHeartbeat s
  | .heartbeatLost b => Sys2Proof.Machine.execHeartbeatLost b s
  | .timeAligned b err => Sys2Proof.Machine.execTimeAligned b err s
  | .clockFault b hz => Sys2Proof.Machine.execClockFault b hz s
  | .overvoltage b millivolts => Sys2Proof.Machine.execOvervoltage b millivolts s
  | .imbalanceConfirm g => Sys2Proof.Machine.execImbalanceConfirm g s
  | .takeoverDeadline g => Sys2Proof.Machine.execTakeoverDeadline g s
  | .takeoverRetry g => Sys2Proof.Machine.execTakeoverRetry g s
  | .pwmPeriodStart n => Sys2Proof.Machine.execPwmPeriodStart n s
  | .pwmOnEnd n => Sys2Proof.Machine.execPwmOnEnd n s
  | .inrushWindowEnd n => Sys2Proof.Machine.execInrushWindowEnd n s
  | .coilEnergise w e k => Sys2Proof.Machine.execCoilEnergise w e k s
  | .coilRelease w e k => Sys2Proof.Machine.execCoilRelease w e k s
  | .coilScheduleTime e k => Sys2Proof.Machine.execCoilScheduleTime e k s
  | .ttpMaxExpiry e k => Sys2Proof.Machine.execTtpMaxExpiry e k s
  | .peakDwellEnd e k => Sys2Proof.Machine.execPeakDwellEnd e k s
  | .regulationFault e k => Sys2Proof.Machine.execRegulationFault e k s
  | .deferralExpiry e k => Sys2Proof.Machine.execDeferralExpiry e k s
  | .minOffEnd e k => Sys2Proof.Machine.execMinOffEnd e k s
  | .eventLengthEnd e k => Sys2Proof.Machine.execEventLengthEnd e k s
  | .switchedRearm e k => Sys2Proof.Machine.execSwitchedRearm e k s
  | .dutyBudgetExhausted e k => Sys2Proof.Machine.execDutyBudgetExhausted e k s
  | .tripPauseEnd e k => Sys2Proof.Machine.execTripPauseEnd e k s
  | .slotRearm w e k value => Sys2Proof.Machine.execSlotRearm w e k value s
  | .sampleBoundary e => Sys2Proof.Machine.execSampleBoundary e s
  | .loopStop w e => Sys2Proof.Machine.execLoopStop w e s
  | .loopRun w e => Sys2Proof.Machine.execLoopRun w e s
  | .loopHold w e => Sys2Proof.Machine.execLoopHold w e s
  | .controlModeWrite w e mode => Sys2Proof.Machine.execControlModeWrite w e mode s
  | .lagConfirm e => Sys2Proof.Machine.execLagConfirm e s
  | .trackConfirm e => Sys2Proof.Machine.execTrackConfirm e s
  | .externalFeedbackTimeout e => Sys2Proof.Machine.execExternalFeedbackTimeout e s
  | .inputLevelAccept n => Sys2Proof.Machine.execInputLevelAccept n s
  | .wettingPulse n pin => Sys2Proof.Machine.execWettingPulse n pin s
  | .wireBreakPhase n => Sys2Proof.Machine.execWireBreakPhase n s
  | .wireBreakResult n => Sys2Proof.Machine.execWireBreakResult n s
  | .counterEdge n rising => Sys2Proof.Machine.execCounterEdge n rising s
  | .counterLoad w n value => Sys2Proof.Machine.execCounterLoad w n value s
  | .fieldSupplyChange b => Sys2Proof.Machine.execFieldSupplyChange b s
  | .sqNop c => Sys2Proof.Machine.execSqNop c s
  | .sqRet c => Sys2Proof.Machine.execSqRet c s
  | .sqRti c => Sys2Proof.Machine.execSqRti c s
  | .sqYield c => Sys2Proof.Machine.execSqYield c s
  | .sqWait c g => Sys2Proof.Machine.execSqWait c g s
  | .waitWake c => Sys2Proof.Machine.execWaitWake c s
  | .sqSwi c n => Sys2Proof.Machine.execSqSwi c n s
  | .sqBrk c => Sys2Proof.Machine.execSqBrk c s
  | .sqAdd c gd gs => Sys2Proof.Machine.execSqAdd c gd gs s
  | .sqSub c gd gs => Sys2Proof.Machine.execSqSub c gd gs s
  | .sqAnd c gd gs => Sys2Proof.Machine.execSqAnd c gd gs s
  | .sqOr c gd gs => Sys2Proof.Machine.execSqOr c gd gs s
  | .sqXor c gd gs => Sys2Proof.Machine.execSqXor c gd gs s
  | .sqShl c gd gs => Sys2Proof.Machine.execSqShl c gd gs s
  | .sqShr c gd gs => Sys2Proof.Machine.execSqShr c gd gs s
  | .sqSar c gd gs => Sys2Proof.Machine.execSqSar c gd gs s
  | .sqAddi c gd imm => Sys2Proof.Machine.execSqAddi c gd imm s
  | .sqSubi c gd imm => Sys2Proof.Machine.execSqSubi c gd imm s
  | .sqAndi c gd imm => Sys2Proof.Machine.execSqAndi c gd imm s
  | .sqOri c gd imm => Sys2Proof.Machine.execSqOri c gd imm s
  | .sqXori c gd imm => Sys2Proof.Machine.execSqXori c gd imm s
  | .sqShli c gd n => Sys2Proof.Machine.execSqShli c gd n s
  | .sqShri c gd n => Sys2Proof.Machine.execSqShri c gd n s
  | .sqSari c gd n => Sys2Proof.Machine.execSqSari c gd n s
  | .sqMov c gd gs => Sys2Proof.Machine.execSqMov c gd gs s
  | .sqCmp c gd gs => Sys2Proof.Machine.execSqCmp c gd gs s
  | .sqTst c gd gs => Sys2Proof.Machine.execSqTst c gd gs s
  | .sqNeg c gd gs => Sys2Proof.Machine.execSqNeg c gd gs s
  | .sqNot c gd gs => Sys2Proof.Machine.execSqNot c gd gs s
  | .sqLdi c gd imm => Sys2Proof.Machine.execSqLdi c gd imm s
  | .sqCmpi c gd imm => Sys2Proof.Machine.execSqCmpi c gd imm s
  | .sqMul c gd gs => Sys2Proof.Machine.execSqMul c gd gs s
  | .sqMulhs c gd gs => Sys2Proof.Machine.execSqMulhs c gd gs s
  | .sqMulhu c gd gs => Sys2Proof.Machine.execSqMulhu c gd gs s
  | .sqAdc c gd gs => Sys2Proof.Machine.execSqAdc c gd gs s
  | .sqSbc c gd gs => Sys2Proof.Machine.execSqSbc c gd gs s
  | .sqRol c gd gs => Sys2Proof.Machine.execSqRol c gd gs s
  | .sqRor c gd gs => Sys2Proof.Machine.execSqRor c gd gs s
  | .sqDiv c gd gs => Sys2Proof.Machine.execSqDiv c gd gs s
  | .sqDivu c gd gs => Sys2Proof.Machine.execSqDivu c gd gs s
  | .sqRem c gd gs => Sys2Proof.Machine.execSqRem c gd gs s
  | .sqRemu c gd gs => Sys2Proof.Machine.execSqRemu c gd gs s
  | .sqMin c gd gs => Sys2Proof.Machine.execSqMin c gd gs s
  | .sqMax c gd gs => Sys2Proof.Machine.execSqMax c gd gs s
  | .sqMinu c gd gs => Sys2Proof.Machine.execSqMinu c gd gs s
  | .sqMaxu c gd gs => Sys2Proof.Machine.execSqMaxu c gd gs s
  | .sqLdil c gd imm => Sys2Proof.Machine.execSqLdil c gd imm s
  | .sqAddx c gd imm => Sys2Proof.Machine.execSqAddx c gd imm s
  | .sqSubx c gd imm => Sys2Proof.Machine.execSqSubx c gd imm s
  | .sqAndx c gd imm => Sys2Proof.Machine.execSqAndx c gd imm s
  | .sqOrx c gd imm => Sys2Proof.Machine.execSqOrx c gd imm s
  | .sqXorx c gd imm => Sys2Proof.Machine.execSqXorx c gd imm s
  | .sqCmpx c gd imm => Sys2Proof.Machine.execSqCmpx c gd imm s
  | .sqTstx c gd imm => Sys2Proof.Machine.execSqTstx c gd imm s
  | .sqLdix c gd imm => Sys2Proof.Machine.execSqLdix c gd imm s
  | .sqRev c gd gs => Sys2Proof.Machine.execSqRev c gd gs s
  | .sqRevb c gd gs => Sys2Proof.Machine.execSqRevb c gd gs s
  | .sqBswap c gd gs => Sys2Proof.Machine.execSqBswap c gd gs s
  | .sqPar c gd gs => Sys2Proof.Machine.execSqPar c gd gs s
  | .sqClz c gd gs => Sys2Proof.Machine.execSqClz c gd gs s
  | .sqPopc c gd gs => Sys2Proof.Machine.execSqPopc c gd gs s
  | .sqSxb c gd gs => Sys2Proof.Machine.execSqSxb c gd gs s
  | .sqSxh c gd gs => Sys2Proof.Machine.execSqSxh c gd gs s
  | .sqBset c gd lsb => Sys2Proof.Machine.execSqBset c gd lsb s
  | .sqBclr c gd lsb => Sys2Proof.Machine.execSqBclr c gd lsb s
  | .sqBtgl c gd lsb => Sys2Proof.Machine.execSqBtgl c gd lsb s
  | .sqBtst c gd lsb => Sys2Proof.Machine.execSqBtst c gd lsb s
  | .sqExtu c gd gs lsb width1 => Sys2Proof.Machine.execSqExtu c gd gs lsb width1 s
  | .sqExts c gd gs lsb width1 => Sys2Proof.Machine.execSqExts c gd gs lsb width1 s
  | .sqIns c gd gs lsb width1 => Sys2Proof.Machine.execSqIns c gd gs lsb width1 s
  | .sqCrc8 c gd gs => Sys2Proof.Machine.execSqCrc8 c gd gs s
  | .sqCrc16 c gd gs => Sys2Proof.Machine.execSqCrc16 c gd gs s
  | .sqCrc32 c gd gs => Sys2Proof.Machine.execSqCrc32 c gd gs s
  | .sqCrc32w c gd gs => Sys2Proof.Machine.execSqCrc32w c gd gs s
  | .sqCrc8m c gd gs => Sys2Proof.Machine.execSqCrc8m c gd gs s
  | .sqCrc16m c gd gs => Sys2Proof.Machine.execSqCrc16m c gd gs s
  | .sqCrc32m c gd gs => Sys2Proof.Machine.execSqCrc32m c gd gs s
  | .sqLdw c gd gb => Sys2Proof.Machine.execSqLdw c gd gb s
  | .sqLdwDisp c gd gb d => Sys2Proof.Machine.execSqLdwDisp c gd gb d s
  | .sqLdwPost c gd gb => Sys2Proof.Machine.execSqLdwPost c gd gb s
  | .sqLdwPre c gd gb => Sys2Proof.Machine.execSqLdwPre c gd gb s
  | .sqStw c gs gb => Sys2Proof.Machine.execSqStw c gs gb s
  | .sqStwDisp c gs gb d => Sys2Proof.Machine.execSqStwDisp c gs gb d s
  | .sqStwPost c gs gb => Sys2Proof.Machine.execSqStwPost c gs gb s
  | .sqStwPre c gs gb => Sys2Proof.Machine.execSqStwPre c gs gb s
  | .sqLdb c gd gb d => Sys2Proof.Machine.execSqLdb c gd gb d s
  | .sqLdbs c gd gb d => Sys2Proof.Machine.execSqLdbs c gd gb d s
  | .sqLdh c gd gb d => Sys2Proof.Machine.execSqLdh c gd gb d s
  | .sqLdhs c gd gb d => Sys2Proof.Machine.execSqLdhs c gd gb d s
  | .sqStb c gs gb d => Sys2Proof.Machine.execSqStb c gs gb d s
  | .sqSth c gs gb d => Sys2Proof.Machine.execSqSth c gs gb d s
  | .sqLdbp c gd gb => Sys2Proof.Machine.execSqLdbp c gd gb s
  | .sqStbp c gs gb => Sys2Proof.Machine.execSqStbp c gs gb s
  | .sqLdwd c gd gb d => Sys2Proof.Machine.execSqLdwd c gd gb d s
  | .sqStwd c gs gb d => Sys2Proof.Machine.execSqStwd c gs gb d s
  | .sqLdwx c gd gb gi => Sys2Proof.Machine.execSqLdwx c gd gb gi s
  | .sqStwx c gs gb gi => Sys2Proof.Machine.execSqStwx c gs gb gi s
  | .sqLdbx c gd gb gi => Sys2Proof.Machine.execSqLdbx c gd gb gi s
  | .sqStbx c gs gb gi => Sys2Proof.Machine.execSqStbx c gs gb gi s
  | .sqBranch c cond off => Sys2Proof.Machine.execSqBranch c cond off s
  | .sqBranchX c cond off => Sys2Proof.Machine.execSqBranchX c cond off s
  | .sqCall c addr => Sys2Proof.Machine.execSqCall c addr s
  | .sqJmp c addr => Sys2Proof.Machine.execSqJmp c addr s
  | .sqCallr c gs => Sys2Proof.Machine.execSqCallr c gs s
  | .sqJmpr c gs => Sys2Proof.Machine.execSqJmpr c gs s
  | .sqCallx c addr => Sys2Proof.Machine.execSqCallx c addr s
  | .sqJmpx c addr => Sys2Proof.Machine.execSqJmpx c addr s
  | .sqPush c gs => Sys2Proof.Machine.execSqPush c gs s
  | .sqPop c gd => Sys2Proof.Machine.execSqPop c gd s
  | .sqPushm c mask => Sys2Proof.Machine.execSqPushm c mask s
  | .sqPopm c mask => Sys2Proof.Machine.execSqPopm c mask s
  | .sqAddsp c imm => Sys2Proof.Machine.execSqAddsp c imm s
  | .sqGetsp c gd => Sys2Proof.Machine.execSqGetsp c gd s
  | .sqSetsp c gs => Sys2Proof.Machine.execSqSetsp c gs s
  | .sqRep c gc stopAfter => Sys2Proof.Machine.execSqRep c gc stopAfter s
  | .sqRepi c n stopAfter => Sys2Proof.Machine.execSqRepi c n stopAfter s
  | .sqMfs c g reg => Sys2Proof.Machine.execSqMfs c g reg s
  | .sqMts c g reg => Sys2Proof.Machine.execSqMts c g reg s
  | .sharedStoreWriteback e => Sys2Proof.Machine.execSharedStoreWriteback e s
  | .pathLoadComplete c => Sys2Proof.Machine.execPathLoadComplete c s
  | .cellPathCommand c n value => Sys2Proof.Machine.execCellPathCommand c n value s
  | .cellPathAcquire c n => Sys2Proof.Machine.execCellPathAcquire c n s
  | .cellPathRelease c n => Sys2Proof.Machine.execCellPathRelease c n s
  | .ownerRequestDone c => Sys2Proof.Machine.execOwnerRequestDone c s
  | .engineWindowStore c addr value => Sys2Proof.Machine.execEngineWindowStore c addr value s
  | .timerArm c value => Sys2Proof.Machine.execTimerArm c value s
  | .timerFire c => Sys2Proof.Machine.execTimerFire c s
  | .lreqRead c addr => Sys2Proof.Machine.execLreqRead c addr s
  | .lreqPosting c addr => Sys2Proof.Machine.execLreqPosting c addr s
  | .lreqPublish c addr => Sys2Proof.Machine.execLreqPublish c addr s
  | .lreqWriteOwn c addr => Sys2Proof.Machine.execLreqWriteOwn c addr s
  | .lreqWithdraw c addr => Sys2Proof.Machine.execLreqWithdraw c addr s
  | .mailboxDone c => Sys2Proof.Machine.execMailboxDone c s
  | .rxtake c addr => Sys2Proof.Machine.execRxtake c addr s
  | .txsend c addr len dest => Sys2Proof.Machine.execTxsend c addr len dest s
  | .lockLoad c x gd => Sys2Proof.Machine.execLockLoad c x gd s
  | .lockRelease c x => Sys2Proof.Machine.execLockRelease c x s
  | .loadBegin w => Sys2Proof.Machine.execLoadBegin w s
  | .loadData w data => Sys2Proof.Machine.execLoadData w data s
  | .loadCommit w => Sys2Proof.Machine.execLoadCommit w s
  | .loadAbort w => Sys2Proof.Machine.execLoadAbort w s
  | .runStop w c => Sys2Proof.Machine.execRunStop w c s
  | .runStart w c => Sys2Proof.Machine.execRunStart w c s
  | .runRestart w c => Sys2Proof.Machine.execRunRestart w c s
  | .tagArm w e value => Sys2Proof.Machine.execTagArm w e value s
  | .censusStart w e => Sys2Proof.Machine.execCensusStart w e s
  | .censusEnd w e => Sys2Proof.Machine.execCensusEnd w e s
  | .frameForwardDecision p f => Sys2Proof.Machine.execFrameForwardDecision p f s
  | .frameReceiveComplete p good sec => Sys2Proof.Machine.execFrameReceiveComplete p good sec s
  | .egressTransmitStart p ecc => Sys2Proof.Machine.execEgressTransmitStart p ecc s
  | .egressTransmitEnd p ctxs => Sys2Proof.Machine.execEgressTransmitEnd p ctxs s
  | .tenorExpiry => Sys2Proof.Machine.execTenorExpiry s
  | .gateEntryChange p => Sys2Proof.Machine.execGateEntryChange p s
  | .configChange w p value => Sys2Proof.Machine.execConfigChange w p value s
  | .configChangeTime p => Sys2Proof.Machine.execConfigChangeTime p s
  | .bullionWindow p => Sys2Proof.Machine.execBullionWindow p s
  | .reservationWrite w egress x value => Sys2Proof.Machine.execReservationWrite w egress x value s
  | .recoveryReset k => Sys2Proof.Machine.execRecoveryReset k s
  | .macsecKeyCommit w p value => Sys2Proof.Machine.execMacsecKeyCommit w p value s
  | .fdbAgeOut mac => Sys2Proof.Machine.execFdbAgeOut mac s
  | .fdbFlush w value => Sys2Proof.Machine.execFdbFlush w value s
  | .asSync offset => Sys2Proof.Machine.execAsSync offset s
  | .linkUp p => Sys2Proof.Machine.execLinkUp p s
  | .linkDown p => Sys2Proof.Machine.execLinkDown p s
  | .canSlotRefill k slot => Sys2Proof.Machine.execCanSlotRefill k slot s
  | .canAttemptStart k => Sys2Proof.Machine.execCanAttemptStart k s
  | .canAttemptEnd k outcome => Sys2Proof.Machine.execCanAttemptEnd k outcome s
  | .canFrameReceived k f => Sys2Proof.Machine.execCanFrameReceived k f s
  | .busOffRecover w k value => Sys2Proof.Machine.execBusOffRecover w k value s
  | .busOffRecoveryDone k => Sys2Proof.Machine.execBusOffRecoveryDone k s
  | .canIntegrationDone k => Sys2Proof.Machine.execCanIntegrationDone k s
  | .clashClear w k value => Sys2Proof.Machine.execClashClear w k value s
  | .transmitFrame w k value => Sys2Proof.Machine.execTransmitFrame w k value s
  | .gatewayRecord => Sys2Proof.Machine.execGatewayRecord s
  | .linSlot k => Sys2Proof.Machine.execLinSlot k s
  | .linResponse k data checksumOk => Sys2Proof.Machine.execLinResponse k data checksumOk s
  | .linNoResponse k => Sys2Proof.Machine.execLinNoResponse k s
  | .linHeader k ident syncOk => Sys2Proof.Machine.execLinHeader k ident syncOk s
  | .linBusFault k held => Sys2Proof.Machine.execLinBusFault k held s
  | .scheduleSelect w k value => Sys2Proof.Machine.execScheduleSelect w k value s
  | .sleepCommand w k value => Sys2Proof.Machine.execSleepCommand w k value s
  | .plcaBeaconLoss k => Sys2Proof.Machine.execPlcaBeaconLoss k s
  | .t1sCollision k => Sys2Proof.Machine.execT1sCollision k s
  | .powerRequestSleep w => Sys2Proof.Machine.execPowerRequestSleep w s
  | .powerRequestStandby w => Sys2Proof.Machine.execPowerRequestStandby w s
  | .powerRequestRun w => Sys2Proof.Machine.execPowerRequestRun w s
  | .roundStart w value => Sys2Proof.Machine.execRoundStart w value s
  | .keepAwake w value => Sys2Proof.Machine.execKeepAwake w value s
  | .tallyConsent m => Sys2Proof.Machine.execTallyConsent m s
  | .tallyRefuse m => Sys2Proof.Machine.execTallyRefuse m s
  | .tallySeal m => Sys2Proof.Machine.execTallySeal m s
  | .tallyAbort m => Sys2Proof.Machine.execTallyAbort m s
  | .tallyWake m => Sys2Proof.Machine.execTallyWake m s
  | .tallyAuth type m => Sys2Proof.Machine.execTallyAuth type m s
  | .roundTimeout => Sys2Proof.Machine.execRoundTimeout s
  | .roundRetry => Sys2Proof.Machine.execRoundRetry s
  | .sealEnd => Sys2Proof.Machine.execSealEnd s
  | .sealMissed => Sys2Proof.Machine.execSealMissed s
  | .tc10SleepTimeout p => Sys2Proof.Machine.execTc10SleepTimeout p s
  | .powerEntryComplete => Sys2Proof.Machine.execPowerEntryComplete s
  | .wakeInputPoll n pin => Sys2Proof.Machine.execWakeInputPoll n pin s
  | .handleTouch x => Sys2Proof.Machine.execHandleTouch x s
  | .canWakePattern k => Sys2Proof.Machine.execCanWakePattern k s
  | .canWakeFrame k f => Sys2Proof.Machine.execCanWakeFrame k f s
  | .canFrameErrors k => Sys2Proof.Machine.execCanFrameErrors k s
  | .linWakeSignal k => Sys2Proof.Machine.execLinWakeSignal k s
  | .t1sActivity k => Sys2Proof.Machine.execT1sActivity k s
  | .tc10WakeRequest p => Sys2Proof.Machine.execTc10WakeRequest p s
  | .wakeAlarm => Sys2Proof.Machine.execWakeAlarm s
  | .serviceLinkWake => Sys2Proof.Machine.execServiceLinkWake s
  | .accessRequest w zone => Sys2Proof.Machine.execAccessRequest w zone s
  | .lfBurstEnd a milliamps => Sys2Proof.Machine.execLfBurstEnd a milliamps s
  | .replyPhaseEnd => Sys2Proof.Machine.execReplyPhaseEnd s
  | .anchorFrame p f => Sys2Proof.Machine.execAnchorFrame p f s
  | .accessExchangeTimeout => Sys2Proof.Machine.execAccessExchangeTimeout s
  | .anchorAbsent a => Sys2Proof.Machine.execAnchorAbsent a s
  | .anchorWakeTimeout => Sys2Proof.Machine.execAnchorWakeTimeout s
  | .lockoutEnd => Sys2Proof.Machine.execLockoutEnd s
  | .memoryRead w t block => Sys2Proof.Machine.execMemoryRead w t block s
  | .memoryWrite w t block => Sys2Proof.Machine.execMemoryWrite w t block s
  | .enrolRecord w record => Sys2Proof.Machine.execEnrolRecord w record s
  | .tokenRevoke w t value => Sys2Proof.Machine.execTokenRevoke w t value s
  | .sourceWindowClose id => Sys2Proof.Machine.execSourceWindowClose id s
  | .graceExpiry id => Sys2Proof.Machine.execGraceExpiry id s
  | .sourceAcknowledge w id => Sys2Proof.Machine.execSourceAcknowledge w id s
  | .sourceClear w id => Sys2Proof.Machine.execSourceClear w id s
  | .sourceForce w id value => Sys2Proof.Machine.execSourceForce w id value s
  | .functionReset w fn => Sys2Proof.Machine.execFunctionReset w fn s
  | .functionResetDone => Sys2Proof.Machine.execFunctionResetDone s
  | .escrowExpiry b cell => Sys2Proof.Machine.execEscrowExpiry b cell s
  | .supervisorStop pair cause => Sys2Proof.Machine.execSupervisorStop pair cause s
  | .watchdogExpiry pair => Sys2Proof.Machine.execWatchdogExpiry pair s
  | .takeover => Sys2Proof.Machine.execTakeover s
  | .standbySelfTestDone pair passed => Sys2Proof.Machine.execStandbySelfTestDone pair passed s
  | .standbyAbsent => Sys2Proof.Machine.execStandbyAbsent s
  | .lhenChange level => Sys2Proof.Machine.execLhenChange level s
  | .lhInputChange x level => Sys2Proof.Machine.execLhInputChange x level s
  | .limpLoanRetry n => Sys2Proof.Machine.execLimpLoanRetry n s
  | .limpExit w value => Sys2Proof.Machine.execLimpExit w value s
  | .updateBegin w => Sys2Proof.Machine.execUpdateBegin w s
  | .updateFinish w => Sys2Proof.Machine.execUpdateFinish w s
  | .updateDiscard w => Sys2Proof.Machine.execUpdateDiscard w s
  | .stageData w data => Sys2Proof.Machine.execStageData w data s
  | .buildBurstComplete => Sys2Proof.Machine.execBuildBurstComplete s
  | .buildLoanRetry => Sys2Proof.Machine.execBuildLoanRetry s
  | .activationSchedule w => Sys2Proof.Machine.execActivationSchedule w s
  | .activationCancel w => Sys2Proof.Machine.execActivationCancel w s
  | .activationTick => Sys2Proof.Machine.execActivationTick s
  | .activationHashDone => Sys2Proof.Machine.execActivationHashDone s
  | .activationStartDone failed => Sys2Proof.Machine.execActivationStartDone failed s
  | .fallbackDone => Sys2Proof.Machine.execFallbackDone s
  | .resetNAssert => Sys2Proof.Machine.execResetNAssert s
  | .powerUpStart ka vloga vlogb => Sys2Proof.Machine.execPowerUpStart ka vloga vlogb s
  | .logicSupplyLost => Sys2Proof.Machine.execLogicSupplyLost s
  | .supplyThreshold pin millivolts => Sys2Proof.Machine.execSupplyThreshold pin millivolts s
  | .refClockLoss => Sys2Proof.Machine.execRefClockLoss s
  | .refClockReturn => Sys2Proof.Machine.execRefClockReturn s
  | .rtcClockLoss => Sys2Proof.Machine.execRtcClockLoss s
  | .boardnetMismatch => Sys2Proof.Machine.execBoardnetMismatch s
  | .baseplateSensor t0 t1 => Sys2Proof.Machine.execBaseplateSensor t0 t1 s
  | .bankSupplyThreshold b millivolts => Sys2Proof.Machine.execBankSupplyThreshold b millivolts s
  | .retriesUsedReset n => Sys2Proof.Machine.execRetriesUsedReset n s
  | .syncHoldover => Sys2Proof.Machine.execSyncHoldover s
  | .transceiverFault k present => Sys2Proof.Machine.execTransceiverFault k present s
  | .phyFault k present => Sys2Proof.Machine.execPhyFault k present s
  | .plcaBeaconReturn k => Sys2Proof.Machine.execPlcaBeaconReturn k s
  | .tallyCall m => Sys2Proof.Machine.execTallyCall m s
  | .wakeOutPulseEnd => Sys2Proof.Machine.execWakeOutPulseEnd s
  | .memoryRequestTimeout => Sys2Proof.Machine.execMemoryRequestTimeout s
  | .manifestCheckComplete => Sys2Proof.Machine.execManifestCheckComplete s
  | .baseplateDerate t0 t1 => Sys2Proof.Machine.execBaseplateDerate t0 t1 s
  | .isoTpTimeout channel receiving => Sys2Proof.Machine.execIsoTpTimeout channel receiving s
  | .reservedTypeFrame o type f => Sys2Proof.Machine.execReservedTypeFrame o type f s
  | .stageBurstComplete => Sys2Proof.Machine.execStageBurstComplete s
  | .sqUndef c w e1 e2 => Sys2Proof.Machine.execSqUndef c w e1 e2 s

end Sys2Proof.Machine
end

