-- ==== Sys2Proof/Machine/Step.lean ====
section
/-! DEFINITION. One step: the command at the front of the queue, or a module tick where none waits. -/

namespace Sys2Proof.Machine

/-- One module tick without a command: time passes (R69), and the state settles. DESIGN CHOICE: notes/assumptions/1.md. -/
def idle (s : State) : State := (Time.tick s).after (Time.tick s)

/-- One step of the module: the command at the front of the queue takes effect with the rest of the queue; on an empty queue
a module tick passes. -/
def step (s : State) : Host.Outcome State Fault Refusal :=
  match s.pending with
  | [] => .next (idle s)
  | i :: r => exec i { s with pending := r }

/-- The command that a word spells goes to the front of the queue; no word spells one. -/
def State.withFetchWord (s : State) (nbits w : Nat) : State :=
  match decodeTableWord nbits w with
  | some i => { s with pending := i :: s.pending }
  | none => s

end Sys2Proof.Machine
end

