-- ==== Sys2Proof/Safety.lean ====
section
/-! DEFINITION. What claims about the module are stated in: steps that answer a next state, states reached by them, and what a
step may change beside the effect a claim names. -/

namespace Sys2Proof

open Machine

/-- `s` steps to `t`. -/
def StepsTo (s t : State) : Prop := step s = .next t

/-- `t` is reached from `s` by steps. -/
inductive Reaches (s : State) : State → Prop
  | refl : Reaches s s
  | tail {t u : State} : Reaches s t → StepsTo t u → Reaches s u

/-- A step that neither stops nor refuses: what a run of the module needs at every state (no rule stops the block). -/
def Safe (s : State) : Prop := ∃ t, StepsTo s t

/-- An engine apart from its counting: issue slots, tagging unit and census left out. -/
def Machine.Eng.uncounted (r : Eng) : Eng := { r with used := 0, lfsr := 0, tagIn := 0, census := {} }

/-- `t` is `u` but for what counts instructions in engine `e`: the entries of its performance group (0x5400 + e), its census,
its issue slots and its tagging unit (R347 to R351), and draws of open values. -/
structure CountersOnly (e : Nat) (u t : State) : Prop where
  rest : t = { u with ledger := t.ledger, engines := t.engines, free := t.free }
  entries : ∀ i j, j < 256 → i ≠ 0x5400 + e → t.rd i j = u.rd i j
  engines : ∀ k, (t.eng k).uncounted = (u.eng k).uncounted

/-- Context `c` may issue an instruction: the module is in Standby or Run, the context runs, and it is inside no wait, no path
load and no repeat (R321). -/
structure CanIssue (s : State) (c : Nat) : Prop where
  power : 2 ≤ s.power
  running : (s.ctx c).st = 1
  awake : (s.ctx c).waiting = none
  free : (s.ctx c).stalled = none
  single : (s.ctx c).inRepeat = false

end Sys2Proof
end

