-- ==== Sys2Proof/Certificates/Slice0/Obligations.lean ====
section
/-! DEFINITION. The statements for the provers, family by family in the table's order, with the words they are stated in. -/
/-! ### Sequencer instructions: what each leaves of its context (chapter 11) -/

namespace Sys2Proof.Claim

open Machine

/-- The instruction `i` of context `c` completes in every state in which the context may issue: pc moves on by `n` words, the
context's other state becomes `f` of what it was, and nothing but counters changes beside. -/
def Issues (c : Fin 128) (i : Instr) (n : Nat) (f : Ctx → Ctx) : Prop :=
  ∀ s, CanIssue s c → ∃ t, exec i s = .next t ∧
    CountersOnly (c / 4) (s.modCtx c fun x => { f x with pc := x.pc + BitVec.ofNat 13 n }) t

/-- A general register written. -/
def put (gd : Fin 8) (w : Word) (x : Ctx) : Ctx := { x with g := x.g.set gd w }

/-- Z and N of a result. -/
def zn (w : Word) (x : Ctx) : Ctx := { x with z := decide (w = 0), n := w.getLsbD 31 }

/-- Z, N, C and V of a + b + k: C the carry out of bit 31, V signed overflow. -/
def sumFlags (a b : Word) (k : Nat) (x : Ctx) : Ctx :=
  let w := BitVec.ofNat 32 (a.toNat + b.toNat + k)
  { zn w x with c := decide (2 ^ 32 ≤ a.toNat + b.toNat + k), v := decide (w.toInt ≠ a.toInt + b.toInt + k) }

/-- Z, N, C and V of a − b − k: C the borrow, V signed overflow. -/
def differenceFlags (a b : Word) (k : Nat) (x : Ctx) : Ctx :=
  let w := BitVec.ofInt 32 (a.toInt - b.toInt - k)
  { zn w x with c := decide (a.toNat < b.toNat + k), v := decide (w.toInt ≠ a.toInt - b.toInt - k) }

/-- gd := a + b + k with its flags. -/
def sum (gd : Fin 8) (a b : Word) (k : Nat) (x : Ctx) : Ctx :=
  sumFlags a b k (put gd (BitVec.ofNat 32 (a.toNat + b.toNat + k)) x)

/-- gd := a − b − k with its flags. -/
def difference (gd : Fin 8) (a b : Word) (k : Nat) (x : Ctx) : Ctx :=
  differenceFlags a b k (put gd (BitVec.ofInt 32 (a.toInt - b.toInt - k)) x)

/-- Z and N of a result, V cleared. -/
def logicFlags (w : Word) (x : Ctx) : Ctx := { zn w x with v := false }

/-- gd := w with Z and N, V cleared. -/
def logic (gd : Fin 8) (w : Word) (x : Ctx) : Ctx := logicFlags w (put gd w x)

/-- gd := w with Z and N. -/
def result (gd : Fin 8) (w : Word) (x : Ctx) : Ctx := zn w (put gd w x)

/-- A count in bits [4:0] of a register. -/
def low5 (w : Word) : Nat := w.toNat % 32

/-- The carry of a shift or rotate by `n`: unchanged by a count of 0. -/
def shiftCarry (n : Nat) (b : Bool) (x : Ctx) : Ctx := { x with c := if n = 0 then x.c else b }

/-- gd := a << n. -/
def shl (gd : Fin 8) (a : Word) (n : Nat) (x : Ctx) : Ctx := shiftCarry n (a.getLsbD (32 - n)) (logic gd (a <<< n) x)

/-- gd := a >> n, zero fill. -/
def shr (gd : Fin 8) (a : Word) (n : Nat) (x : Ctx) : Ctx := shiftCarry n (a.getLsbD (n - 1)) (logic gd (a >>> n) x)

/-- gd := a >> n, sign fill. -/
def sar (gd : Fin 8) (a : Word) (n : Nat) (x : Ctx) : Ctx := shiftCarry n (a.getLsbD (n - 1)) (logic gd (a.sshiftRight n) x)

/-- gd := a product's word, C and V cleared. -/
def product (gd : Fin 8) (w : Word) (x : Ctx) : Ctx := { result gd w x with c := false, v := false }

/-- gd := a quotient or remainder, C cleared, V as given. -/
def quotient (gd : Fin 8) (w : Word) (v : Bool) (x : Ctx) : Ctx := { result gd w x with c := false, v := v }

/-- gd[lsb] := b, no flag. -/
def putBit (gd : Fin 8) (lsb : Fin 32) (b : Bool) (x : Ctx) : Ctx :=
  put gd (BitVec.ofFnLE fun i : Fin 32 => if i = lsb then b else (x.g.get gd).getLsbD i) x

end Sys2Proof.Claim

open Sys2Proof Sys2Proof.Machine Sys2Proof.Claim

/-- R298, Table 11-5: add, sub, neg and the compares with their carries, borrows and signed overflows, in every operand form;
compares discard their result. -/
def Obligations.SumsAndDifferencesSetAllFlags : Prop :=
  ∀ (c : Fin 128) (gd gs : Fin 8) (i : BitVec 12) (j : BitVec 14),
    Issues c (.sqAdd c gd gs) 1 (fun x => sum gd (x.g.get gd) (x.g.get gs) 0 x) ∧
    Issues c (.sqAddi c gd i) 2 (fun x => sum gd (x.g.get gd) (i.signExtend 32) 0 x) ∧
    Issues c (.sqAddx c gd j) 2 (fun x => sum gd (x.g.get gd) (j.signExtend 32) 0 x) ∧
    Issues c (.sqAdc c gd gs) 1 (fun x => sum gd (x.g.get gd) (x.g.get gs) (if x.c then 1 else 0) x) ∧
    Issues c (.sqSub c gd gs) 1 (fun x => difference gd (x.g.get gd) (x.g.get gs) 0 x) ∧
    Issues c (.sqSubi c gd i) 2 (fun x => difference gd (x.g.get gd) (i.signExtend 32) 0 x) ∧
    Issues c (.sqSubx c gd j) 2 (fun x => difference gd (x.g.get gd) (j.signExtend 32) 0 x) ∧
    Issues c (.sqSbc c gd gs) 1 (fun x => difference gd (x.g.get gd) (x.g.get gs) (if x.c then 1 else 0) x) ∧
    Issues c (.sqNeg c gd gs) 1 (fun x => difference gd 0 (x.g.get gs) 0 x) ∧
    Issues c (.sqCmp c gd gs) 1 (fun x => differenceFlags (x.g.get gd) (x.g.get gs) 0 x) ∧
    Issues c (.sqCmpi c gd i) 2 (fun x => differenceFlags (x.g.get gd) (i.signExtend 32) 0 x) ∧
    Issues c (.sqCmpx c gd j) 2 (fun x => differenceFlags (x.g.get gd) (j.signExtend 32) 0 x)

/-- Table 11-5: the bitwise operations set Z and N and clear V in every operand form, tests discard their result, and moves and
immediates change no flag. -/
def Obligations.LogicAndMovesSetTheirFlags : Prop :=
  ∀ (c : Fin 128) (gd gs : Fin 8) (i : BitVec 12) (j : BitVec 14) (w : Word),
    Issues c (.sqAnd c gd gs) 1 (fun x => logic gd (x.g.get gd &&& x.g.get gs) x) ∧
    Issues c (.sqOr c gd gs) 1 (fun x => logic gd (x.g.get gd ||| x.g.get gs) x) ∧
    Issues c (.sqXor c gd gs) 1 (fun x => logic gd (x.g.get gd ^^^ x.g.get gs) x) ∧
    Issues c (.sqAndi c gd i) 2 (fun x => logic gd (x.g.get gd &&& i.signExtend 32) x) ∧
    Issues c (.sqOri c gd i) 2 (fun x => logic gd (x.g.get gd ||| i.signExtend 32) x) ∧
    Issues c (.sqXori c gd i) 2 (fun x => logic gd (x.g.get gd ^^^ i.signExtend 32) x) ∧
    Issues c (.sqAndx c gd j) 2 (fun x => logic gd (x.g.get gd &&& j.signExtend 32) x) ∧
    Issues c (.sqOrx c gd j) 2 (fun x => logic gd (x.g.get gd ||| j.signExtend 32) x) ∧
    Issues c (.sqXorx c gd j) 2 (fun x => logic gd (x.g.get gd ^^^ j.signExtend 32) x) ∧
    Issues c (.sqNot c gd gs) 1 (fun x => logic gd (~~~(x.g.get gs)) x) ∧
    Issues c (.sqTst c gd gs) 1 (fun x => logicFlags (x.g.get gd &&& x.g.get gs) x) ∧
    Issues c (.sqTstx c gd j) 2 (fun x => logicFlags (x.g.get gd &&& j.signExtend 32) x) ∧
    Issues c (.sqMov c gd gs) 1 (fun x => put gd (x.g.get gs) x) ∧
    Issues c (.sqLdi c gd i) 2 (fun x => put gd (i.signExtend 32) x) ∧
    Issues c (.sqLdix c gd j) 2 (fun x => put gd (j.signExtend 32) x) ∧
    Issues c (.sqLdil c gd w) 3 (fun x => put gd w x)

/-- R299: shifts and rotates by a count of bits [4:0]: a count of 0 leaves register and C, a count of n sets C from the bit
shifted out or around last; Z and N follow the result, and the shifts clear V. -/
def Obligations.ShiftsAndRotatesSetCarry : Prop :=
  ∀ (c : Fin 128) (gd gs : Fin 8) (n : Fin 32),
    Issues c (.sqShl c gd gs) 1 (fun x => shl gd (x.g.get gd) (low5 (x.g.get gs)) x) ∧
    Issues c (.sqShr c gd gs) 1 (fun x => shr gd (x.g.get gd) (low5 (x.g.get gs)) x) ∧
    Issues c (.sqSar c gd gs) 1 (fun x => sar gd (x.g.get gd) (low5 (x.g.get gs)) x) ∧
    Issues c (.sqShli c gd n) 2 (fun x => shl gd (x.g.get gd) n x) ∧
    Issues c (.sqShri c gd n) 2 (fun x => shr gd (x.g.get gd) n x) ∧
    Issues c (.sqSari c gd n) 2 (fun x => sar gd (x.g.get gd) n x) ∧
    Issues c (.sqRol c gd gs) 1 (fun x =>
      let a := x.g.get gd
      let k := low5 (x.g.get gs)
      let w := BitVec.ofFnLE fun i : Fin 32 => a.getLsbD ((i + 32 - k) % 32)
      shiftCarry k (w.getLsbD 0) (result gd w x)) ∧
    Issues c (.sqRor c gd gs) 1 (fun x =>
      let a := x.g.get gd
      let k := low5 (x.g.get gs)
      let w := BitVec.ofFnLE fun i : Fin 32 => a.getLsbD ((i + k) % 32)
      shiftCarry k (w.getLsbD 31) (result gd w x))

/-- R300 and Table 11-5: division truncates toward zero, a remainder takes the sign of the dividend; a divisor of 0 and
0x80000000 ÷ 0xFFFFFFFF give the stated values and set V, which every other case clears. -/
def Obligations.DivisionNeverTraps : Prop :=
  ∀ (c : Fin 128) (gd gs : Fin 8),
    Issues c (.sqDiv c gd gs) 1 (fun x =>
      let a := x.g.get gd
      let b := x.g.get gs
      if b = 0 then quotient gd 0xFFFFFFFF true x
      else if a = 0x80000000 ∧ b = 0xFFFFFFFF then quotient gd 0x80000000 true x
      else quotient gd (BitVec.ofInt 32 (a.toInt.tdiv b.toInt)) false x) ∧
    Issues c (.sqDivu c gd gs) 1 (fun x =>
      let a := x.g.get gd
      let b := x.g.get gs
      if b = 0 then quotient gd 0xFFFFFFFF true x else quotient gd (BitVec.ofNat 32 (a.toNat / b.toNat)) false x) ∧
    Issues c (.sqRem c gd gs) 1 (fun x =>
      let a := x.g.get gd
      let b := x.g.get gs
      if b = 0 then quotient gd a true x
      else if a = 0x80000000 ∧ b = 0xFFFFFFFF then quotient gd 0 true x
      else quotient gd (BitVec.ofInt 32 (a.toInt - b.toInt * a.toInt.tdiv b.toInt)) false x) ∧
    Issues c (.sqRemu c gd gs) 1 (fun x =>
      let a := x.g.get gd
      let b := x.g.get gs
      if b = 0 then quotient gd a true x else quotient gd (BitVec.ofNat 32 (a.toNat - b.toNat * (a.toNat / b.toNat))) false x)

/-- Table 11-5: the low and the two high words of a product, and the smaller and larger of two registers. -/
def Obligations.ProductsAndExtremes : Prop :=
  ∀ (c : Fin 128) (gd gs : Fin 8),
    Issues c (.sqMul c gd gs) 1 (fun x => product gd (BitVec.ofNat 32 ((x.g.get gd).toNat * (x.g.get gs).toNat)) x) ∧
    Issues c (.sqMulhs c gd gs) 1 (fun x =>
      product gd ((((x.g.get gd).signExtend 64 * (x.g.get gs).signExtend 64) >>> 32).truncate 32) x) ∧
    Issues c (.sqMulhu c gd gs) 1 (fun x =>
      product gd ((((x.g.get gd).zeroExtend 64 * (x.g.get gs).zeroExtend 64) >>> 32).truncate 32) x) ∧
    Issues c (.sqMin c gd gs) 1 (fun x => result gd (if (x.g.get gs).slt (x.g.get gd) then x.g.get gs else x.g.get gd) x) ∧
    Issues c (.sqMax c gd gs) 1 (fun x => result gd (if (x.g.get gd).slt (x.g.get gs) then x.g.get gs else x.g.get gd) x) ∧
    Issues c (.sqMinu c gd gs) 1 (fun x => result gd (if (x.g.get gs).ult (x.g.get gd) then x.g.get gs else x.g.get gd) x) ∧
    Issues c (.sqMaxu c gd gs) 1 (fun x => result gd (if (x.g.get gd).ult (x.g.get gs) then x.g.get gs else x.g.get gd) x)

/-- Table 11-6, R301: reversals, parity, leading zeros, population count, sign extensions, and the one-bit and field
operations. -/
def Obligations.BitsAndFields : Prop :=
  ∀ (c : Fin 128) (gd gs : Fin 8) (lsb w1 : Fin 32),
    Issues c (.sqRev c gd gs) 1 (fun x => result gd (BitVec.ofFnLE fun i : Fin 32 => (x.g.get gs).getLsbD (31 - i)) x) ∧
    Issues c (.sqRevb c gd gs) 1 (fun x =>
      result gd (BitVec.ofFnLE fun i : Fin 32 => (x.g.get gs).getLsbD (8 * (i / 8) + 7 - i % 8)) x) ∧
    Issues c (.sqBswap c gd gs) 1 (fun x =>
      result gd (BitVec.ofFnLE fun i : Fin 32 => (x.g.get gs).getLsbD (8 * (3 - i / 8) + i % 8)) x) ∧
    Issues c (.sqPar c gd gs) 1 (fun x =>
      result gd (BitVec.ofNat 32 (((List.range 32).countP fun i => (x.g.get gs).getLsbD i) % 2)) x) ∧
    Issues c (.sqPopc c gd gs) 1 (fun x =>
      result gd (BitVec.ofNat 32 ((List.range 32).countP fun i => (x.g.get gs).getLsbD i)) x) ∧
    Issues c (.sqClz c gd gs) 1 (fun x =>
      result gd (if x.g.get gs = 0 then 32 else BitVec.ofNat 32 (31 - Nat.log2 (x.g.get gs).toNat)) x) ∧
    Issues c (.sqSxb c gd gs) 1 (fun x => result gd (BitVec.ofInt 32 ((x.g.get gs).truncate 8).toInt) x) ∧
    Issues c (.sqSxh c gd gs) 1 (fun x => result gd (BitVec.ofInt 32 ((x.g.get gs).truncate 16).toInt) x) ∧
    Issues c (.sqBset c gd lsb) 2 (putBit gd lsb true) ∧
    Issues c (.sqBclr c gd lsb) 2 (putBit gd lsb false) ∧
    Issues c (.sqBtgl c gd lsb) 2 (fun x => putBit gd lsb (!(x.g.get gd).getLsbD lsb) x) ∧
    Issues c (.sqBtst c gd lsb) 2 (fun x => { x with z := !(x.g.get gd).getLsbD lsb }) ∧
    (lsb.val + w1.val + 1 ≤ 32 →
      Issues c (.sqExtu c gd gs lsb w1) 2 (fun x =>
        result gd (BitVec.ofNat 32 ((x.g.get gs).toNat / 2 ^ lsb.val % 2 ^ (w1.val + 1))) x) ∧
      Issues c (.sqExts c gd gs lsb w1) 2 (fun x =>
        result gd (BitVec.ofInt 32 (BitVec.ofNat (w1.val + 1) ((x.g.get gs).toNat / 2 ^ lsb.val)).toInt) x) ∧
      Issues c (.sqIns c gd gs lsb w1) 2 (fun x =>
        result gd (BitVec.ofFnLE fun i : Fin 32 =>
          if lsb.val ≤ i.val ∧ i.val < lsb.val + w1.val + 1 then (x.g.get gs).getLsbD (i - lsb.val) else (x.g.get gd).getLsbD i) x))

namespace Sys2Proof.Claim

open Machine

/-- `Issues` in one state. -/
def IssuesAt (s : State) (c : Fin 128) (i : Instr) (n : Nat) (f : Ctx → Ctx) : Prop :=
  ∃ t, exec i s = .next t ∧ CountersOnly (c / 4) (s.modCtx c fun x => { f x with pc := x.pc + BitVec.ofNat 13 n }) t

/-- A result with Z alone. -/
def zResult (gd : Fin 8) (w : Word) (x : Ctx) : Ctx := { put gd w x with z := decide (w = 0) }

/-- One step of R302 on a byte: eight times a shift and the polynomial, where the bit shifted out is 1. -/
def crc8Step (g : Word) (b : BitVec 8) : Word :=
  (Nat.repeat (fun c : BitVec 8 => if c.getLsbD 7 then (c <<< 1) ^^^ 0x1D else c <<< 1) 8 (g.truncate 8 ^^^ b)).zeroExtend 32

/-- The CCITT step of R302. -/
def crc16Step (g : Word) (b : BitVec 8) : Word :=
  (Nat.repeat (fun c : BitVec 16 => if c.getLsbD 15 then (c <<< 1) ^^^ 0x1021 else c <<< 1) 8
    (g.truncate 16 ^^^ (b.zeroExtend 16 <<< 8))).zeroExtend 32

/-- The IEEE 802.3 step of R302, in reflected form. -/
def crc32Step (g : Word) (b : BitVec 8) : Word :=
  Nat.repeat (fun c : BitVec 32 => if c.getLsbD 0 then (c >>> 1) ^^^ 0xEDB88320 else c >>> 1) 8 (g ^^^ b.zeroExtend 32)

/-- The octet of a word from bit `8 k` on. -/
def octetOf (w : Word) (k : Nat) : BitVec 8 := (w >>> (8 * k)).truncate 8

/-- The byte at address `a` of the data memory of engine `e`. -/
def dataByte (s : State) (e a : Nat) : Byte := Map.get 0 s.dmem (e * 16384 + a)

/-- The little-endian value of `n` bytes of data memory. -/
def dataValue (s : State) (e : Nat) (a : Nat) : Nat → Nat
  | 0 => 0
  | n + 1 => (dataByte s e a).toNat + 256 * dataValue s e (a + 1) n

/-- No uncorrectable error among `n` bytes of data memory. -/
def sound (s : State) (e a n : Nat) : Prop := ∀ x ∈ (s.eng e).dataBad, ¬(a ≤ x ∧ x < a + n)

/-- The state after trap entry (R315) of a context that is in no trap, with its count of traps (Table 12-10). -/
def trapped (c cause : Nat) (info : Word) (pc : BitVec 13) (s : State) : State :=
  let u := s.modCtx c fun x => { x with
    trapPc := pc, cause := cause, double := false, trapInfo := info, trapFlags := x.flags, inTrap := true,
    pc := BitVec.ofNat 13 (s.rd (0x5100 + c) 4) }
  u.wr (0x5100 + c) 0x0F (min 0xFFFFFFFF (s.rd (0x5100 + c) 0x0F + 1))

/-- The instruction traps: nothing but what trap entry writes changes, and TrapRecord shows it (Table 12-10). -/
def TrapsAt (s : State) (c : Fin 128) (i : Instr) (cause : Nat) (info : Word) (pc : BitVec 13) : Prop :=
  (s.ctx c).inTrap = false → ∃ t, exec i s = .next t ∧ CountersOnly (c / 4) (trapped c cause info pc s) t ∧
    t.view (0x5100 + c) 0x0E = cause + pc.toNat * 2 ^ 8 + info.toNat * 2 ^ 32

/-- An address that Table 12-1 maps to no region. -/
def unmapped (w : Word) : Prop :=
  (0x4000 ≤ w.toNat ∧ w.toNat < 0x10000) ∨ (0x23C40 ≤ w.toNat ∧ w.toNat < 0x23C80) ∨ 0x23D00 ≤ w.toNat

/-- A load of `size` bytes of data memory at `addr`, with `f` of the value read; it traps with ALIGN and ACCESS (R303). -/
def Loads (c : Fin 128) (i : Instr) (n size : Nat) (addr : Ctx → Word) (f : Nat → Ctx → Ctx) : Prop :=
  ∀ s, CanIssue s c →
    let w := addr (s.ctx c)
    (w.toNat % size = 0 → w.toNat < 0x4000 → sound s (c / 4) w.toNat size →
      IssuesAt s c i n (f (dataValue s (c / 4) w.toNat size))) ∧
    (w.toNat % size = 0 → w.toNat < 0x4000 → ¬sound s (c / 4) w.toNat size → (s.ctx c).inTrap = false →
      ∃ t, exec i s = .next t ∧
        CountersOnly (c / 4) (trapped c 9 w (s.ctx c).pc (Audit.raise (0x1480 + c / 4 * 4) s)) t) ∧
    (w.toNat % size ≠ 0 → TrapsAt s c i 3 w (s.ctx c).pc) ∧
    (w.toNat % size = 0 → unmapped w → TrapsAt s c i 4 w (s.ctx c).pc)

/-- A store of the low `size` bytes of `v` to data memory at `addr`: the bytes from there hold them, every other byte is as it
was, and the memory keeps its canonical form. -/
def Stores (c : Fin 128) (i : Instr) (n size : Nat) (addr v : Ctx → Word) (f : Ctx → Ctx) : Prop :=
  ∀ s, CanIssue s c →
    let w := addr (s.ctx c)
    let base := c / 4 * 16384 + w.toNat
    (w.toNat % size = 0 → w.toNat < 0x4000 →
      ∃ t m, exec i s = .next t ∧
        CountersOnly (c / 4)
          { (s.modCtx c fun x => { f x with pc := x.pc + BitVec.ofNat 13 n }) with dmem := m } t ∧
        (∀ a, Map.get 0 m a = if base ≤ a ∧ a < base + size then octetOf (v (s.ctx c)) (a - base) else Map.get 0 s.dmem a) ∧
        (Map.wf 0 s.dmem → Map.wf 0 m)) ∧
    (w.toNat % size ≠ 0 → TrapsAt s c i 3 w (s.ctx c).pc) ∧
    (w.toNat % size = 0 → unmapped w → TrapsAt s c i 4 w (s.ctx c).pc)

/-- The register `r` of a context. -/
def g (r : Fin 8) (x : Ctx) : Word := x.g.get r

end Sys2Proof.Claim

/-- R302: the cyclic-check steps on a register, with Z alone. -/
def Obligations.CyclicCheckSteps : Prop :=
  ∀ (c : Fin 128) (gd gs : Fin 8),
    Issues c (.sqCrc8 c gd gs) 1 (fun x => zResult gd (crc8Step (g gd x) (octetOf (g gs x) 0)) x) ∧
    Issues c (.sqCrc16 c gd gs) 1 (fun x => zResult gd (crc16Step (g gd x) (octetOf (g gs x) 0)) x) ∧
    Issues c (.sqCrc32 c gd gs) 1 (fun x => zResult gd (crc32Step (g gd x) (octetOf (g gs x) 0)) x) ∧
    Issues c (.sqCrc32w c gd gs) 1 (fun x =>
      zResult gd ((List.range 4).foldl (fun a k => crc32Step a (octetOf (g gs x) k)) (g gd x)) x) ∧
    (gd ≠ gs →
      Loads c (.sqCrc8m c gd gs) 1 1 (g gs) (fun b x =>
        zResult gd (crc8Step (g gd x) (BitVec.ofNat 8 b)) (put gs (g gs x + 1) x)) ∧
      Loads c (.sqCrc16m c gd gs) 1 1 (g gs) (fun b x =>
        zResult gd (crc16Step (g gd x) (BitVec.ofNat 8 b)) (put gs (g gs x + 1) x)) ∧
      Loads c (.sqCrc32m c gd gs) 1 1 (g gs) (fun b x =>
        zResult gd (crc32Step (g gd x) (BitVec.ofNat 8 b)) (put gs (g gs x + 1) x)))

/-- Table 11-7, R303, R304: every load form from data memory: its address, its width and extension, its base update with the
loaded value written last; flags and every other register stay; ALIGN and ACCESS trap. -/
def Obligations.LoadsFromDataMemory : Prop :=
  ∀ (c : Fin 128) (gd gb gi : Fin 8) (d : BitVec 12) (j : BitVec 14),
    Loads c (.sqLdw c gd gb) 1 4 (g gb) (fun v => put gd (BitVec.ofNat 32 v)) ∧
    Loads c (.sqLdwDisp c gd gb d) 2 4 (fun x => g gb x + d.signExtend 32) (fun v => put gd (BitVec.ofNat 32 v)) ∧
    Loads c (.sqLdwPost c gd gb) 1 4 (g gb) (fun v x => put gd (BitVec.ofNat 32 v) (put gb (g gb x + 4) x)) ∧
    Loads c (.sqLdwPre c gd gb) 1 4 (fun x => g gb x - 4) (fun v x => put gd (BitVec.ofNat 32 v) (put gb (g gb x - 4) x)) ∧
    Loads c (.sqLdb c gd gb j) 2 1 (fun x => g gb x + j.signExtend 32) (fun v => put gd (BitVec.ofNat 32 v)) ∧
    Loads c (.sqLdbs c gd gb j) 2 1 (fun x => g gb x + j.signExtend 32)
      (fun v => put gd ((BitVec.ofNat 8 v).signExtend 32)) ∧
    Loads c (.sqLdh c gd gb j) 2 2 (fun x => g gb x + j.signExtend 32) (fun v => put gd (BitVec.ofNat 32 v)) ∧
    Loads c (.sqLdhs c gd gb j) 2 2 (fun x => g gb x + j.signExtend 32)
      (fun v => put gd ((BitVec.ofNat 16 v).signExtend 32)) ∧
    Loads c (.sqLdbp c gd gb) 1 1 (g gb) (fun v x => put gd (BitVec.ofNat 32 v) (put gb (g gb x + 1) x)) ∧
    Loads c (.sqLdwd c gd gb j) 2 4 (fun x => g gb x + j.signExtend 32) (fun v => put gd (BitVec.ofNat 32 v)) ∧
    Loads c (.sqLdwx c gd gb gi) 2 4 (fun x => g gb x + 4 * g gi x) (fun v => put gd (BitVec.ofNat 32 v)) ∧
    Loads c (.sqLdbx c gd gb gi) 2 1 (fun x => g gb x + g gi x) (fun v => put gd (BitVec.ofNat 32 v))

/-- Table 11-7, R303, R304: every store form to data memory: the bytes stored, of the source's value before the base update, and
no other byte; flags and every other register stay; ALIGN and ACCESS trap. -/
def Obligations.StoresToDataMemory : Prop :=
  ∀ (c : Fin 128) (gs gb gi : Fin 8) (d : BitVec 12) (j : BitVec 14),
    Stores c (.sqStw c gs gb) 1 4 (g gb) (g gs) id ∧
    Stores c (.sqStwDisp c gs gb d) 2 4 (fun x => g gb x + d.signExtend 32) (g gs) id ∧
    Stores c (.sqStwPost c gs gb) 1 4 (g gb) (g gs) (fun x => put gb (g gb x + 4) x) ∧
    Stores c (.sqStwPre c gs gb) 1 4 (fun x => g gb x - 4) (g gs) (fun x => put gb (g gb x - 4) x) ∧
    Stores c (.sqStb c gs gb j) 2 1 (fun x => g gb x + j.signExtend 32) (g gs) id ∧
    Stores c (.sqSth c gs gb j) 2 2 (fun x => g gb x + j.signExtend 32) (g gs) id ∧
    Stores c (.sqStbp c gs gb) 1 1 (g gb) (g gs) (fun x => put gb (g gb x + 1) x) ∧
    Stores c (.sqStwd c gs gb j) 2 4 (fun x => g gb x + j.signExtend 32) (g gs) id ∧
    Stores c (.sqStwx c gs gb gi) 2 4 (fun x => g gb x + 4 * g gi x) (g gs) id ∧
    Stores c (.sqStbx c gs gb gi) 2 1 (fun x => g gb x + g gi x) (g gs) id

namespace Sys2Proof.Claim

open Machine

/-- Whether a condition holds (Table 11-4). -/
def taken (k : Fin 15) (x : Ctx) : Prop :=
  match k.val with
  | 0 => x.z = true | 1 => x.z = false | 2 => x.c = true | 3 => x.c = false
  | 4 => x.n = true | 5 => x.n = false | 6 => x.v = true | 7 => x.v = false
  | 8 => x.c = false ∧ x.z = false | 9 => x.c = true ∨ x.z = true
  | 10 => x.n = x.v | 11 => x.n ≠ x.v | 12 => x.z = false ∧ x.n = x.v | 13 => x.z = true ∨ x.n ≠ x.v
  | _ => True

/-- The instruction leaves of its context `f` of what it was, pc included. -/
def LeavesAt (s : State) (c : Fin 128) (i : Instr) (f : Ctx → Ctx) : Prop :=
  ∃ t, exec i s = .next t ∧ CountersOnly (c / 4) (s.modCtx c f) t

/-- The stack window [StackLimit, StackBase) holds the word at `w` (R305). -/
def inStack (s : State) (c : Fin 128) (w : Word) : Prop :=
  s.rd (0x5100 + c) 6 ≤ w.toNat ∧ w.toNat + 4 ≤ s.rd (0x5100 + c) 5

/-- Data memory with the word `v` at byte address `a` of an engine, other bytes as they were. -/
def wordStored (e a : Nat) (v : Word) (m m' : List Host.Cell) : Prop :=
  ∀ b, Map.get 0 m' b =
    if e * 16384 + a ≤ b ∧ b < e * 16384 + a + 4 then octetOf v (b - (e * 16384 + a)) else Map.get 0 m b

/-- A call: pc_next pushed, pc at the target; outside the stack window it traps with STACK. -/
def Calls (c : Fin 128) (i : Instr) (n : Nat) (ok : Ctx → Prop) (goal : Ctx → BitVec 13) : Prop :=
  ∀ s, CanIssue s c → ok (s.ctx c) →
    let sp := (s.ctx c).sp - 4
    let ret : Word := ((s.ctx c).pc + BitVec.ofNat 13 n).zeroExtend 32
    (inStack s c sp → sp.toNat + 4 ≤ 0x4000 →
      ∃ t m, exec i s = .next t ∧ wordStored (c / 4) sp.toNat ret s.dmem m ∧
        CountersOnly (c / 4) { (s.modCtx c fun x => { x with sp := sp, pc := goal x }) with dmem := m } t) ∧
    (¬inStack s c sp → TrapsAt s c i 5 sp (s.ctx c).pc)

end Sys2Proof.Claim

/-- R295, R298, Tables 11-4 and 11-9: a branch is taken when its condition holds, from pc_next; jumps go to their address; a
register target with any of bits [31:13] set traps with ACCESS. -/
def Obligations.BranchesAndJumps : Prop :=
  ∀ (c : Fin 128) (k : Fin 15) (off : BitVec 12) (offx : BitVec 14) (a : BitVec 12) (ax : BitVec 13) (gs : Fin 8) (s : State),
    CanIssue s c →
    (taken k (s.ctx c) → LeavesAt s c (.sqBranch c k off) fun x => { x with pc := x.pc + 2 + (off.signExtend 13) }) ∧
    (¬taken k (s.ctx c) → LeavesAt s c (.sqBranch c k off) fun x => { x with pc := x.pc + 2 }) ∧
    (taken k (s.ctx c) → LeavesAt s c (.sqBranchX c k offx) fun x => { x with pc := x.pc + 2 + offx.truncate 13 }) ∧
    (¬taken k (s.ctx c) → LeavesAt s c (.sqBranchX c k offx) fun x => { x with pc := x.pc + 2 }) ∧
    LeavesAt s c (.sqJmp c a) (fun x => { x with pc := a.zeroExtend 13 }) ∧
    LeavesAt s c (.sqJmpx c ax) (fun x => { x with pc := ax }) ∧
    ((g gs (s.ctx c)).toNat < 8192 → LeavesAt s c (.sqJmpr c gs) fun x => { x with pc := (g gs x).truncate 13 }) ∧
    (8192 ≤ (g gs (s.ctx c)).toNat → TrapsAt s c (.sqJmpr c gs) 4 (g gs (s.ctx c)) (s.ctx c).pc)

/-- R305, R306: the call forms push pc_next and go to their target; ret pops it; outside the stack window they trap with STACK,
and ret with the word popped where it is no address. -/
def Obligations.CallsAndReturns : Prop :=
  ∀ (c : Fin 128) (a : BitVec 12) (ax : BitVec 13) (gs : Fin 8),
    Calls c (.sqCall c a) 2 (fun _ => True) (fun _ => a.zeroExtend 13) ∧
    Calls c (.sqCallx c ax) 2 (fun _ => True) (fun _ => ax) ∧
    Calls c (.sqCallr c gs) 1 (fun x => (g gs x).toNat < 8192) (fun x => (g gs x).truncate 13) ∧
    (∀ s, CanIssue s c → inStack s c ((s.ctx c).sp - 4) → 8192 ≤ (g gs (s.ctx c)).toNat →
      TrapsAt s c (.sqCallr c gs) 4 (g gs (s.ctx c)) (s.ctx c).pc) ∧
    ∀ s, CanIssue s c →
      let sp := (s.ctx c).sp
      let v := dataValue s (c / 4) sp.toNat 4
      (inStack s c sp → sound s (c / 4) sp.toNat 4 → v < 8192 →
        LeavesAt s c (.sqRet c) fun x => { x with sp := sp + 4, pc := BitVec.ofNat 13 v }) ∧
      (inStack s c sp → sound s (c / 4) sp.toNat 4 → 8192 ≤ v → TrapsAt s c (.sqRet c) 5 (BitVec.ofNat 32 v) (s.ctx c).pc) ∧
      (¬inStack s c sp → TrapsAt s c (.sqRet c) 5 sp (s.ctx c).pc)

/-- R305, Table 11-9: push, pop and the multiple forms within the stack window, in the mask's order; addsp, getsp and setsp; the
traps of STACK and ALIGN. -/
def Obligations.StackInstructions : Prop :=
  ∀ (c : Fin 128) (r : Fin 8) (imm : BitVec 14) (mask : BitVec 8) (s : State), CanIssue s c →
    let sp := (s.ctx c).sp
    let regs : List (Fin 8) := (List.finRange 8).filter fun i => mask.getLsbD i
    (inStack s c (sp - 4) → (sp - 4).toNat + 4 ≤ 0x4000 →
      ∃ t m, exec (.sqPush c r) s = .next t ∧ wordStored (c / 4) (sp - 4).toNat (g r (s.ctx c)) s.dmem m ∧
        CountersOnly (c / 4) { (s.modCtx c fun x => { x with sp := sp - 4, pc := x.pc + 1 }) with dmem := m } t) ∧
    (¬inStack s c (sp - 4) → TrapsAt s c (.sqPush c r) 5 (sp - 4) (s.ctx c).pc) ∧
    (inStack s c sp → sound s (c / 4) sp.toNat 4 →
      LeavesAt s c (.sqPop c r) fun x =>
        { put r (BitVec.ofNat 32 (dataValue s (c / 4) sp.toNat 4)) x with sp := sp + 4, pc := x.pc + 1 }) ∧
    (¬inStack s c sp → TrapsAt s c (.sqPop c r) 5 sp (s.ctx c).pc) ∧
    (mask ≠ 0 → sp.toNat ≤ 0x4000 → 4 * regs.length ≤ sp.toNat →
      (∀ k < regs.length, inStack s c (sp - BitVec.ofNat 32 (4 * (k + 1)))) →
      ∃ t m, exec (.sqPushm c mask) s = .next t ∧
        (∀ k (h : k < regs.length), ∀ j < 4,
          Map.get 0 m (c / 4 * 16384 + (sp.toNat - 4 * regs.length) + 4 * k + j) = octetOf (g regs[k] (s.ctx c)) j) ∧
        (∀ b, b < c / 4 * 16384 + (sp.toNat - 4 * regs.length) ∨ c / 4 * 16384 + sp.toNat ≤ b →
          Map.get 0 m b = Map.get 0 s.dmem b) ∧
        CountersOnly (c / 4)
          { (s.modCtx c fun x => { x with sp := sp - BitVec.ofNat 32 (4 * regs.length), pc := x.pc + 2 }) with dmem := m } t) ∧
    (mask ≠ 0 → (∀ k < regs.length,
        inStack s c (sp + BitVec.ofNat 32 (4 * k)) ∧ sound s (c / 4) (sp + BitVec.ofNat 32 (4 * k)).toNat 4) →
      LeavesAt s c (.sqPopm c mask) fun x =>
        { (List.range regs.length).foldl (fun y k =>
            put (regs.getD k 0) (BitVec.ofNat 32 (dataValue s (c / 4) (sp + BitVec.ofNat 32 (4 * k)).toNat 4)) y) x with
          sp := sp + BitVec.ofNat 32 (4 * regs.length), pc := x.pc + 2 }) ∧
    (mask = 0 → TrapsAt s c (.sqPushm c mask) 1 (((s.ctx c).pc + 1).zeroExtend 32) (s.ctx c).pc ∧
      TrapsAt s c (.sqPopm c mask) 1 (((s.ctx c).pc + 1).zeroExtend 32) (s.ctx c).pc) ∧
    (imm.toNat % 4 = 0 → LeavesAt s c (.sqAddsp c imm) fun x => { x with sp := sp + imm.signExtend 32, pc := x.pc + 2 }) ∧
    LeavesAt s c (.sqGetsp c r) (fun x => { put r sp x with pc := x.pc + 1 }) ∧
    ((g r (s.ctx c)).toNat % 4 = 0 → LeavesAt s c (.sqSetsp c r) fun x => { x with sp := g r x, pc := x.pc + 1 }) ∧
    ((g r (s.ctx c)).toNat % 4 ≠ 0 → TrapsAt s c (.sqSetsp c r) 3 (g r (s.ctx c)) (s.ctx c).pc)

namespace Sys2Proof.Claim

open Machine

/-- Event `i` of Table 12-6 is pending: MESSAGE while the receive queue is not empty, the others until consumed. -/
def pending (x : Ctx) (i : Nat) : Bool := if i = 1 then !x.rx.isEmpty else x.events.testBit i

/-- The pending events within a mask, as wait writes them. -/
def gotten (x : Ctx) (mask : Word) : Word :=
  BitVec.ofFnLE fun i : Fin 32 => decide (i.val < 5) && mask.getLsbD i && pending x i

/-- What wait leaves pending: the events got are consumed, but MESSAGE. -/
def consumed (x : Ctx) (mask : Word) (e : Nat) : Prop :=
  ∀ i, e.testBit i = (x.events.testBit i && !(decide (i ≠ 1) && (gotten x mask).getLsbD i))

/-- mfs: the value of a special register that any context may read (Table 11-2). -/
def special (s : State) (c : Fin 128) (r : Nat) : Word :=
  let x := s.ctx c
  let w (n : Nat) : Word := BitVec.ofNat 32 n
  match r with
  | 0x00 => w (x.z.toNat + 2 * x.n.toNat + 4 * x.c.toNat + 8 * x.v.toNat)
  | 0x01 => w c
  | 0x02 => w (c / 4 + 256 * (c % 4))
  | 0x03 => w (x.inTrap.toNat + 2 * x.inRepeat.toNat + 4 * Bool.toNat x.debug)
  | 0x04 => w (x.cause + 128 * x.double.toNat)
  | 0x05 => w x.trapPc.toNat
  | 0x06 => x.trapInfo
  | 0x07 => w x.trapFlags.toNat
  | 0x08 => x.repRem
  | 0x09 => w s.now
  | 0x0A => x.timeHi
  | _ => w s.ticks

/-- The counter read permit of a context (R308, R348). -/
def permit (s : State) (c : Fin 128) : Prop := s.rd (0x5100 + c) 0x0B = 1

/-- A context runs and is in no wait and no path load, be it inside a repeat or not. -/
structure MayIssue (s : State) (c : Nat) : Prop where
  power : 2 ≤ s.power
  running : (s.ctx c).st = 1
  awake : (s.ctx c).waiting = none
  free : (s.ctx c).stalled = none

/-- The instruction `op` computes on registers alone: whenever it executes it leaves `f` of its context, beside counters. -/
def computes (c : Fin 128) (op : SeqOp) (f : Ctx → Ctx) : Prop :=
  (∀ u, ∃ v, Seq.exec1 c op u = .ok v ∧ CountersOnly (c / 4) (u.modCtx c f) v) ∧ ∀ x, (f x).stalled = x.stalled

/-- `k` of `n` iterations of a successor, with what STATUS and REPREM read in each. -/
def iterated (f : Ctx → Ctx) (n k : Nat) (x : Ctx) : Ctx :=
  (List.range k).foldl (fun y i => f { y with inRepeat := true, repRem := BitVec.ofNat 32 (n - i) }) x

/-- A repeat prefix `i` of `len` words with the count `n` before its successor at pc + len. -/
def Repeats (c : Fin 128) (i : Option Nat → Instr) (len : Nat) (s : State) (n : Nat) : Prop :=
  ∀ op f, Seq.decodeAt s (c / 4) ((s.ctx c).pc + BitVec.ofNat 13 len) = .ok op → computes c op f →
    LeavesAt s c (i none) (fun x =>
      { iterated f n n x with inRepeat := false, repRem := 0, pc := x.pc + BitVec.ofNat 13 len + BitVec.ofNat 13 op.len }) ∧
    ∀ m, m < n → LeavesAt s c (i (some m)) fun x =>
      { iterated f n m x with inRepeat := true, repRem := BitVec.ofNat 32 (n - m) }

end Sys2Proof.Claim

/-- R309, Table 11-9: nop and yield change nothing of the context but pc; wait returns the pending events of its mask and
consumes them, or waits; WAIT_WAKE ends a wait once an event of its mask is pending; swi traps; brk halts under debug and traps
without. -/
def Obligations.SystemInstructions : Prop :=
  ∀ (c : Fin 128) (r : Fin 8) (n : Fin 64) (s : State),
    Issues c (.sqNop c) 1 id ∧ Issues c (.sqYield c) 1 id ∧
    (CanIssue s c →
      let x := s.ctx c
      let mask := g r x
      (mask.toNat % 32 = 0 ∨ gotten x mask ≠ 0 →
        ∃ e, consumed x mask e ∧
          LeavesAt s c (.sqWait c r) fun x => { put r (gotten x mask) x with events := e, pc := x.pc + 1 }) ∧
      (mask.toNat % 32 ≠ 0 → gotten x mask = 0 →
        LeavesAt s c (.sqWait c r) fun x => { x with waiting := some (r.val, mask.toNat % 32, s.ticks), pc := x.pc + 1 }) ∧
      TrapsAt s c (.sqSwi c n) 6 (BitVec.ofNat 32 n) ((s.ctx c).pc + 1) ∧
      (x.debug = true → LeavesAt s c (.sqBrk c) fun x => { x with st := 3, pc := x.pc + 1 }) ∧
      (x.debug = false → TrapsAt s c (.sqBrk c) 7 0 ((s.ctx c).pc + 1))) ∧
    ∀ mask t, 2 ≤ s.power → (s.ctx c).st = 1 → mask < 32 → (s.ctx c).waiting = some (r.val, mask, t) →
      (gotten (s.ctx c) (BitVec.ofNat 32 mask) ≠ 0 →
        ∃ e, consumed (s.ctx c) (BitVec.ofNat 32 mask) e ∧
          LeavesAt s c (.waitWake c) fun x =>
            { put r (gotten x (BitVec.ofNat 32 mask)) x with events := e, waiting := none }) ∧
      (gotten (s.ctx c) (BitVec.ofNat 32 mask) = 0 → exec (.waitWake c) s = .next s)

/-- R315: rti restores the flags from TRAPFLAGS, pc from TRAPPC and clears InTrap, in a trap or not. R317, R342: a trap inside a
trap stops the context: TRAPCAUSE keeps the second cause with DoubleTrap set, registers and memory stay, the context is Faulted, its
locks are free and CONTEXT_FAULT is raised; a mailbox request that waits for its store loan answers nobody (R331). -/
def Obligations.TrapReturnsAndTrapsInsideTraps : Prop :=
  ∀ (c : Fin 128) (n : Fin 64) (s : State), CanIssue s c →
    LeavesAt s c (.sqRti c) (fun x => { x with
      z := x.trapFlags.getLsbD 0, n := x.trapFlags.getLsbD 1, c := x.trapFlags.getLsbD 2, v := x.trapFlags.getLsbD 3,
      pc := x.trapPc, inTrap := false }) ∧
    ((s.ctx c).inTrap = true →
      ∃ t, exec (.sqSwi c n) s = .next t ∧
        t.ctx c = { s.ctx c with
          st := 4, cause := 6, double := true, trapPc := (s.ctx c).pc + 1, trapInfo := BitVec.ofNat 32 n,
          mailbox := (s.ctx c).mailbox.bind fun m => if m.storing then some { m with discard := true } else none } ∧
        (∀ m, m ≠ c.val → t.ctx m = s.ctx m) ∧ t.dmem = s.dmem ∧ t.smem = s.smem ∧ t.cells = s.cells ∧
        t.locks = s.locks.filter (fun p => decide (p.2 ≠ c.val + 1)) ∧
        ((s.source (0x1400 + c)).lastAt ≠ some s.ticks →
          (t.source (0x1400 + c)).sticky = true ∧
          t.rd (0x9400 + c) 4 = min 0xFFFFFFFF (s.rd (0x9400 + c) 4 + 1)))

/-- R297: a word that spells no instruction traps with UNDEF and TRAPINFO its offending word; so do operands that R301 and R308
call reserved.
Choices of the model that it rests on: log entry 86. -/
def Obligations.UndefinedWordsTrap : Prop :=
  ∀ (c : Fin 128) (s : State), CanIssue s c →
    (∀ w e1 e2 k, SeqDecode.decode w e1 e2 = .error k →
      TrapsAt s c (.sqUndef c w e1 e2) 1 (((s.ctx c).pc + BitVec.ofNat 13 k).zeroExtend 32) (s.ctx c).pc) ∧
    (∀ w : PWord, 0x2C00 ≤ w.toNat → ∀ e1 e2, SeqDecode.decode w e1 e2 = .error 0) ∧
    (∀ gd gs : Fin 8, ∀ lsb w1 : Fin 32, 32 < lsb.val + w1.val + 1 →
      TrapsAt s c (.sqExtu c gd gs lsb w1) 1 (((s.ctx c).pc + 1).zeroExtend 32) (s.ctx c).pc ∧
      TrapsAt s c (.sqExts c gd gs lsb w1) 1 (((s.ctx c).pc + 1).zeroExtend 32) (s.ctx c).pc ∧
      TrapsAt s c (.sqIns c gd gs lsb w1) 1 (((s.ctx c).pc + 1).zeroExtend 32) (s.ctx c).pc) ∧
    (∀ gd : Fin 8,
      TrapsAt s c (.sqCrc8m c gd gd) 1 ((s.ctx c).pc.zeroExtend 32) (s.ctx c).pc ∧
      TrapsAt s c (.sqCrc16m c gd gd) 1 ((s.ctx c).pc.zeroExtend 32) (s.ctx c).pc ∧
      TrapsAt s c (.sqCrc32m c gd gd) 1 ((s.ctx c).pc.zeroExtend 32) (s.ctx c).pc) ∧
    (∀ (r : Fin 8) (n : BitVec 8), n ≠ 0x00 → n ≠ 0x05 → n ≠ 0x07 → n ≠ 0x2A →
      TrapsAt s c (.sqMts c r n) 1 (((s.ctx c).pc + 1).zeroExtend 32) (s.ctx c).pc)

/-- Table 11-2, R308: mfs reads each special register, TIMELO latching TIMEHI; mts writes FLAGS, TRAPPC and TRAPFLAGS; the
counter registers need the read permit. -/
def Obligations.SpecialRegisters : Prop :=
  ∀ (c : Fin 128) (r : Fin 8) (s : State), CanIssue s c →
    (∀ n : BitVec 8, n.toNat ≤ 0x0B →
      LeavesAt s c (.sqMfs c r n) fun x =>
        { put r (special s c n.toNat) x with
          timeHi := if n = 0x09 then BitVec.ofNat 32 (s.now / 2 ^ 32) else x.timeHi, pc := x.pc + 2 }) ∧
    (∀ n : BitVec 8, 0x22 ≤ n.toNat → n.toNat ≤ 0x29 → permit s c →
      LeavesAt s c (.sqMfs c r n) fun x =>
        { put r (BitVec.ofNat 32 (s.rd (0x5400 + c / 4) (2 + (n.toNat - 0x22)))) x with pc := x.pc + 2 }) ∧
    (∀ n : BitVec 8, 0x20 ≤ n.toNat → n.toNat ≤ 0x2B → ¬permit s c →
      TrapsAt s c (.sqMfs c r n) 8 (n.zeroExtend 32) (s.ctx c).pc) ∧
    LeavesAt s c (.sqMts c r 0x00) (fun x =>
      { x with z := (g r x).getLsbD 0, n := (g r x).getLsbD 1, c := (g r x).getLsbD 2, v := (g r x).getLsbD 3, pc := x.pc + 2 }) ∧
    LeavesAt s c (.sqMts c r 0x05) (fun x => { x with trapPc := (g r x).truncate 13, pc := x.pc + 2 }) ∧
    LeavesAt s c (.sqMts c r 0x07) (fun x => { x with trapFlags := (g r x).truncate 4, pc := x.pc + 2 })

/-- R310 to R312: a prefix makes a successor that computes on registers execute count times, a count of 0 skipping it, and pc
moves past both; a stop after m iterations leaves InRepeat set and REPREM at those left, which run when the prefix resumes; a
successor of R311 traps with REPEAT_HAZARD and an undefined one with UNDEF. -/
def Obligations.RepeatPrefixes : Prop :=
  ∀ (c : Fin 128) (gc : Fin 8) (n : BitVec 14) (s : State), MayIssue s c →
    let x := s.ctx c
    let count := if x.inRepeat then x.repRem.toNat else (g gc x).toNat
    let counti := if x.inRepeat then x.repRem.toNat else n.toNat
    (∀ op, Seq.decodeAt s (c / 4) (x.pc + 1) = .ok op → Seq.hazardous op = false → gc ∉ Seq.writes op →
      Repeats c (fun m => .sqRep c gc m) 1 s count) ∧
    (∀ op, Seq.decodeAt s (c / 4) (x.pc + 2) = .ok op → Seq.hazardous op = false →
      Repeats c (fun m => .sqRepi c n m) 2 s counti) ∧
    (x.inRepeat = false → ∀ op m, Seq.decodeAt s (c / 4) (x.pc + 1) = .ok op → Seq.hazardous op = true ∨ gc ∈ Seq.writes op →
      TrapsAt s c (.sqRep c gc m) 2 ((x.pc + 1).zeroExtend 32) x.pc) ∧
    (x.inRepeat = false → ∀ op m, Seq.decodeAt s (c / 4) (x.pc + 2) = .ok op → Seq.hazardous op = true →
      TrapsAt s c (.sqRepi c n m) 2 ((x.pc + 2).zeroExtend 32) x.pc) ∧
    (x.inRepeat = false → ∀ k m, Seq.decodeAt s (c / 4) (x.pc + 1) = .error k →
      TrapsAt s c (.sqRep c gc m) 1 ((x.pc + 1).zeroExtend 32) x.pc)

/-! ### Cells: the Teller, protection, banks, gangs and PWM (chapters 04 to 07) -/

namespace Sys2Proof.Claim

open Machine

/-- The command `i` in the state `s` answers the next state in which its own effect is `u`; what follows at the same tick
(declined requests, engines that see their cells, notifications, frames that leave: R69) settles on `u`. -/
def Effect (s : State) (i : Instr) (u : State) : Prop := exec i s = .next (s.after u)

/-- The command has no effect of its own. -/
def Stays (s : State) (i : Instr) : Prop := Effect s i s

/-- One occurrence of source `id` has reached the Audit between `s` and `u` (R463): Sticky is set and OccurrenceCount has
advanced, unless one was counted at this tick or the bank's reports are silenced. -/
def raised (s u : State) (id : Nat) : Prop :=
  (s.source id).lastAt ≠ some s.ticks → Audit.silenced s id = false →
    (u.source id).sticky = true ∧ u.rd (0x8000 + id) 4 = min 0xFFFFFFFF (s.rd (0x8000 + id) 4 + 1)

/-- No entry but those of groups in `P` differs. -/
def entriesBut (s u : State) (P : Nat → Prop) : Prop := ∀ i j, j < 256 → ¬P i → u.rd i j = s.rd i j

/-- No cell but those in `P` differs. -/
def cellsBut (s u : State) (P : Nat → Prop) : Prop := ∀ m, ¬P m → u.cell m = s.cell m

/-- A channel that is a unit of its own: no gang, no bridge. -/
structure Alone (s : State) (n : Nat) : Prop where
  gang : s.gangOf n = none
  bridge : s.bridgeOf n = none

/-- R144: what a trip of cell `n` leaves: every cell that shares its protection state is off and waits for its retry or is
latched, the trip is recorded and raised, and the governor holds no loan. -/
structure Tripped (s u : State) (n : Nat) (limiting : Bool) (kind : Nat) (current : Int) : Prop where
  off : ∀ m ∈ Protect.shared s n, (u.cell m).drive = (if Cells.conducting (s.cell m) then 0 else (s.cell m).drive) ∧ (u.cell m).prot =
    if s.rd (0x4400 + Protect.governor s n) 2 < s.rd (0x4000 + Protect.governor s n) 0x12 then 2 else 4
  count : u.rd (0x4400 + n) 3 = min 0xFFFFFFFF (s.rd (0x4400 + n) 3 + 1)
  at_ : u.rd (0x4400 + n) 5 = s.stamp (n / 32)
  current : u.rd (0x4400 + n) 6 = rawOf 16 current
  kind : u.rdField (0x4400 + n) 1 8 2 = kind
  told : raised s u (n * 8 + if limiting then 0 else 1)
  loan : Teller.loanOf u.teller (Protect.governor s n) = none
  others : cellsBut s u fun m => m = n ∨ m ∈ Protect.shared s n
  rest : u = { s with
    cells := u.cells, ledger := u.ledger, sources := u.sources, teller := u.teller, gangs := u.gangs, free := u.free }

end Sys2Proof.Claim

/-- R140 to R147, Table 05-4: Limiting begins when a cell of state Normal whose limited switch conducts engages its limit;
LimitDwell of accumulated Limiting and 175 °C trip the cell, a trip that SupplyOff pre-empts turns it off and is not told, and at the
tick of an owner's turn-off, or of a trip by LimitDwell, the trip is still recorded; at 160 °C the shutdown ends and a committed
command is driven; an elapsed RetrySpacing requests the retry loan; RetriesUsed returns to 0 after 1 s of conduction; where its
condition does not hold, each event leaves the cell alone.
Choices of the model that it rests on: log entries 2, 148, 149 (2: an event whose condition does not hold changes nothing; 149: what
shows that a junction is cool). -/
def Obligations.LimitingTripsAndRetries : Prop :=
  ∀ (n : Fin 512) (current : Int) (s : State), 2 ≤ s.power →
    let c := s.cell n
    let d := s.rd (0x4000 + n) 0x11
    let conducts := Cells.onNow c = true ∧ Cells.side s n ≠ 0
    let lit := (Protect.shared s n).filter fun m => Cells.conducting (s.cell m)
    let hot := s.modCell n fun c => { c with thermalOff := true, hot := true }
    let cold := s.modCell n fun c => { c with thermalOff := false, hot := false }
    let h := s.head n
    let w := s.cell h
    let late := (c.prot = 2 ∨ c.prot = 4) ∧ c.tripAt = s.ticks ∧ c.tripLimiting = true ∧ s.rdField (0x4400 + n) 1 8 2 = 2
    let calls := (s.unit n).contains n = true ∧ w.prot = 0 ∧ Chan.conducts w.want = true
    let asked := Teller.request (Cells.retryLoan s n) false (s.modCells (s.shared n) fun c => { c with prot := 3 })
    (c.prot = 0 → conducts →
      Effect s (.limitEngage n) (s.modCell n fun c => { Cells.tally s.ticks c with prot := 1, clearAcc := 0, belowOnce := false })) ∧
    (c.prot ≠ 0 ∨ ¬conducts → Stays s (.limitEngage n)) ∧
    (c.prot = 1 → d ≠ 0 → c.winTo = 0 → d * 1000 ≤ Protect.accumulated s n →
      (Protect.supplyDue s (n / 32) = false → ∃ u, Effect s (.limitDwellExpiry n current) u ∧ Tripped s u n true 2 current) ∧
      (Protect.supplyDue s (n / 32) = true → Effect s (.limitDwellExpiry n current) (Cells.switchTo lit 0 0 s))) ∧
    (c.prot ≠ 1 ∨ d = 0 ∨ c.winTo ≠ 0 ∨ Protect.accumulated s n < d * 1000 → Protect.cutNow s n = none →
      Stays s (.limitDwellExpiry n current)) ∧
    (∀ a, Protect.cutNow s n = some (some a) → d ≠ 0 → d * 1000 ≤ a →
      Effect s (.limitDwellExpiry n current) (Protect.tripRecord n true 2 current (s.modCell n fun c => { c with cut := none }))) ∧
    (c.prot ≤ 1 → Cells.conducting c = true →
      (Protect.supplyDue s (n / 32) = false →
        ∃ u, Effect s (.thermalShutdown n current) u ∧ (u.cell n).thermalOff = true ∧ (u.cell n).hot = true ∧
          Tripped s u n (decide (c.prot = 1)) (if c.prot = 1 then 1 else 3) current) ∧
      (Protect.supplyDue s (n / 32) = true → Effect s (.thermalShutdown n current) (Cells.switchTo lit 0 0 hot))) ∧
    (late → Effect s (.thermalShutdown n current) (hot.wrField (0x4400 + n) 1 8 2 1)) ∧
    (∀ a, Protect.cutNow s n = some a → Cells.conducting c = false →
      Effect s (.thermalShutdown n current)
        (Protect.tripRecord n a.isSome (if a.isSome then 1 else 3) current (hot.modCell n fun c => { c with cut := none }))) ∧
    (2 ≤ c.prot ∨ Cells.conducting c = false → ¬late → Protect.cutNow s n = none → Effect s (.thermalShutdown n current) hot) ∧
    (c.thermalOff = false → Stays s (.thermalRecover n)) ∧
    (c.thermalOff = true →
      (¬calls → Effect s (.thermalRecover n) cold) ∧
      (calls → (∃ m ∈ s.unit n, Cells.conducting (s.cell m) = true) → Effect s (.thermalRecover n) (Cells.join n cold)) ∧
      (calls → (∀ m ∈ s.unit n, Cells.conducting (s.cell m) = false) → w.loanPending = true ∨ Cells.waitsHeat cold h = true →
        Effect s (.thermalRecover n) cold) ∧
      (calls → (∀ m ∈ s.unit n, Cells.conducting (s.cell m) = false) → w.loanPending = false → Cells.waitsHeat cold h = false →
        (Chan.heavy (Chan.loadClass s h) = true → Effect s (.thermalRecover n) (Cells.askTurnOn h w.want false cold)) ∧
        (Chan.heavy (Chan.loadClass s h) = false →
          Effect s (.thermalRecover n) (cold.modBank (h / 32) fun b => { b with
            queue := b.queue ++ [{ chan := h, cmd := w.want, duty := w.wantDuty, at_ := s.ticks }] })))) ∧
    (Protect.retryDue s n = true →
      (asked.2 = .ok → Effect s (.retrySpacingExpiry n) asked.1) ∧
      (asked.2 ≠ .ok →
        Effect s (.retrySpacingExpiry n) (asked.1.modCells (s.shared n) fun c => { c with prot := 2, tripAt := s.ticks }))) ∧
    (Protect.retryDue s n = false → Stays s (.retrySpacingExpiry n)) ∧
    (Cells.conducting c = true → 1000000 ≤ (Cells.tally s.ticks c).runAcc →
      ∃ u, Effect s (.retriesUsedReset n) u ∧ u = { s with ledger := u.ledger } ∧
        (∀ m ∈ Protect.shared s n, u.rd (0x4400 + m) 2 = 0) ∧
        ∀ i j, j < 256 → ((∀ m ∈ Protect.shared s n, i ≠ 0x4400 + m) ∨ j ≠ 2) → u.rd i j = s.rd i j) ∧
    (Cells.conducting c = false ∨ (Cells.tally s.ticks c).runAcc < 1000000 → Stays s (.retriesUsedReset n))

/-- R152 to R161: a freewheel proof starts on an off LoadClass 5 cell that is due one, and the means of the last ten samples of its
two steps decide FreewheelProven for the unit; an off-state cycle begins its pull phase, and its end sets OpenOff at the second open
cycle in a row and clears it at one that is not open; conditions that have held confirm STUCK_HIGH, OPEN_ON and WIRED_OR, the last by
read-back in place of the others; while diagnostics pause, none of them gives a result.
Choices of the model that it rests on: log entries 2, 61 (2: an event whose condition does not hold changes nothing). -/
def Obligations.ProofsAndLoadDiagnostics : Prop :=
  ∀ (n a : Fin 512) (pin partner r25 r50 : Int) (s : State), 2 ≤ s.power →
    let c := s.cell n
    let w := s.cell (s.lead n)
    let v25 := if w.drops25.length = 10 then w.drops25.sum else r25
    let v50 := if w.drops50.length = 10 then w.drops50.sum else r50
    (Chan.loadClass s n = 5 → s.head n = n → c.cmd = 0 → w.drive = 0 → c.prot = 0 → 8000 ≤ (s.bank (n / 32)).supplyMv →
      Protect.proofDue s n = true →
      Effect s (.proofStart n) (s.modCells (s.crew n) fun c => { c with
        prot := 6, proofFrom := s.ticks, proofAt := some s.ticks, proofAsked := false, pulling := false, drops25 := [], drops50 := [] })) ∧
    (Protect.proofReady s n = false ∨ Protect.proofDue s n = false → Stays s (.proofStart n)) ∧
    (w.prot = 6 → w.proofFrom + 2000 ≤ s.ticks → s.head n = n →
      ∃ u, Effect s (.proofComplete n r25 r50) u ∧
        (∀ m ∈ s.unitAll n, ((u.cell m).proven = true ↔ (300 ≤ v50 ∧ v50 ≤ 1100 ∧ 0 ≤ v50 - v25 ∧ v50 - v25 ≤ 100)) ∧
          (u.cell m).prot = (if (s.cell m).prot = 6 then 0 else (s.cell m).prot) ∧ (u.cell m).drive = (s.cell m).drive ∧
          u.rd (0x4400 + m) 8 = min 65535 (v50.toNat / 10) ∧ u.rd (0x4400 + m) 9 = min 65535 (v25.toNat / 10) ∧
          u.rd (0x4400 + m) 0x0A = s.now ∧ u.rd (0x4400 + m) 0x0D = 0 ∧ u.rdBit (0x4400 + m) 1 5 = decide (v50 < 300)) ∧
        cellsBut s u (fun m => m ∈ s.unitAll n) ∧
        u = { s with cells := u.cells, ledger := u.ledger, sources := u.sources }) ∧
    (w.prot ≠ 6 ∨ s.ticks < w.proofFrom + 2000 ∨ s.head n ≠ n → Stays s (.proofComplete n r25 r50)) ∧
    (Alone s n → c.drive = 0 → c.cycleAt = none → s.rdBit (0x4000 + n) 0x16 0 = true → Protect.paused s n = false →
      Protect.pull s n ≠ 2 →
      Effect s (.offDiagCycle n) (s.modCell n fun c => { c with cycleAt := some s.ticks, pulling := true })) ∧
    (c.drive ≠ 0 → Stays s (.offDiagCycle n)) ∧
    (c.pulling = true → (∃ t, c.cycleAt = some t ∧ t + 1000 ≤ s.ticks) →
      (Protect.paused s n = true → Effect s (.offDiagEvaluate n pin partner) (s.modCell n fun c => { c with pulling := false })) ∧
      (Protect.paused s n = false → Alone s n →
        ∃ u, Effect s (.offDiagEvaluate n pin partner) u ∧
          u.cell n = { c with pulling := false, openCycles := if Protect.readsOpen s n pin partner then c.openCycles + 1 else 0 } ∧
          u.rdBit (0x4400 + n) 1 1 =
            (if Protect.readsOpen s n pin partner then
              s.rdBit (0x4400 + n) 1 1 || (decide (1 ≤ c.openCycles) && !Protect.wiredRead c) else false) ∧
          cellsBut s u (fun m => m = n) ∧ u = { s with cells := u.cells, ledger := u.ledger, sources := u.sources })) ∧
    (c.pulling = false → Stays s (.offDiagEvaluate n pin partner)) ∧
    (∀ t, c.stuckAcc = some t → 5000 ≤ t → Protect.wiredRead c = false → Protect.paused s n = false →
      ∃ u, Effect s (.stuckHighConfirm n) u ∧ u.rdBit (0x4400 + n) 1 2 = true ∧
        (s.rdBit (0x4400 + n) 1 2 = false → raised s u (n * 8 + 4)) ∧ u.cells = s.cells) ∧
    (c.stuckAcc = none ∨ Protect.paused s n = true → Stays s (.stuckHighConfirm n)) ∧
    (∀ t, c.openOnAcc = some t → s.rd (0x4000 + n) 0x15 * 1000 ≤ t → Protect.paused s n = false →
      ∃ u, Effect s (.openOnConfirm n) u ∧ u.rdBit (0x4400 + n) 1 0 = true ∧
        (s.rdBit (0x4400 + n) 1 0 = false → raised s u (n * 8 + 2)) ∧ u.cells = s.cells) ∧
    (c.openOnAcc = none ∨ Protect.paused s n = true → Stays s (.openOnConfirm n)) ∧
    (∀ x ∈ c.wired, x.partner = a.val → (if x.byCurrent then 1000 else 5000) ≤ x.ticks → a ≠ n → n.val / 32 = a.val / 32 →
      Protect.paused s n = false → Protect.paused s a = false →
      ∃ u, Effect s (.wiredOrConfirm a n) u ∧ u.rdBit (0x4400 + n) 1 3 = true ∧ u.rdBit (0x4400 + a) 1 3 = true ∧
        u.rd (0x4400 + n) 7 ≤ a ∧ u.rd (0x4400 + a) 7 ≤ n ∧
        (x.byCurrent = false → u.rdBit (0x4400 + n) 1 1 = false ∧ u.rdBit (0x4400 + n) 1 2 = false) ∧
        ((∀ m, ∀ y ∈ (s.cell m).wired, y.told = false) → u.rd (0x4400 + n) 7 = a ∧ u.rd (0x4400 + a) 7 = n) ∧
        cellsBut s u (fun m => m = n) ∧ u = { s with cells := u.cells, ledger := u.ledger, sources := u.sources }) ∧
    ((∀ x ∈ c.wired, x.partner = a.val → x.ticks < if x.byCurrent then 1000 else 5000) ∨ Protect.paused s n = true ∨
      Protect.paused s a = true → Stays s (.wiredOrConfirm a n))

/-- R127, R136, R163 to R165, R479: below 4.5 V for 50 µs every cell of the bank is off and remembers its state, above 6.5 V for
100 µs it resumes by that state; below 3.0 V protection states, RetriesUsed and proofs are lost and the bank's commands with them; the supply, its
overvoltage, the alignment and the bank clock are shown and told as each condition begins. Supply loss drops debounce candidates,
and a running freewheel proof ends below 8 V; an aligned bank stands within 50 ns of module time and of every other aligned bank.
Choices of the model that it rests on: log entries 2, 65 (2: an event whose condition does not hold changes nothing). -/
def Obligations.BankSupplyAndClock : Prop :=
  ∀ (b : Fin 16) (mv hz : Nat) (err : Int) (s : State), 2 ≤ s.power →
    let r := s.bank b
    let err' := if r.aligned then err else max (-1000) (min 1000 err)
    let held (u : State) : Prop := ∀ n, u.cell n =
      if mv < 8000 ∧ n / 32 = b.val ∧ (s.cell n).prot = 6 then { s.cell n with prot := 0 } else s.cell n
    (r.supplyOff = false → r.supplyMv < 4500 → r.bandAt + 50 ≤ s.ticks →
      ∃ u, Effect s (.supplyOffEnter b) u ∧ (u.bank b).supplyOff = true ∧ (r.reached = true → raised s u (0x1000 + b * 16)) ∧
        (∀ n, n / 32 = b.val → (u.cell n).prot = 5 ∧ (u.cell n).drive = (if (s.cell n).drive = 5 then 5 else 0) ∧
          (u.cell n).preempted = (if (s.cell n).prot = 5 then (s.cell n).preempted
            else if (s.cell n).prot = 6 then 0 else (s.cell n).prot)) ∧
        (∀ n, u.input n = if n / 32 = b.val then { s.input n with cand := none, ready := false } else s.input n) ∧
        cellsBut s u (fun m => m / 32 = b.val) ∧
        u = { s with
          cells := u.cells, ledger := u.ledger, sources := u.sources, banks := u.banks, teller := u.teller,
          inputs := u.inputs, free := u.free }) ∧
    (r.supplyOff = true ∨ 4500 ≤ r.supplyMv ∨ s.ticks < r.bandAt + 50 → Stays s (.supplyOffEnter b)) ∧
    (r.supplyOff = true → 6500 < r.supplyMv → r.highAt + 100 ≤ s.ticks → r.unpowered = false →
      ∃ u, Effect s (.supplyOffEnd b) u ∧ (u.bank b).supplyOff = false ∧
        ((∀ n, n / 32 = b.val → s.gangOf n = none) →
          ∀ n, n / 32 = b.val → (u.cell n).prot = if (s.cell n).preempted = 4 then 4
            else if (s.cell n).preempted = 2 ∨ (s.cell n).preempted = 3 then 2 else 0)) ∧
    (r.supplyOff = false ∨ r.supplyMv ≤ 6500 ∨ s.ticks < r.highAt + 100 ∨ r.unpowered = true → Stays s (.supplyOffEnd b)) ∧
    (r.unpowered = false → r.supplyMv < 3000 →
      ∃ u, Effect s (.bankLogicPowerLoss b) u ∧ (u.bank b).unpowered = true ∧ (u.bank b).queue = [] ∧ (u.bank b).aligned = false ∧
        (∀ n, n / 32 = b.val → (u.cell n).prot = 5 ∧ (u.cell n).preempted = 0 ∧ (u.cell n).drive = 0 ∧
          (u.cell n).proven = false ∧ u.rd (0x4400 + n) 2 = 0 ∧ (u.input n).cand = none ∧ (u.input n).known = false) ∧
        cellsBut s u fun m => m / 32 = b.val) ∧
    (r.unpowered = true ∨ 3000 ≤ r.supplyMv → Stays s (.bankLogicPowerLoss b)) ∧
    (r.unpowered = true → 6500 < r.supplyMv → r.highAt + 100 ≤ s.ticks →
      ∃ u, Effect s (.bankLogicReturn b) u ∧ (u.bank b).unpowered = false ∧ (u.bank b).supplyOff = false ∧
        ∀ n, n / 32 = b.val → (u.cell n).prot = 0) ∧
    (r.unpowered = false ∨ r.supplyMv ≤ 6500 ∨ s.ticks < r.highAt + 100 → Stays s (.bankLogicReturn b)) ∧
    (∃ u, Effect s (.bankSupplyThreshold b mv) u ∧ (u.bank b).supplyMv = mv ∧ held u ∧
      (mv < 4500 → (∃ n, n / 32 = b.val ∧ Chan.command s n ≠ 0 ∧ Chan.command s n ≠ 5) → r.absentTold = false →
        raised s u (0x1000 + b * 16 + 5))) ∧
    (∃ u, Effect s (.overvoltage b mv) u ∧ (u.bank b).supplyMv = mv ∧ held u ∧
      (u.bank b).overVoltage = (decide (32000 < mv) && !r.unpowered) ∧
      (32000 < mv → r.unpowered = false → r.overVoltage = false → raised s u (0x1000 + b * 16 + 3))) ∧
    (r.unpowered = false → r.resetting = false →
      ∃ u, Effect s (.timeAligned b err) u ∧ u.rd (0x4900 + b) 0x0A = rawOf 32 (satSigned 32 err') ∧
        (err'.natAbs ≤ 50 → (∀ k < 16, k ≠ b.val → (s.bank k).aligned = true → (err' - Protect.alignment s k).natAbs ≤ 50) →
          (u.bank b).aligned = true ∧ (u.bank b).alignLost = false) ∧
        (50 < err'.natAbs → r.aligned = true → r.alignLost = false →
          (u.bank b).alignLost = true ∧ raised s u (0x1000 + b * 16 + 4))) ∧
    (r.unpowered = true ∨ r.resetting = true → Stays s (.timeAligned b err)) ∧
    (r.unpowered = false →
      ∃ u, Effect s (.clockFault b hz) u ∧ u.rd (0x4900 + b) 9 = min hz 0xFFFFFFFF ∧
        ((u.bank b).clockFault = true ↔ (hz < 36000000 ∨ 44000000 < hz)) ∧
        (hz < 36000000 ∨ 44000000 < hz → r.clockFault = false → raised s u (0x1000 + b * 16 + 2))) ∧
    (r.unpowered = true → Stays s (.clockFault b hz))

/-- R128, R129, R144, R146: at its slot a bank applies a queued command: OFF and FLOAT end every protection state and
RetriesUsed, a conducting command drives the output where protection does not keep it off, HOLD_LAST freezes it, and one whose
check fails leaves the cell, is resent once and then told; each powered bank hears the heartbeat of the running pair, and a bank
that has heard none for 1.35 ms enters escrow.
Choices of the model that it rests on: log entries 2, 54 (2: an event whose condition does not hold changes nothing). -/
def Obligations.CommandsReachTheirCells : Prop :=
  ∀ (b : Fin 16) (n : Fin 512) (cmd duty t : Nat) (granted : Bool) (s : State), 2 ≤ s.power →
    let c := s.cell n
    let r := s.bank b
    let q (resent : Bool) : BankCmd := { chan := n, cmd := cmd, duty := duty, at_ := t, resent := resent, granted := granted }
    (n / 32 = b.val → Alone s n → (∀ p ∈ s.inputs, p.2.load = none) → Gangs.releasable s b = [] →
      (r.queue = [] → Effect s (.bankCommandSlot b []) (s.modBank b id)) ∧
      (r.queue = [q false] → cmd = 0 ∨ cmd = 5 → c.prot ≠ 5 → c.prot ≠ 6 → c.loanPending = false →
        ∃ u, Effect s (.bankCommandSlot b []) u ∧ (u.bank b).queue = [] ∧ (u.cell n).drive = cmd ∧ (u.cell n).prot = 0 ∧
          (u.cell n).frozen = false ∧ u.rd (0x4400 + n) 2 = 0 ∧ cellsBut s u (fun m => m = n.val) ∧
          Teller.loanOf u.teller n = none ∧
          u = { s with cells := u.cells, ledger := u.ledger, banks := u.banks, teller := u.teller, free := u.free }) ∧
      (r.queue = [q false] → Chan.conducts cmd = true → c.prot ≤ 1 ∨ c.prot = 6 → c.thermalOff = false →
        Chan.conducts c.want = true → Chan.lamp (Chan.loadClass s n) = false →
        ∃ u, Effect s (.bankCommandSlot b []) u ∧ (u.bank b).queue = [] ∧ (u.cell n).drive = cmd ∧ (u.cell n).duty = duty ∧
          (u.cell n).prot = (if c.prot = 6 then 0 else c.prot) ∧ (u.cell n).frozen = false ∧
          cellsBut s u (fun m => m = n.val) ∧
          u = { s with cells := u.cells, ledger := u.ledger, banks := u.banks, teller := u.teller, free := u.free }) ∧
      (r.queue = [q false] → cmd = 4 →
        Effect s (.bankCommandSlot b [])
          ((s.modBank b fun r => { r with queue := [] }).modCell n fun c => { c with frozen := true })) ∧
      (r.queue = [q false] →
        Effect s (.bankCommandSlot b [n])
          (((s.modBank b fun r => { r with queue := [] }).inc (0x4900 + b) 0x0B).modBank b fun r =>
            { r with queue := r.queue ++ [q true] })) ∧
      (r.queue = [q true] →
        ∃ u, Effect s (.bankCommandSlot b [n]) u ∧ (u.bank b).queue = [] ∧ u.cells = s.cells ∧
          raised s u (0x1000 + b * 16 + 7))) ∧
    (s.supervisor.runs = true →
      ∃ u, Effect s .heartbeat u ∧ ∀ k < 16,
        ((s.bank k).unpowered = false → (u.bank k).beatAt = s.ticks ∧ (u.bank k).lost = false ∧ (u.bank k).escrow ≠ .heartbeat) ∧
        ((s.bank k).unpowered = true → (u.bank k).beatAt = (s.bank k).beatAt)) ∧
    (s.supervisor.runs = false → Stays s .heartbeat) ∧
    (r.unpowered = false → r.lost = false → r.beatAt + 1350 ≤ s.ticks → r.escrow = .none →
      ∃ u, Effect s (.heartbeatLost b) u ∧ (u.bank b).lost = true ∧ (u.bank b).escrow = .heartbeat ∧
        u.rd (0x4900 + b) 8 = min 0xFFFFFFFF (s.rd (0x4900 + b) 8 + 1) ∧ raised s u (0x1000 + b * 16 + 1) ∧
        (∀ n, n / 32 = b.val → Chan.owner s n ≠ 0xF100 → Chan.owner u n = 0xF000 ∧ (u.cell n).drive = (s.cell n).drive) ∧
        cellsBut s u fun m => m / 32 = b.val) ∧
    (r.unpowered = true ∨ r.lost = true ∨ s.ticks < r.beatAt + 1350 → Stays s (.heartbeatLost b))

/-- R174 to R176, R179 to R184: a confirmed imbalance asks the takeover loan of a reserve that stands by, and isolates the member
at once without one; the deadline releases the failed member with the reserve in use; a declined loan is asked again; a PWM period
starts on its grid with the duty committed now, its on-phase ends at its on-time, and an inrush window ends with its loan.
Choices of the model that it rests on: log entries 2, 62, 63 (2: an event whose condition does not hold changes nothing). -/
def Obligations.GangsPwmAndInrush : Prop :=
  ∀ (g : Fin 64) (n : Fin 512) (s : State), 2 ≤ s.power →
    let v := Gangs.config s g
    let r := s.gang g
    let c := s.cell n
    let w := s.cell (s.lead n)
    let base := field v 0 4 * 32
    let ask (t : State) := Teller.request (Gangs.takeoverLoan s v) false t
    let again := ask (s.modGang g fun r => { r with pending := true, retryAt := none })
    (∀ p, r.candidate = some p → bitOf v 15 = true → 10000 ≤ r.heldFor → r.failing = none → Gangs.standsBy s g = true → r.pending = false →
      let first := ask (s.modGang g fun r => { r with
        pending := true, retryAt := none, failing := some (p, s.ticks), candidate := none, heldFor := 0 })
      (first.2 = .ok → Effect s (.imbalanceConfirm g) first.1) ∧
      (first.2 ≠ .ok → Effect s (.imbalanceConfirm g) (Gangs.unlent g first.1))) ∧
    (∀ p, r.candidate = some p → p < 32 → bitOf v 15 = true → 10000 ≤ r.heldFor → r.failing = none →
      Gangs.standsBy s g = false ∨ r.pending = true →
      ∃ u, Effect s (.imbalanceConfirm g) u ∧ (u.gang g).isolated = r.isolated ++ [p] ∧ (u.gang g).candidate = none ∧
        (u.cell (base + p)).drive = 0 ∧ u.rdBit (0x4400 + base + p) 1 0 = true ∧
        (∀ k ∈ [1, 2, 3, 7], u.rdBit (0x4400 + base + p) 1 k = false) ∧
        (s.rdBit (0x4400 + base + p) 1 0 = false → raised s u ((base + p) * 8 + 2)) ∧
        cellsBut s u (fun m => m = base + p) ∧
        u = { s with cells := u.cells, gangs := u.gangs, ledger := u.ledger, sources := u.sources, free := u.free }) ∧
    (r.candidate = none ∨ bitOf v 15 = false ∨ r.heldFor < 10000 ∨ r.failing ≠ none → Stays s (.imbalanceConfirm g)) ∧
    (∀ p t, r.failing = some (p, t) → p < 32 → t + 2000 ≤ s.ticks → r.reserveIn = true → r.pending = true →
      ∃ u, Effect s (.takeoverDeadline g) u ∧ (u.gang g).failing = none ∧ (u.gang g).pending = false ∧
        (u.gang g).isolated = r.isolated ++ [p] ∧ (u.cell (base + p)).drive = 0 ∧
        u.rd (0x4800 + g) 4 = min 0xFFFFFFFF (s.rd (0x4800 + g) 4 + 1) ∧ u.rd (0x4800 + g) 5 = s.stamp (field v 0 4) ∧
        u.rd (0x4800 + g) 6 = min 0xFFFFFFFF (s.ticks - t) ∧ cellsBut s u fun m => m = base + p) ∧
    (r.failing = none ∨ r.reserveIn = false ∨ r.pending = false → Stays s (.takeoverDeadline g)) ∧
    (∀ t, r.retryAt = some t → t ≤ s.ticks → bitOf v 15 = true → Gangs.standsBy s g = true →
      (∃ m ∈ s.activeMembers g v, Cells.conducting (s.cell m) = true) →
      (again.2 = .ok → Effect s (.takeoverRetry g) again.1) ∧
      (again.2 ≠ .ok → Effect s (.takeoverRetry g) (Gangs.unlent g again.1))) ∧
    (r.retryAt = none → Stays s (.takeoverRetry g)) ∧
    (Coil.slotsOf s n = [] → w.drive = 3 → s.head n = n → Gangs.gridNow s n = true →
      (Gangs.softOver s n = false →
        let d := Gangs.dutyNow s n
        let t := Gangs.onTime s n d
        ∃ u, Effect s (.pwmPeriodStart n) u ∧
          (∀ m ∈ s.unit n, (s.cell m).drive = 3 → (u.cell m).duty = d ∧ (u.cell m).onPhase = decide (t ≠ 0) ∧
            (u.cell m).onEnd = s.now + t ∧ (u.cell m).drive = 3) ∧
          cellsBut s u (fun m => m ∈ s.unit n ∧ (s.cell m).drive = 3) ∧
          u = { s with cells := u.cells, ledger := u.ledger, teller := u.teller, free := u.free }) ∧
      (Gangs.softOver s n = true →
        ∃ u, Effect s (.pwmPeriodStart n) u ∧ (∀ m ∈ s.unit n, (s.cell m).drive = 3 → (u.cell m).drive = c.want) ∧
          (u.cell n).soft = false ∧ cellsBut s u fun m => m ∈ s.crew n)) ∧
    (Gangs.gridNow s n = false ∨ (Coil.slotsOf s n = [] ∧ w.drive ≠ 3) → Stays s (.pwmPeriodStart n)) ∧
    (w.drive = 3 → w.onPhase = true → w.onEnd ≤ s.now → s.head n = n →
      ∃ u, Effect s (.pwmOnEnd n) u ∧
        (∀ m ∈ s.unit n, (s.cell m).drive = 3 →
          (u.cell m).onPhase = false ∧ (u.cell m).drive = 3 ∧ (u.cell m).duty = (s.cell m).duty) ∧
        cellsBut s u (fun m => m ∈ s.unit n ∧ (s.cell m).drive = 3) ∧
        u = { s with cells := u.cells, ledger := u.ledger, free := u.free }) ∧
    (w.drive ≠ 3 ∨ w.onPhase = false ∨ s.now < w.onEnd → Stays s (.pwmOnEnd n)) ∧
    (c.winTo ≠ 0 → c.winTo ≤ s.ticks →
      Effect s (.inrushWindowEnd n) ((s.modCells (s.crew n) fun c => { Cells.tally s.ticks c with winTo := 0 }).modTeller fun t =>
        { t with loans := t.loans.filter fun p => p.2.elim true fun l => decide (l.requester ≠ s.requester n) })) ∧
    (c.winTo = 0 ∨ s.ticks < c.winTo → Stays s (.inrushWindowEnd n))

namespace Sys2Proof.Claim

open Machine

/-- A value held between two bounds. -/
def held (lo hi x : Int) : Int := max lo (min hi x)

/-- The current code that a cell reports at a sample (R118). -/
def currentCode (s : State) (x : CellSample) : Int :=
  if Chan.mode s x.chan = 0 ∨ Chan.mode s x.chan = 8 then 0 else held (-2048) 2047 x.current

end Sys2Proof.Claim

/-- R117 to R123: at every 20th tick a sample set leaves each listed cell's current and pin codes, held within their converters'
ranges, in its entries and its history (a Disabled cell has no read-back, R105), and dates every cell's; each listed bank supply is
shown; at every 100th tick a temperature set leaves each cell's temperature, and the hottest cell and the mean of each bank, and no
cell changes; at other ticks no set is taken.
Choices of the model that it rests on: log entries 48, 150, 151. -/
def Obligations.SampleSetsReachTheirEntries : Prop :=
  ∀ (set : List CellSample) (sup : List (Fin 16 × Nat)) (ma : Nat) (temps : List (Fin 512 × Int)) (s : State), 2 ≤ s.power →
    (s.ticks % 20 = 0 → (set.map (·.chan)).Nodup → (sup.map (·.1)).Nodup →
      ∃ u, Effect s (.cellSample set sup ma) u ∧
        (∀ x ∈ set, u.rd (0x4600 + x.chan) 1 = rawOf 16 (currentCode s x) ∧ (u.cell x.chan).curs.head? = some (currentCode s x) ∧
          (Chan.mode s x.chan ≠ 0 → u.rd (0x4600 + x.chan) 3 = rawOf 16 (held (-500) 3595 x.pin) ∧
            (u.cell x.chan).pins.head? = some (held (-500) 3595 x.pin)) ∧
          (Chan.mode s x.chan = 0 → u.rd (0x4600 + x.chan) 3 = s.rd (0x4600 + x.chan) 3)) ∧
        (∀ n : Fin 512, u.rd (0x4600 + n) 6 = s.now) ∧
        (∀ p ∈ sup, u.rd (0x4900 + p.1) 4 = min 65535 (p.2 / 10) ∧ u.rd (0x4900 + p.1) 0x0C = s.now ∧
          (u.bank p.1).supplyMv = p.2) ∧
        u.teller.logicMa = (ma :: s.teller.logicMa).take 52) ∧
    (s.ticks % 20 ≠ 0 → Stays s (.cellSample set sup ma)) ∧
    (s.ticks % 100 = 0 → (temps.map (·.1)).Nodup →
      ∃ u, Effect s (.temperatureSample temps) u ∧ u = { s with ledger := u.ledger } ∧
        (∀ p ∈ temps, u.rd (0x4600 + p.1) 5 = rawOf 16 (held (-500) 2000 p.2)) ∧
        (∀ n : Fin 512, n ∉ temps.map (·.1) → u.rd (0x4600 + n) 5 = rawOf 16 (held (-500) 2000 (signed 16 (s.rd (0x4600 + n) 5)))) ∧
        ∀ b < 16,
          let t (i : Nat) := signed 16 (u.rd (0x4600 + (b * 32 + i)) 5)
          (∀ i < 32, t i ≤ signed 16 (u.rd (0x4900 + b) 6)) ∧ (∃ i < 32, t i = signed 16 (u.rd (0x4900 + b) 6)) ∧
          u.rd (0x4900 + b) 7 = rawOf 16 (((List.range 32).map t).sum.tdiv 32)) ∧
    (s.ticks % 100 ≠ 0 → Stays s (.temperatureSample temps))

/-- R189, R202 to R204: a scan grants a request that fits every budget into the lowest free slot and tells its requester; the
budgets that the first request lacks are granted to none after it; a Teller that is not Active or is being reset grants nothing; a
request whose patience has run out is declined and counted, and a loan ends with its duration.
Choices of the model that it rests on: log entries 2, 50 (2: an event whose condition does not hold changes nothing). -/
def Obligations.TheTellerGrantsInOrder : Prop :=
  ∀ (slot : Fin 128) (q : Nat) (s : State), 2 ≤ s.power →
    (∀ l k, s.active ⟨0x0B, 0⟩ = true → s.teller.resetting = false → s.teller.queue = [l] →
      s.ticks < l.arrival + l.patience * 1000 → Teller.lack s l = [] → (Teller.inFlight s.teller).length ≠ 128 →
      Teller.freeSlot s.teller = some k →
      ∃ u, Effect s .tellerScan (Clients.granted l u) ∧ u.teller.queue = [] ∧ u.cells = s.cells ∧
        u.teller.loans = Map.put none s.teller.loans k (some { l with
          grantTick := s.ticks, grantTime := s.now, counted := decide (l.budget < 16), skipped := false }) ∧
        u.rd 0x4A08 1 = min 0xFFFFFFFF (s.rd 0x4A08 1 + 1)) ∧
    (∀ l r, s.teller.queue = l :: r → (s.teller.queue.map (·.requester)).Nodup → s.ticks < l.arrival + l.patience * 1000 →
      ∀ b ∈ Teller.lack s l, ∀ x ∈ (Teller.scan s).granted, b ∉ Teller.budgets x) ∧
    (s.active ⟨0x0B, 0⟩ = false ∨ s.teller.resetting = true →
      ∃ u, Effect s .tellerScan u ∧ u.teller.loans = s.teller.loans ∧ u.cells = s.cells) ∧
    (∀ l, s.teller.queue.find? (fun x => decide (x.requester = q)) = some l → l.arrival + l.patience * 1000 ≤ s.ticks →
      ∃ u, Effect s (.patienceExpired q) u ∧ u.teller.declined = s.teller.declined ++ [l] ∧
        u.teller.queue = s.teller.queue.filter (fun x => decide (x.requester ≠ q)) ∧ u.teller.loans = s.teller.loans ∧
        u.rd 0x4A08 2 = min 0xFFFFFFFF (s.rd 0x4A08 2 + 1) ∧ raised s u 0x1100 ∧ u.cells = s.cells) ∧
    (s.teller.queue.find? (fun x => decide (x.requester = q)) = none → Stays s (.patienceExpired q)) ∧
    (∀ l, Map.get none s.teller.loans slot = some l → l.grantTick + l.duration ≤ s.ticks →
      Effect s (.loanDurationEnd slot) (s.modTeller fun t =>
        { t with loans := t.loans.filter fun p => p.2.elim true fun x => decide (x.requester ≠ l.requester) })) ∧
    (Map.get none s.teller.loans slot = none → Stays s (.loanDurationEnd slot))

/-- R191, R192, R200, R205: a requester with a request or a loan is refused a second one with STATE; a request that could never fit is
declined at once; any other waits in the queue, which keeps the total order of R201. -/
def Obligations.LoanRequestsAreJudgedAtOnce : Prop :=
  ∀ (l : Loan) (commit : Bool) (s : State), s.teller.resetting = false →
    let u := (Teller.request l commit s).1
    let l' := { l with
      arrival := s.ticks, receivedAt := s.now, rank := if commit then 0 else 1, seq := if commit then s.teller.seq else l.requester }
    ((Teller.loanOf s.teller l.requester).isSome ∨ (Teller.requestOf s.teller l.requester).isSome →
      (Teller.request l commit s).2 = .state ∧ u.teller.queue = s.teller.queue ∧ u.teller.declined = s.teller.declined ∧
        u.teller.loans = s.teller.loans ∧ u.rd 0x4A08 4 = min 0xFFFFFFFF (s.rd 0x4A08 4 + 1) ∧ raised s u 0x1103) ∧
    (Teller.loanOf s.teller l.requester = none → Teller.requestOf s.teller l.requester = none →
      (Teller.request l commit s).2 = .ok ∧ u.teller.loans = s.teller.loans ∧ u.cells = s.cells ∧
      (Teller.oversize s l' = true → u.teller.queue = s.teller.queue ∧ u.teller.declined = s.teller.declined ++ [l'] ∧
        raised s u 0x1104) ∧
      (Teller.oversize s l' = false → s.teller.queue.length < 512 →
        (∀ x, x ∈ u.teller.queue ↔ x = l' ∨ x ∈ s.teller.queue) ∧ u.teller.declined = s.teller.declined ∧
        (s.teller.queue.Pairwise (fun a b => Teller.before b a = false) →
          u.teller.queue.Pairwise fun a b => Teller.before b a = false)))

/-! ### Coil engines, loop engines and field inputs (chapters 08 to 10) -/

namespace Sys2Proof.Claim

open Machine

/-- The checks of R222 that a trigger of slot `k` passes: not latched nor paused, supply up, admitted by the limiter, its load proven
where its class asks, room on the shared supply, and no request or loan of its cell `n` in the Teller. -/
structure Triggerable (s : State) (e k n : Nat) : Prop where
  cell : Coil.cellOf s e k = some n
  owned : Coil.owns s e = true
  mode : Coil.mode s e k ≠ 0
  off : (s.coil e k).phase = 0
  latch : (s.coil e k).latched = false
  pause : (s.coil e k).pauseUntil ≤ s.ticks
  supply : (s.bank (Coil.bank s e)).supplyOff = false
  admitted : Coil.admitted s e k = true
  proven : Chan.loadClass s n = 5 → (s.cell n).proven = true
  rested : Coil.resting s e k = false
  fits : Coil.fits s e k = true
  quiet : (s.coil e k).loanPending = false ∧ (s.coil e k).deferred = false
  loan : Teller.loanOf s.teller n = none ∧ Teller.requestOf s.teller n = none

/-- No trigger of the slot has come in this tick (R223). -/
def untriggered (s : State) (e k : Nat) : Prop := ∀ p ∈ s.coilTrigs, p.1 ≠ e * 4 + k

/-- COIL_LIMIT has been told where the slot is Limited (R237). -/
def limitTold (s : State) (e k : Nat) : Prop := Coil.admitted s e k = true ∨ (s.coil e k).limited = true

/-- The slot waits for its peak loan, its trigger time this tick. -/
def waitsForLoan (s u : State) (e k : Nat) : Prop :=
  (u.coil e k).phase = 1 ∧ (u.coil e k).loanPending = true ∧ (u.coil e k).trigAt = s.ticks

/-- No slot of the engine, but for those in `P`, has been held back by the overlap check for 2 ms (R231). -/
def undropped (s : State) (e : Nat) (P : Nat → Prop) : Prop :=
  ∀ j < 4, ¬P j → (s.coil e j).deferred = true → s.ticks < (s.coil e j).trigAt + 2000

/-- No pending trigger follows the end of the slot's event (R233): with RetriggerPolicy 1 MinOff comes first. -/
def unfollowed (s : State) (e k : Nat) : Prop := (s.coil e k).pendingTrig = false ∨ s.rd (0x4C00 + e) 5 = 1

/-- The event of a slot has ended (R233, R234): Off or MinOff, no loan request and no fault. -/
def eventEnded (s u : State) (e k : Nat) : Prop :=
  (u.coil e k).phase = (if s.rd (0x4C00 + e) 5 = 1 then 6 else 0) ∧ (u.coil e k).loanPending = false ∧
    (u.coil e k).regFault = false ∧ (u.coil e k).trips = 0

end Sys2Proof.Claim

/-- R222, R223, R231, R233, R235: a scheduled trigger that passes its checks asks for the peak loan; one kept through MinOff, the
10 ms after a Switched turn-off or a deferral starts as that ends; an engine that does not own its cells records it. A slot that the
overlap check has held back for 2 ms is dropped: its outcome and counter say so, it waits no longer and COIL_DEFER is raised. Of the
triggers of one slot at a tick the last in the order Ledger, schedule, input decides: one that comes earlier in that order and is
handled later changes nothing, a second one of the same kind acts once, and a Release that decides leaves a slot that was Off or in
MinOff where an Energise of the same tick found it.
Choices of the model that it rests on: log entries 2, 71, 152 (2: an event whose condition does not hold changes nothing). -/
def Obligations.CoilTriggersAskTheirLoan : Prop :=
  ∀ (e : Fin 64) (k : Fin 4) (n : Nat) (s : State), 2 ≤ s.power →
    let x := s.coil e k
    let t := Coil.ent s e k 0x1A
    (t ≠ 0 → t ≤ s.now → s.fn ⟨2, e⟩ = 2 → untriggered s e k → Triggerable s e k n →
      ∃ u, Effect s (.coilScheduleTime e k) u ∧ waitsForLoan s u e k ∧ Coil.ent u e k 0x1A = 0) ∧
    (t ≠ 0 → t ≤ s.now → s.fn ⟨2, e⟩ = 2 → Coil.mode s e k ≠ 0 → Coil.cellOf s e k = some n → Coil.owns s e = false →
      untriggered s e k → limitTold s e k →
      ∃ u, Effect s (.coilScheduleTime e k) u ∧ Coil.ent u e k 0x21 = 6 ∧ (u.coil e k).phase = x.phase ∧ u.cells = s.cells) ∧
    (t = 0 ∨ s.now < t → Stays s (.coilScheduleTime e k)) ∧
    (x.phase = 6 → x.minOffAt + s.rd (0x4C00 + e) 6 ≤ s.ticks → x.pendingTrig = false → x.deferred = false →
      ∃ u, Effect s (.minOffEnd e k) u ∧ (u.coil e k).phase = 0 ∧ (u.coil e k).loanPending = x.loanPending) ∧
    (x.phase = 6 → x.minOffAt + s.rd (0x4C00 + e) 6 ≤ s.ticks → x.pendingTrig = true →
      Triggerable (s.modCoil e k fun x => { x with phase := 0 }) e k n → undropped s e (fun _ => False) →
      ∃ u, Effect s (.minOffEnd e k) u ∧ waitsForLoan s u e k ∧ (u.coil e k).pendingTrig = false) ∧
    (x.phase ≠ 6 ∨ s.ticks < x.minOffAt + s.rd (0x4C00 + e) 6 → Stays s (.minOffEnd e k)) ∧
    (Coil.mode s e k = 3 → x.pendingTrig = true → Triggerable s e k n →
      ∃ u, Effect s (.switchedRearm e k) u ∧ waitsForLoan s u e k ∧ (u.coil e k).pendingTrig = false) ∧
    (Coil.mode s e k ≠ 3 → Stays s (.switchedRearm e k)) ∧
    (x.pauseUntil ≤ s.ticks → Effect s (.tripPauseEnd e k) (s.modCoil e k fun x => { x with pauseUntil := 0 })) ∧
    (s.ticks < x.pauseUntil → Stays s (.tripPauseEnd e k)) ∧
    (x.deferred = true → x.trigAt + 2000 ≤ s.ticks → x.pendingTrig = false → limitTold s e k →
      ∃ u, Effect s (.deferralExpiry e k) u ∧ (u.coil e k).deferred = false ∧
        (u.coil e k).phase = (if x.phase = 1 then x.back else x.phase) ∧ Coil.ent u e k 0x21 = 3 ∧
        Coil.ent u e k 0x27 = min 0xFFFFFFFF (Coil.ent s e k 0x27 + 1) ∧ raised s u (0x1200 + e * 4 + 1)) ∧
    (x.deferred = true → x.trigAt + 2000 ≤ s.ticks → x.phase = 1 → x.back = 0 → x.pendingTrig = true →
      Triggerable (Coil.drop e k s) e k n → undropped s e (· = k) →
      ∃ u, Effect s (.deferralExpiry e k) u ∧ waitsForLoan s u e k ∧ (u.coil e k).pendingTrig = false) ∧
    (x.deferred = false ∨ s.ticks < x.trigAt + 2000 → Stays s (.deferralExpiry e k)) ∧
    (∀ (rank : Nat) (on : Bool) (z : CoilTrig), s.coilTrigs.find? (·.1 = e.val * 4 + k.val) = some (e.val * 4 + k.val, z) →
      let u := Coil.trigger e k rank on s
      (rank < z.rank → u = s) ∧
      (z.rank ≤ rank → on = z.on → u = { s with coilTrigs := u.coilTrigs }) ∧
      (z.rank ≤ rank → on = false → z.on = true → z.slot.phase = 0 ∨ z.slot.phase = 6 →
        (u.coil e k).phase = z.slot.phase ∧ (u.coil e k).pendingTrig = false ∧ (u.coil e k).loanPending = z.slot.loanPending))

/-- R220, R225, R229, R234, R237: Boost that reaches TtpMax and PeakDwell that ends pass to the sustaining phase; a regulation fault
is told; EventLength and an exhausted budget end the event.
Choices of the model that it rests on: log entries 2, 68, 153 (2: an event whose condition does not hold changes nothing). -/
def Obligations.CoilProfilesRunTheirPhases : Prop :=
  ∀ (e : Fin 64) (k : Fin 4) (n : Nat) (s : State), 2 ≤ s.power → (s.coil e k).deferred = false →
    let x := s.coil e k
    let sustained := Coil.mode s e k = 2 ∨ Coil.mode s e k = 3 ∨ Coil.ent s e k 5 ≠ 0
    let next := if Coil.mode s e k = 2 then 5 else if Coil.mode s e k = 3 then 7 else 4
    let w := s.rd (0x4C00 + e) 0x0A * 1000
    let began := if x.phase = 2 then max (s.cell n).changedAt x.boostAt else x.eventAt
    (x.phase = 2 → Coil.cellOf s e k = some n → Coil.owns s e = true → sustained →
      limitTold s e k → max (s.cell n).changedAt x.boostAt + Coil.ent s e k 4 ≤ s.ticks →
      ∃ u, Effect s (.ttpMaxExpiry e k) u ∧ (u.coil e k).phase = next ∧ Coil.ent u e k 0x21 = 12 ∧
        Coil.ent u e k 0x2A = min 0xFFFFFFFF (Coil.ent s e k 0x2A + 1) ∧ raised s u (0x1200 + e * 4)) ∧
    (x.phase ≠ 2 → Stays s (.ttpMaxExpiry e k)) ∧
    (x.phase = 3 → x.crossAt + Coil.ent s e k 2 ≤ s.ticks → sustained → limitTold s e k →
      ∃ u, Effect s (.peakDwellEnd e k) u ∧ (u.coil e k).phase = next ∧ Coil.ent u e k 0x21 = Coil.ent s e k 0x21) ∧
    (x.phase ≠ 3 ∨ s.ticks < x.crossAt + Coil.ent s e k 2 → Stays s (.peakDwellEnd e k)) ∧
    (x.phase = 4 ∨ (x.phase = 5 ∧ 50 ≤ Coil.ent s e k 0x19) → x.held = false → x.regFault = false →
      (∃ t, (x.outSince = some t ∨ x.qualAt = t) ∧ t + w ≤ s.ticks) →
      ∃ u, Effect s (.regulationFault e k) u ∧ u.coil e k = { x with regFault := true } ∧ raised s u (0x1200 + e * 4 + 3) ∧
        Coil.ent u e k 0x21 = s.open_.1 % 256 ∧ u.free = s.open_.2.free ∧ u.cells = s.cells) ∧
    ((x.phase ≠ 4 ∧ x.phase ≠ 5) ∨ x.held = true ∨ x.regFault = true → Stays s (.regulationFault e k)) ∧
    (Coil.ent s e k 6 ≠ 0 → Coil.energised s e k = true ∨ x.phase = 5 → (x.phase = 2 → Coil.cellOf s e k = some n) →
      began + Coil.ent s e k 6 * 1000 ≤ s.ticks → unfollowed s e k →
      ∃ u, Effect s (.eventLengthEnd e k) u ∧ eventEnded s u e k) ∧
    (Coil.ent s e k 6 = 0 ∨ (Coil.energised s e k = false ∧ x.phase ≠ 5) → Stays s (.eventLengthEnd e k)) ∧
    (Coil.energised s e k = true → Coil.budget s e k ≤ Coil.used s e k → Coil.ent s e k 0x13 = 0 → unfollowed s e k →
      ∃ u, Effect s (.dutyBudgetExhausted e k) u ∧ eventEnded s u e k ∧ Coil.ent u e k 0x21 = 5 ∧
        Coil.ent u e k 0x29 = min 0xFFFFFFFF (Coil.ent s e k 0x29 + 1)) ∧
    (Coil.energised s e k = true → Coil.budget s e k ≤ Coil.used s e k → Coil.ent s e k 0x13 ≠ 0 →
      ∃ u, Effect s (.dutyBudgetExhausted e k) u ∧ (u.coil e k).phase = x.phase ∧ u.cells = s.cells) ∧
    (Coil.energised s e k = false ∨ Coil.used s e k < Coil.budget s e k → Stays s (.dutyBudgetExhausted e k))

/-- R247, R249, R251, R255, R259, R263: a boundary counts and is timed, suspends an engine whose target or feedback is lost, holds one
that is told to, and in open loop moves the output toward its entry by no more than the slew of one period and within its limits;
Lagging, tracking and a silent external feedback are told.
Choices of the model that it rests on: log entries 2, 77 (2: an event whose condition does not hold changes nothing). -/
def Obligations.LoopBoundariesStepTheirEngine : Prop :=
  ∀ (e : Fin 48) (s : State), 2 ≤ s.power →
    let r := s.loop e
    let counted := (s.inc (0x4D00 + e) 0x38).wr (0x4D00 + e) 0x39 s.now
    let fed := Loops.feed e counted
    let due := (s.fn ⟨3, e⟩ = 2 ∨ s.fn ⟨3, e⟩ = 3) ∧ s.now / 1000 % max 1 (Loops.period s e) = s.rd (0x4D00 + e) 7
    (¬due → Stays s (.sampleBoundary e)) ∧
    (due → ∃ u, Effect s (.sampleBoundary e) u ∧
      u.rd (0x4D00 + e) 0x38 = min 0xFFFFFFFF (s.rd (0x4D00 + e) 0x38 + 1) ∧ u.rd (0x4D00 + e) 0x39 = s.now ∧
      (r.st = 0 → Loops.ent s e 0x0C ≠ 1 → (u.loop e).st = 0 ∧ u.cells = s.cells) ∧
      (r.st = 2 ∨ r.st = 3 → Loops.suspends fed e = true →
        (u.loop e).st = 4 ∧ u.rd (0x4D00 + e) 0x3B = min 0xFFFFFFFF (s.rd (0x4D00 + e) 0x3B + 1) ∧ u.cells = s.cells) ∧
      (r.st = 2 → Loops.suspends fed e = false → Loops.ent s e 0x0C = 2 → (u.loop e).st = 3 ∧ u.cells = s.cells) ∧
      (r.st = 2 → Loops.suspends fed e = false → Loops.ent s e 0x0C ≠ 2 → r.resumeNext = false → r.modePending = false →
        r.applied = 0 →
        let slew := Fix.ts (Loops.q16 s e 0x10) (Loops.period s e)
        (u.loop e).st = 2 ∧ (u.loop e).issueAt = some (s.ticks + 10) ∧ u.cells = s.cells ∧
          (u.loop e).u = max (Loops.q16 s e 0x11) (min (Loops.q16 s e 0x12)
            (r.u + max (-slew) (min slew (Loops.q16 s e 0x0E - r.u)))))) ∧
    (r.lagging = true → r.lagTold = false → (∃ t, r.lagSince = some t ∧ t + s.rd (0x4D80 + e) 8 * 1000 ≤ s.ticks) →
      ∃ u, Effect s (.lagConfirm e) u ∧ raised s u (0x1300 + e * 4) ∧ u.loop e = { r with lagTold := true } ∧ u.cells = s.cells) ∧
    (r.lagging = false ∨ r.lagTold = true → Stays s (.lagConfirm e)) ∧
    (r.tracking = false → (∃ t, r.trackSince = some t ∧ t + s.rd (0x4D80 + e) 0x0A * 1000 ≤ s.ticks) →
      ∃ u, Effect s (.trackConfirm e) u ∧ raised s u (0x1300 + e * 4 + 1) ∧ u.loop e = { r with tracking := true } ∧
        u.cells = s.cells) ∧
    (r.tracking = true ∨ r.trackSince = none → Stays s (.trackConfirm e)) ∧
    (s.fn ⟨3, e⟩ = 2 → (Loops.source s e).1 = 4 → r.extAt + s.rd (0x4D00 + e) 0x0B * 1000 ≤ s.ticks →
      ∃ u, Effect s (.externalFeedbackTimeout e) u ∧ (u.loop e).stale = true ∧
        (r.stale = false → raised s u (0x1300 + e * 4 + 3)) ∧ u.loop e = { r with stale := true } ∧
        (r.st = 2 ∨ r.st = 3 → Loops.suspends u e = true) ∧ u.cells = s.cells) ∧
    (s.fn ⟨3, e⟩ ≠ 2 ∨ (Loops.source s e).1 ≠ 4 ∨ s.ticks < r.extAt + s.rd (0x4D00 + e) 0x0B * 1000 → Stays s (.externalFeedbackTimeout e))

/-- R255: whatever its mode and inputs, a closed-loop step leaves the output within the mode's limits, and the integrator where a
limiting cell or a saturated output freezes it.
Choices of the model that it rests on: log entry 80. -/
def Obligations.LoopOutputsStayWithinTheirLimits : Prop :=
  ∀ (e : Nat) (s : State) (r : Loop), r.applied ≠ 0 →
    let lo := Loops.block s e r.applied 6
    let hi := Loops.block s e r.applied 7
    lo ≤ hi →
      lo ≤ (Loops.step s e r).u ∧ (Loops.step s e r).u ≤ hi ∧
      ((∃ n ∈ Loops.activeCells s e, (s.cell n).prot = 1) →
        (Loops.step s e r).frozen = true ∧ (Loops.step s e r).integ = r.integ)

/-- R275, R278 to R281, R283, R289: a candidate that is ready becomes the cell's level; a wetting pulse samples the pin on its grid;
wire-break phases start on theirs and two broken results in a row set the flag that an intact one clears; a counted edge moves the
count by one; a supply band that has held becomes the bank's FieldSupply.
Choices of the model that it rests on: log entries 2, 81, 82 (2: an event whose condition does not hold changes nothing). -/
def Obligations.FieldInputsFollowTheirPins : Prop :=
  ∀ (n : Fin 512) (pin : Int) (rising : Bool) (b : Fin 16) (s : State), 2 ≤ s.power →
    let x := s.input n
    let c := s.cell n
    let p := Inputs.pulsePeriod s n
    let mean := ((c.pins.take 10).sum, (((c.pins.take 10).length : Nat) : Int))
    (∀ t z l, s.power = 3 → (s.bank (n / 32)).resetting = false → x.ready = true → x.cand = some (t, z, l) →
      ∃ u, Effect s (.inputLevelAccept n) u ∧ (u.cell n).inputLevel = l ∧ (u.input n).cand = none ∧ (u.input n).ready = false ∧
        (u.input n).known = true) ∧
    (x.ready = false ∨ x.cand = none ∨ (s.bank (n / 32)).resetting = true → Stays s (.inputLevelAccept n)) ∧
    (Chan.mode s n = 4 → Inputs.pulsed s n = true → s.now / 1000 % p = (20 * (n.val % 32) + 180) % p → c.drive = 0 →
      x.breakAt = none → Inputs.breakEnabled s n = false → (s.bank (n / 32)).supplyOff = false →
      (s.bank (n / 32)).resetting = false → x.ready = false →
      let l := Inputs.compare s n pin
      Effect s (.wettingPulse n pin) (s.modInput n fun r => { r with
        comp := l,
        cand := if x.known = true ∧ l = c.inputLevel then none
          else if r.cand.any (fun q => decide (q.2.2 = l)) then r.cand else some (s.ticks, s.stamp (n / 32), l),
        ready := if x.known = true ∧ l = c.inputLevel then false
          else match r.cand with
            | some (t, _, l') => if l' = l then decide (t + Inputs.debounce s n ≤ s.ticks) else decide (Inputs.debounce s n = 0)
            | none => decide (Inputs.debounce s n = 0) })) ∧
    (Chan.mode s n ≠ 4 ∨ c.drive ≠ 0 → Stays s (.wettingPulse n pin)) ∧
    (Inputs.breakEnabled s n = true → Inputs.untilBreak s n = 0 →
      Effect s (.wireBreakPhase n) (s.modInput n fun r => { r with breakAt := some s.ticks })) ∧
    (Inputs.breakEnabled s n = false ∨ Inputs.untilBreak s n ≠ 0 → Stays s (.wireBreakPhase n)) ∧
    (∀ t, x.breakAt = some t → Inputs.breakEnabled s n = true → t + 500 ≤ s.ticks →
      ∃ u, Effect s (.wireBreakResult n) u ∧ (u.input n).breakAt = none ∧ u.cells = s.cells ∧
        (500 * mean.2 < mean.1 → (u.input n).broken = min 2 (x.broken + 1) ∧
          u.rdBit (0x4400 + n) 1 1 = (s.rdBit (0x4400 + n) 1 1 || decide (1 ≤ x.broken)) ∧
          (1 ≤ x.broken → s.rdBit (0x4400 + n) 1 1 = false → raised s u (n * 8 + 3))) ∧
        (mean.1 ≤ 500 * mean.2 → mean.1 < 100 * mean.2 ∨ (150 * mean.2 ≤ mean.1 ∧ mean.1 ≤ 350 * mean.2) →
          (u.input n).broken = 0 ∧ u.rdBit (0x4400 + n) 1 1 = false) ∧
        (mean.1 ≤ 500 * mean.2 → 100 * mean.2 ≤ mean.1 → ¬(150 * mean.2 ≤ mean.1 ∧ mean.1 ≤ 350 * mean.2) →
          (u.input n).broken = x.broken ∧ u.rdBit (0x4400 + n) 1 1 = s.rdBit (0x4400 + n) 1 1)) ∧
    (x.breakAt ≠ none → Inputs.breakEnabled s n = false →
      Effect s (.wireBreakResult n) (s.modInput n fun r => { r with breakAt := none })) ∧
    (x.breakAt = none → Stays s (.wireBreakResult n)) ∧
    (Chan.mode s n = 6 → s.rdField (0x4000 + n) 8 0 2 = 2 ∨ s.rdField (0x4000 + n) 8 0 2 = (if rising then 0 else 1) →
      s.rdBit (0x4000 + n) 8 4 = false →
      ∃ u, Effect s (.counterEdge n rising) u ∧ (u.input n).count = rawOf 32 ((x.count : Int) + 1) ∧ (u.input n).edge = rising ∧
        (u.input n).edgeTime = s.stamp (n / 32) ∧ u = { s with inputs := u.inputs }) ∧
    (Chan.mode s n ≠ 6 → Chan.mode s n ≠ 7 → Effect s (.counterEdge n rising) (s.modInput n fun r => { r with edge := rising })) ∧
    (Protect.band (s.bank b).supplyMv ≠ s.rd 0x4E80 (0x31 + b) → (s.bank b).bandAt + 1000 ≤ s.ticks →
      ∃ u, Effect s (.fieldSupplyChange b) u ∧ u.rd 0x4E80 (0x31 + b) = Protect.band (s.bank b).supplyMv ∧ u.cells = s.cells) ∧
    (Protect.band (s.bank b).supplyMv = s.rd 0x4E80 (0x31 + b) → Stays s (.fieldSupplyChange b))

/-! ### Writes of one entry (chapters 02, 04, 05, 08, 09, 12) -/

namespace Sys2Proof.Claim

open Machine

/-- No round binds the module and no entry to Standby or Sleep runs: it is in Run, free to write (chapter 15). -/
structure Awake (s : State) : Prop where
  power : s.power = 3
  bound : s.tally.bound = none
  entering : s.tally.entering = none

/-- R59: the writer is served and Active, Ledger service stands, and the one write `x` passes every check. -/
structure Accepts (s : State) (w : Writer) (x : Write) : Prop where
  awake : Awake s
  service : s.blank = false
  session : ∀ k, w = .session k → (s.session k).phase = .active
  context : ∀ c : Fin 128, w = .context c → s.fn ⟨5, c⟩ = 2
  checked : Rights.check s s w [] x = .ok

/-- The command `i` writes `v` to entry (j, k): where the write is accepted it commits with OK, and `P` holds of what it leaves. -/
def Commits (s : State) (i : Instr) (w : Writer) (j k v : Nat) (P : State → Prop) : Prop :=
  Accepts s w (Direct.write s j k v) → Direct.second s w = false → ∃ u, Effect s i u ∧ u.answer = ⟨.ok, 0xFF⟩ ∧ P u

/-- The same for an octet-string entry. -/
def CommitsOctets (s : State) (i : Instr) (w : Writer) (j k : Nat) (l : List Byte) (P : State → Prop) : Prop :=
  Accepts s w (Direct.octetWrite j k l) → Direct.second s w = false → ∃ u, Effect s i u ∧ u.answer = ⟨.ok, 0xFF⟩ ∧ P u

end Sys2Proof.Claim

/-- R58 to R60: a write that fails a check is answered with its status and place, and the entry keeps its value; no cell, queue or
loan changes. A second posting of a context, whose first is still in evaluation, is answered BUSY.
Choices of the model that it rests on: log entries 19, 21. -/
def Obligations.RefusedWritesChangeNothing : Prop :=
  ∀ (w : Writer) (x : Write) (st : Status) (s : State), Awake s → s.blank = false → x.sub < 256 →
    (∀ k, w = .session k → (s.session k).phase = .active) → (∀ c : Fin 128, w = .context c → s.fn ⟨5, c⟩ = 2) →
    (Direct.second s w = true → Effect s (.entryWrite w x) { s with answer := ⟨.busy, 0xFF⟩ }) ∧
    (Direct.second s w = false → Rights.check s s w [] x = st → st ≠ .ok →
      ∃ u, Effect s (.entryWrite w x) u ∧ u.answer = ⟨st, 0⟩ ∧ u.rd x.index x.sub = s.rd x.index x.sub ∧
        u = { s with answer := u.answer, ledger := u.ledger, sources := u.sources, access := u.access })

/-- R53 to R55, R108, R110, R121, R166, R47, R51: an accepted write of a channel's entry stores its value and acts: an owner for the
whole structure, a command on its cell, a duty, an averaging window, cleared counters; a FunctionState moves its function where
Table 02-8 lets it, and one into Active first stores the function's set.
Choices of the model that it rests on: log entries 19, 58. -/
def Obligations.AcceptedWritesOfChannelsAndFunctions : Prop :=
  ∀ (w : Writer) (n : Fin 512) (v cls inst : Nat) (s : State),
    let f : Fn := ⟨cls, inst⟩
    let c := s.cell n
    Commits s (.entryWrite w (Direct.write s (0x4000 + n) 9 v)) w (0x4000 + n) 9 v (fun u =>
      u.rd (0x4000 + n) 9 = v ∧ (u.cell n).avgCount = 0) ∧
    Commits s (.cellOwnerWrite w n v) w (0x4000 + n) 1 v (fun u =>
      (∀ m ∈ s.structure_ n, Chan.owner u m = v) ∧ u.cells = s.cells) ∧
    Commits s (.cellCommandWrite w n v) w (0x4000 + n) 3 v (fun u =>
      Chan.command u n = v ∧ (u.cell n).cmd = v ∧ (u.cell n).committedAt = s.ticks ∧ (u.cell n).drive = c.drive ∧
      (v = 0 ∨ v = 5 → (u.bank (n / 32)).queue = (s.bank (n / 32)).queue ++ [{ chan := n, cmd := v, duty := 0, at_ := s.ticks }]) ∧
      (Chan.conducts v = true → c.prot ≤ 1 → (∀ m ∈ s.unit n, (s.cell m).thermalOff = false) → c.loanPending = false → Chan.heavy (Chan.loadClass s n) = false →
        (u.bank (n / 32)).queue =
          (s.bank (n / 32)).queue ++ [{ chan := n, cmd := v, duty := Chan.duty s n, at_ := s.ticks }])) ∧
    Commits s (.pwmDutyWrite w n v) w (0x4000 + n) 4 v (fun u =>
      Chan.duty u n = v ∧ (c.cmd ≠ 4 → (u.cell n).wantDuty = v) ∧ (c.cmd = 4 → u.cells = s.cells)) ∧
    Commits s (.countersClear w (0x4400 + n) v) w (0x4400 + n) 0x0E v (fun u =>
      u.rd (0x4400 + n) 3 = 0 ∧ u.rd (0x4400 + n) 4 = 0 ∧ u.rd (0x4400 + n) 0x0B = 0 ∧ u.cells = s.cells) ∧
    (1 ≤ cls → cls ≤ 11 → inst < Fn.count cls → Fns.fixedActive f = false →
      Posting.transition s (s.setFn f v) w f v = none →
      (s.fn f = 0 → v = 1 → Commits s (.functionStateWrite w cls inst v) w f.group 1 v fun u => u.fn f = 1) ∧
      (s.fn f = 2 → v = 3 → Commits s (.functionStateWrite w cls inst v) w f.group 1 v fun u =>
        u.fn f = 3 ∧ ∀ m, cls = 2 ∨ cls = 3 ∨ cls = 5 → m ∈ Escrow.cellsOf s f.id → Chan.owner u m = 0xF000) ∧
      (s.fn f = 1 → v = 2 → cls ≠ 11 → Accepts s w (Direct.write s f.group 1 v) → Direct.second s w = false →
        ∃ u, Effect s (.functionStateWrite w cls inst v) u ∧ u.fn f = 1 ∧
          ∃ j ∈ u.jobs, j.kind = .functions .direct w [Direct.write s f.group 1 v] [f]))

/-- R155, R223, R234, R238, R251, R253, R260, R262, R285: accepted writes to engines: a proof is asked for, a coil triggered,
released or re-armed, a loop stopped, run, held or given its mode, a counter's load waits for its bank's slot.
Choices of the model that it rests on: log entries 19, 77. -/
def Obligations.AcceptedWritesOfEngines : Prop :=
  ∀ (w : Writer) (n : Fin 512) (e : Fin 64) (k : Fin 4) (l : Fin 48) (v : Nat) (s : State),
    let x := s.coil e k
    Commits s (.proofRequest w n v) w (0x4400 + n) 0x0D v (fun u => u.cell n = { s.cell n with proofAsked := true }) ∧
    Commits s (.coilEnergise w e k) w (0x4C00 + e) (Coil.sub k 0x18) 1 (fun u =>
      Coil.ent u e k 0x18 = 1 ∧ ∀ m, s.fn ⟨2, e⟩ = 2 → untriggered s e k → Triggerable s e k m → waitsForLoan s u e k) ∧
    Commits s (.coilRelease w e k) w (0x4C00 + e) (Coil.sub k 0x18) 0 (fun u =>
      Coil.ent u e k 0x18 = 0 ∧ (untriggered s e k → x.phase ≠ 0 → x.phase ≠ 6 → unfollowed s e k → eventEnded s u e k) ∧
        (untriggered s e k → x.phase = 0 ∨ x.phase = 6 → (u.coil e k).pendingTrig = false ∧ (u.coil e k).phase = x.phase)) ∧
    Commits s (.slotRearm w e k v) w (0x4C00 + e) (Coil.sub k 0x1B) v (fun u =>
      (u.coil e k).latched = false ∧ (u.coil e k).trips = 0 ∧ (u.coil e k).phase = x.phase ∧ u.cells = s.cells) ∧
    Commits s (.loopStop w l) w (0x4D00 + l) 0x0C 0 (fun u =>
      u.rd (0x4D00 + l) 0x0C = 0 ∧ (u.loop l).st = 0 ∧ ((s.loop l).st ≠ 0 → u.rd (0x4D00 + l) 0x37 = 3)) ∧
    Commits s (.loopRun w l) w (0x4D00 + l) 0x0C 1 (fun u =>
      u.rd (0x4D00 + l) 0x0C = 1 ∧ (u.loop l).st = (s.loop l).st ∧ u.cells = s.cells) ∧
    Commits s (.loopHold w l) w (0x4D00 + l) 0x0C 2 (fun u =>
      u.rd (0x4D00 + l) 0x0C = 2 ∧ (u.loop l).st = (s.loop l).st ∧ u.cells = s.cells) ∧
    Commits s (.controlModeWrite w l v) w (0x4D00 + l) 0x0D v (fun u =>
      u.rd (0x4D00 + l) 0x0D = v ∧ (u.loop l).modePending = true ∧ (u.loop l).applied = (s.loop l).applied ∧ u.cells = s.cells) ∧
    Commits s (.counterLoad w n v) w (0x4E82 + n / 128) (1 + n % 128) v (fun u =>
      u.input n = { s.input n with load := some v } ∧ u.cells = s.cells)

/-- R337, R340, R341, R350, R351: accepted writes to the sequencers: Begin opens a load, LoadData stages 120 words at LoadAddress,
Commit copies the image with nop after it, Abort closes the load; RunControl stops, starts and restarts a context; TagArm clears
Valid; a census starts and ends.
Choices of the model that it rests on: log entries 19, 91, 92. -/
def Obligations.AcceptedWritesOfSequencers : Prop :=
  ∀ (w : Writer) (c : Fin 128) (e : Fin 32) (data : List Byte) (v : Nat) (s : State),
    let x := s.ctx c
    let a := s.rd 0x5200 3
    Commits s (.loadBegin w) w 0x5200 7 1 (fun u =>
      (∃ l, u.load = some l ∧ l.owner = w ∧ l.target = s.rd 0x5200 1 ∧ l.words = []) ∧ u.loadOk = false ∧ u.pmem = s.pmem) ∧
    CommitsOctets s (.loadData w data) w 0x5200 4 data (fun u =>
      u.rd 0x5200 3 = min 0x1FFF (a + 120) ∧ u.pmem = s.pmem ∧ ∃ l, u.load = some l ∧
        ∀ i, i < 120 → a + i < 8192 → Map.get 0 l.words (a + i) = leNat ((data.drop (2 * i)).take 2)) ∧
    Commits s (.loadCommit w) w 0x5200 7 2 (fun u =>
      ∀ l, s.load = some l → s.rd 0x5200 5 ≤ 8192 → Map.wf 0 l.words = true →
        u.load = none ∧ u.loadOk = true ∧
        (∀ i, i < 8192 → Map.get 0 u.pmem (l.target * 8192 + i) = if i < s.rd 0x5200 5 then Map.get 0 l.words i else 0) ∧
        ∀ i, i / 8192 ≠ l.target → Map.get 0 u.pmem i = Map.get 0 s.pmem i) ∧
    Commits s (.loadAbort w) w 0x5200 7 3 (fun u => u.load = none ∧ u.loadOk = s.loadOk ∧ u.pmem = s.pmem) ∧
    Commits s (.runStop w c) w (0x5100 + c) 0x0C 0 (fun u =>
      u.rd (0x5100 + c) 0x0C = 0 ∧ (s.fn ⟨5, c⟩ = 2 → (u.ctx c).st = (if x.st = 4 then 4 else 0) ∧ (u.ctx c).g = x.g ∧
        (u.ctx c).pc = x.pc ∧ (u.ctx c).sp = x.sp)) ∧
    Commits s (.runStart w c) w (0x5100 + c) 0x0C 1 (fun u =>
      u.rd (0x5100 + c) 0x0C = 1 ∧ (s.fn ⟨5, c⟩ = 2 → x.st ≠ 4 → (u.ctx c).st = 1 ∧
        (x.st ≠ 1 → x.started = false → (u.ctx c).pc = BitVec.ofNat 13 (s.rd (0x5100 + c) 3) ∧
          (u.ctx c).sp = BitVec.ofNat 32 (s.rd (0x5100 + c) 5) ∧ (u.ctx c).g = Vector.replicate 8 0 ∧ (u.ctx c).inTrap = false) ∧
        (x.started = true → (u.ctx c).pc = x.pc ∧ (u.ctx c).g = x.g))) ∧
    Commits s (.runRestart w c) w (0x5100 + c) 0x0C 2 (fun u =>
      u.rd (0x5100 + c) 0x0C = 1 ∧ (s.fn ⟨5, c⟩ = 2 → (u.ctx c).st = 1 ∧
        (u.ctx c).pc = BitVec.ofNat 13 (s.rd (0x5100 + c) 3) ∧ (u.ctx c).sp = BitVec.ofNat 32 (s.rd (0x5100 + c) 5) ∧
        (u.ctx c).g = Vector.replicate 8 0 ∧ (u.ctx c).inTrap = false)) ∧
    Commits s (.tagArm w e v) w (0x5400 + e) 0x18 v (fun u => u.rdBit (0x5400 + e) 0x17 40 = false) ∧
    Commits s (.censusStart w e) w (0x5480 + e) 1 1 (fun u => (u.eng e).census.running = true ∧
      (u.eng e).census.kind = (if (s.eng e).census.running = true then (s.eng e).census.kind else 2) ∧
      (u.eng e).census.until_ = s.ticks + s.rd (0x5480 + e) 3 * 1000) ∧
    Commits s (.censusEnd (some w) e) w (0x5480 + e) 1 0 (fun u => (u.eng e).census.running = false) ∧
    (2 ≤ s.power → (s.eng e).census.running = true → (s.eng e).census.until_ ≤ s.ticks →
      Effect s (.censusEnd none e) (s.modEng e fun r =>
        { r with census := { r.census with running := false, endTick := s.ticks, endTime := s.now } })) ∧
    (2 ≤ s.power → (s.eng e).census.running = false ∨ s.ticks < (s.eng e).census.until_ → Stays s (.censusEnd none e))

/-! ### Paths, mailbox, messages and locks of a context (chapter 12) -/

namespace Sys2Proof.Claim

open Machine

/-- The state after a path refusal (R330): PATHRESULT names status, path and instance, REFUSAL is pending, PathRefusals counts. -/
def refused (c path inst : Nat) (st : Status) (s : State) : State :=
  (s.modCtx c fun x => { x with
    pathResult := st.code + path * 256 + inst * 4096, events := setBit x.events 3 true }).wr (0x5100 + c) 0x10
    (min 0xFFFFFFFF (s.rd (0x5100 + c) 0x10 + 1))

/-- The path access `i` is refused and changes nothing else but counters. -/
def RefusedAt (s : State) (i : Instr) (c : Fin 128) (path inst : Nat) (st : Status) : Prop :=
  ∃ t, exec i s = .next t ∧ CountersOnly (c / 4) (refused c path inst st s) t

/-- The same, of a command after which the module settles. -/
def RefusedIn (s : State) (i : Instr) (c : Fin 128) (path inst : Nat) (st : Status) : Prop :=
  ∃ u, Effect s i u ∧ CountersOnly (c / 4) (refused c path inst st s) u

/-- Octets `l` stand in data memory from address `a` of engine `e` on, as far as it reaches, and every other byte is as before. -/
def octetsStored (e a : Nat) (l : List Byte) (m m' : NatMap Byte) : Prop :=
  (∀ j (h : j < l.length), a + j < 16384 → Map.get 0 m' (e * 16384 + a + j) = l[j]) ∧
    ∀ b, b < e * 16384 + a ∨ e * 16384 + min 16384 (a + l.length) ≤ b → Map.get 0 m' b = Map.get 0 m b

end Sys2Proof.Claim

/-- R329 to R331, Table 12-5: a store to TIMER arms it, and it fires at the first tick that is not before it; a store to LREQ starts
one request, and a second one is refused with BUSY; a context that does not run accesses nothing.
Choices of the model that it rests on: log entries 2, 88 (2: an event whose condition does not hold changes nothing). -/
def Obligations.TimersAndMailboxRequests : Prop :=
  ∀ (c : Fin 128) (v : Word) (a : BitVec 14) (s : State), 2 ≤ s.power →
    let x := s.ctx c
    let request (i : Instr) (op : Nat) : Prop :=
      (MayIssue s c → x.mailbox = none → LeavesAt s c i fun x => { x with mailbox := some { op := op, addr := a.toNat }, lDone := false }) ∧
      (MayIssue s c → x.mailbox ≠ none → RefusedAt s i c 5 0 .busy) ∧ (x.st ≠ 1 → exec i s = .next s)
    (MayIssue s c → LeavesAt s c (.timerArm c v) fun x => { x with timer := v, armed := true }) ∧
    (x.st ≠ 1 → exec (.timerArm c v) s = .next s) ∧
    (x.armed = true → (BitVec.ofNat 32 s.ticks - x.timer).msb = false →
      LeavesAt s c (.timerFire c) fun x => { x with armed := false, events := setBit x.events 4 true }) ∧
    (x.armed = false ∨ (BitVec.ofNat 32 s.ticks - x.timer).msb = true → exec (.timerFire c) s = .next s) ∧
    request (.lreqRead c a) 1 ∧ request (.lreqPosting c a) 2 ∧ request (.lreqPublish c a) 3 ∧ request (.lreqWriteOwn c a) 4 ∧
    request (.lreqWithdraw c a) 5

/-- R323, R333 to R335: the oldest shared store reaches shared memory; a receive copies the head message to data memory and removes
it, an empty queue and a message that cannot be queued are refused; a free lock becomes the reader's, and only its holder frees it.
Choices of the model that it rests on: log entries 2, 88 (2: an event whose condition does not hold changes nothing). -/
def Obligations.MessagesLocksAndSharedStores : Prop :=
  ∀ (c dest : Fin 128) (e : Fin 32) (a : BitVec 14) (len : Nat) (i : Fin 32) (gd : Fin 8) (s : State),
    (2 ≤ s.power → (s.eng e).shared = [] → exec (.sharedStoreWriteback e) s = .next s) ∧
    (∀ q r, 2 ≤ s.power → (s.eng e).shared = q :: r →
      ∃ t, exec (.sharedStoreWriteback e) s = .next t ∧ (t.eng e).shared = r ∧
        (∀ j, j < q.size → Map.get 0 t.smem (q.addr + j) = BitVec.ofNat 8 (q.value / 256 ^ j)) ∧
        (∀ b, b < q.addr ∨ q.addr + q.size ≤ b → Map.get 0 t.smem b = Map.get 0 s.smem b) ∧
        t = { s with smem := t.smem, engines := t.engines }) ∧
    (MayIssue s c →
      ((s.ctx c).rx = [] → RefusedAt s (.rxtake c a) c 6 c .state) ∧
      (∀ m r, (s.ctx c).rx = m :: r → m.cos = none →
        ∃ t, exec (.rxtake c a) s = .next t ∧ (t.ctx c).rx = r ∧ octetsStored (c / 4) a.toNat m.msg s.dmem t.dmem ∧
          (∀ k, k ≠ c.val → t.ctx k = s.ctx k) ∧ t.smem = s.smem ∧ t.cells = s.cells) ∧
      (len = 0 ∨ 240 < len → RefusedAt s (.txsend c a len dest) c 6 c .range) ∧
      (0 < len → len ≤ 240 → s.fn ⟨5, dest⟩ ≠ 2 → RefusedAt s (.txsend c a len dest) c 6 c .state) ∧
      (0 < len → len ≤ 240 → s.fn ⟨5, dest⟩ = 2 → s.rd (0x5100 + dest) 9 ≤ (s.ctx dest).rx.length →
        RefusedAt s (.txsend c a len dest) c 6 c .busy) ∧
      (0 < len → len ≤ 240 → s.fn ⟨5, dest⟩ = 2 → (s.ctx dest).rx.length < s.rd (0x5100 + dest) 9 →
        (Vault.sourceFor s (s.rd (0x5100 + c) 0x0A) 11 (Vault.coinsOf (2 + len))).isSome →
        ∃ t m, exec (.txsend c a len dest) s = .next t ∧ (t.ctx dest).rx = (s.ctx dest).rx ++ [m] ∧ m.cos = none ∧
          m.msg.length = 2 + len ∧ m.msg.take 2 = [2, BitVec.ofNat 8 c] ∧
          (∀ j, j < len → m.msg.getD (2 + j) 0 = dataByte s (c / 4) (a.toNat + j)) ∧ t.dmem = s.dmem ∧ t.cells = s.cells) ∧
      (Map.get 0 s.locks i = 0 →
        ∃ t, exec (.lockLoad c i gd) s = .next t ∧ Map.get 0 t.locks i = c.val + 1 ∧ t.ctx c = put gd 0 (s.ctx c) ∧
          ∀ k, k ≠ i.val → Map.get 0 t.locks k = Map.get 0 s.locks k) ∧
      (Map.get 0 s.locks i ≠ 0 → LeavesAt s c (.lockLoad c i gd) (put gd (BitVec.ofNat 32 (Map.get 0 s.locks i)))) ∧
      (Map.get 0 s.locks i = c.val + 1 →
        ∃ t, exec (.lockRelease c i) s = .next t ∧ Map.get 0 t.locks i = 0 ∧ t = { s with locks := t.locks } ∧
          ∀ k, k ≠ i.val → Map.get 0 t.locks k = Map.get 0 s.locks k) ∧
      (Map.get 0 s.locks i ≠ c.val + 1 → RefusedAt s (.lockRelease c i) c 7 i .state))

/-- R323, R325 to R328, R330: a stalled load takes the value of its path word; a COMMAND store with reserved bits or an unknown code
is refused without trapping, and one that every check accepts commits; an acquire and a release of a cell are decided by owner and
role, and told at OWNER_REQUEST_DONE; a window store commits the entry it names, and one too wide is refused.
Choices of the model that it rests on: log entries 2, 88, 89, 93 (2: an event whose condition does not hold changes nothing). -/
def Obligations.CellAndEnginePaths : Prop :=
  ∀ (c : Fin 128) (n : Fin 512) (v : Word) (e : Fin 64) (s : State), 2 ≤ s.power →
    let x := s.ctx c
    let queued := (s.eng (c / 4)).paths = []
    let w : Writer := .context c
    let command := Direct.write s (0x4000 + n) 3 (v.toNat % 256)
    let setpoint := BitVec.ofNat 32 (0x22004 + 64 * e)
    (∀ r a, x.stalled = some (r, a) → a < 0x23C00 →
      LeavesAt s c (.pathLoadComplete c) fun x =>
        { put (Fin.ofNat 8 r) (BitVec.ofNat 32 (Path.read a s)) x with stalled := none }) ∧
    (x.stalled = none → exec (.pathLoadComplete c) s = .next s) ∧
    (x.st = 1 → queued →
      (v.toNat / 512 % 128 ≠ 0 → RefusedIn s (.cellPathCommand c n v) c 1 n .reserved) ∧
      (v.toNat / 512 % 128 = 0 → 5 < v.toNat % 256 → v.toNat % 256 ≠ 255 → RefusedIn s (.cellPathCommand c n v) c 1 n .range) ∧
      (v.toNat / 256 % 256 = 0 → v.toNat % 256 ≤ 5 → Accepts s w command →
        ∃ u, Effect s (.cellPathCommand c n v) u ∧ Chan.command u n = v.toNat % 256 ∧ (u.cell n).cmd = v.toNat % 256 ∧
          (u.cell n).drive = (s.cell n).drive ∧ (u.ctx c).pathResult = x.pathResult) ∧
      (x.ownReq ≠ none → RefusedIn s (.cellPathAcquire c n) c 2 n .busy ∧ RefusedIn s (.cellPathRelease c n) c 2 n .busy) ∧
      (x.ownReq = none → s.rd (0x5100 + c) 7 = 3 → Chan.owner s n ≠ 0 →
        ∃ u, Effect s (.cellPathAcquire c n) u ∧ (u.ctx c).ownReq = some (Status.owner.code, n.val) ∧
          Chan.owner u n = Chan.owner s n) ∧
      (x.ownReq = none → s.rd (0x5100 + c) 7 = 3 → Chan.owner s n = 0 → s.fn ⟨1, n / 32⟩ = 2 →
        Accepts s w (Direct.write s (0x4000 + n) 1 (0x0500 + c)) →
        ∃ u, Effect s (.cellPathAcquire c n) u ∧ (u.ctx c).ownReq = some (0, n.val) ∧
          ∀ m ∈ s.structure_ n, Chan.owner u m = 0x0500 + c) ∧
      (x.ownReq = none → Chan.owner s n ≠ 0x0500 + c →
        ∃ u, Effect s (.cellPathRelease c n) u ∧ (u.ctx c).ownReq = some (Status.owner.code, n.val) ∧
          Chan.owner u n = Chan.owner s n) ∧
      (x.ownReq = none → Chan.owner s n = 0x0500 + c →
        ∃ u, Effect s (.cellPathRelease c n) u ∧ (u.ctx c).ownReq = some (0, n.val) ∧ u.cells = s.cells ∧
          ∀ m ∈ s.structure_ n, Chan.owner u m = 0) ∧
      (65536 ≤ v.toNat → RefusedIn s (.engineWindowStore c setpoint v) c 3 e .reserved) ∧
      (Accepts s w (Direct.write s (0x4C00 + e) (Coil.sub 0 0x19) v.toNat) →
        ∃ u, Effect s (.engineWindowStore c setpoint v) u ∧ Coil.ent u e 0 0x19 = v.toNat ∧ (u.ctx c).pathResult = x.pathResult)) ∧
    (x.st ≠ 1 → queued → Stays s (.cellPathCommand c n v) ∧ Stays s (.cellPathAcquire c n) ∧ Stays s (.cellPathRelease c n)) ∧
    (∀ m, x.ownReq = some (0, m) →
      LeavesAt s c (.ownerRequestDone c) fun x =>
        { x with ownReq := none, ownResult := m * 256 + 2 ^ 17, events := setBit x.events 2 true }) ∧
    (∀ m, x.ownReq = some (Status.owner.code, m) →
      ∃ t, exec (.ownerRequestDone c) s = .next t ∧ (t.ctx c).ownReq = none ∧
        (t.ctx c).ownResult = Status.owner.code + m * 256 + 2 ^ 17 ∧ (t.ctx c).events = setBit (setBit x.events 2 true) 3 true ∧
        (t.ctx c).pathResult = Status.owner.code + 2 * 256 + m * 4096) ∧
    (x.ownReq = none → exec (.ownerRequestDone c) s = .next s)

/-- R331, R332, R66: a completed mailbox request leaves status and position in LSTATUS and at the head of the response block, with
Done and the event LEDGER; while Ledger service is absent it is answered BUSY; a write of own entries commits all of them or none.
Choices of the model that it rests on: log entries 2, 33, 34 (2: an event whose condition does not hold changes nothing). -/
def Obligations.MailboxRequestsAreAnswered : Prop :=
  ∀ (c : Fin 128) (m : Mailbox) (s : State), 2 ≤ s.power → (s.ctx c).mailbox = some m → m.storing = false →
    let x := s.ctx c
    let answered (u : State) : Prop :=
      (u.ctx c).mailbox = none ∧ (u.ctx c).lDone = true ∧ (u.ctx c).events.testBit 0 = true ∧
        (u.ctx c).lStatus = u.answer.status.code ∧ (u.ctx c).lPosition = u.answer.position ∧
        (x.lrspAddr < 16384 → dataByte u (c / 4) x.lrspAddr = BitVec.ofNat 8 u.answer.status.code)
    (s.blank = true → ∃ u, Effect s (.mailboxDone c) u ∧ answered u ∧ u.answer = ⟨.busy, 0xFF⟩) ∧
    (s.blank = false → m.op ≠ 2 → ∃ u, Effect s (.mailboxDone c) u ∧ answered u) ∧
    (s.blank = false → m.op = 4 → ∀ ws, Mail.writes (Mail.block s c m.addr) = some ws →
      (Mail.ownFirst s c 0 [] ws = none →
        ∃ u, Effect s (.mailboxDone c) u ∧ u.answer = ⟨.ok, 0xFF⟩ ∧
          ∀ y ∈ ws, u.rd y.index y.sub = leNat y.value) ∧
      (∀ a, Mail.ownFirst s c 0 [] ws = some a →
        ∃ u, Effect s (.mailboxDone c) u ∧ u.answer = a ∧ u.ledger = s.ledger))

/-! ### Sessions (chapter 03) and the parameter store (chapter 02) -/

namespace Sys2Proof.Claim

open Machine

/-- R82: what an OPEN of 2.0 or 1.3 is answered, its checks in the order of the rule. -/
def openStatus (s : State) (o : Origin) (f : Frame) : Status :=
  let role := Bus.num f.payload 0 1
  let service := decide (o.via = .service)
  if Bll.lockedOut s (Bll.sourceOf f) (Bll.transportOf o.via) o.addr then .auth
  else if f.version / 16 ≠ 2 ∧ ¬(f.version = 0x13 ∧ s.rd 0x1180 6 = 1) then .version
  else if role = 0 ∨ 4 < role then .range
  else if role = 4 ∧ service = false then .denied
  else if s.blank = true then .busy
  else if Bll.freeSession s service = none then .busy
  else if Bll.slotFor s role (Bll.sourceOf f) = none then .auth
  else .ok

/-- A request that R86 takes for evaluation at once: served, of its form, of an Active session's path and source, its tag and
version right, its FC new, no request of the session outstanding, no reserved bit, its destination the module itself. -/
structure Fresh (s : State) (o : Origin) (type : Nat) (f : Frame) : Prop where
  session : f.session < 128
  served : Bll.served s o = true
  formed : Bll.malformed type f = false
  active : (s.session f.session).phase = .active
  transport : (s.session f.session).transport = Bll.transportOf o.via
  addr : (s.session f.session).addr = o.addr
  source : (s.session f.session).source = Bll.sourceOf f
  tag : f.tag = Bll.tagOf (s.session f.session).ks type f
  version : f.version = Frames.versionByte (s.session f.session).version
  fc : Bll.high s f.session < f.fc
  room : Bll.high s f.session ≠ 0xFFFFFFFF
  queue : (s.session f.session).queue = []
  evaluating : (s.session f.session).evaluating = none
  bits : Bll.reservedBits f = false
  dest : Bll.destOf f = 0 ∨ Bll.destOf f = s.rd 0x1180 1
  own : Bll.proxyOf s (Bll.destOf f) = none
  service : s.blank = false

/-- The state in which a fresh request is evaluated: its session knows it, H is its FC, and nothing else has changed. -/
structure Taken (s t : State) (f : Frame) : Prop where
  high : Bll.high t f.session = f.fc
  idle : (t.session f.session).idleBy = s.ticks + s.rd 0x1180 5 * 1000
  subs : (t.session f.session).subs = (s.session f.session).subs
  role : (t.session f.session).role = (s.session f.session).role
  sessions : ∀ k, k ≠ f.session → t.session k = s.session k
  entries : ∀ i j, j < 256 → (i, j) ≠ (0x1100 + f.session, 8) → t.rd i j = s.rd i j
  rest : t = { s with sessions := t.sessions, ledger := t.ledger }

/-- The request's FC has completed in `u` with the answer `a`: the cached response carries the prefix and `rest` (R87, R88). -/
def completed (u : State) (type : Nat) (f : Frame) (a : Answer) (rest : List Byte) : Prop :=
  u.answer = a ∧ ∃ d ∈ (u.session f.session).done, d.1 = f.fc ∧ d.2.2 = decide (a.status ≠ .ok) ∧
    ∃ p, p.length = (if (u.session f.session).version = 0x0103 then 2 else 10) ∧
      d.2.1 = Frames.build u f.session type f.fc (p ++ rest)

end Sys2Proof.Claim

/-- R82, R83, R84, R86: an OPEN that is served is answered by the first check it fails; with OK the lowest free session awaits its
PROVE for 1,000 ms. A right proof from the same path makes the session Active with H = 0 and answers OK; a wrong one frees it; in a
blank it is answered BUSY and the session still waits. A frame that is malformed is counted and dropped. The timeouts of an OPEN,
of the lock-out and of an idle session end them; an OPEN refused during a lock-out counts towards none.
Choices of the model that it rests on: log entries 2, 36, 37, 156, 158, 159 (2: an event whose condition does not hold changes nothing). -/
def Obligations.SessionsOpenByProof : Prop :=
  ∀ (o : Origin) (f : Frame) (k : Fin 128) (via : Via) (source addr : Nat) (s : State),
    let path := Bll.transportOf via
    let x := s.session k
    let st := openStatus s o f
    (Bll.served s o = true → Bll.malformed 1 f = false →
      ∃ u, Effect s (.bllOpen o f) u ∧ u.answer = ⟨st, 0xFF⟩ ∧
        (st ≠ .ok → u.sessions = s.sessions) ∧
        (Bll.lockedOut s (Bll.sourceOf f) (Bll.transportOf o.via) o.addr = true → u.openers = s.openers) ∧
        (st = .ok → ∀ j, Bll.freeSession s (decide (o.via = .service)) = some j →
          (u.session j).phase = .challenged (s.ticks + 1000000) ∧ (u.session j).role = Bus.num f.payload 0 1 ∧
          (u.session j).nh = Bus.num f.payload 1 8 ∧ (u.session j).source = Bll.sourceOf f ∧
          some (u.session j).slot = Bll.slotFor s (Bus.num f.payload 0 1) (Bll.sourceOf f))) ∧
    (Bll.served s o = true → Bll.malformed 1 f = true → Effect s (.bllOpen o f) (s.inc 0x1180 9)) ∧
    (Bll.served s o = false → Stays s (.bllOpen o f) ∧ Stays s (.bllProve o f)) ∧
    (Bll.served s o = true → Bll.malformed 3 f = false → f.session = k → Bll.awaits s k = true → x.transport = Bll.transportOf o.via →
      x.addr = o.addr → x.source = Bll.sourceOf f →
      ∃ u, Effect s (.bllProve o f) u ∧
        (s.blank = true → u.answer = ⟨.busy, 0xFF⟩ ∧ u.session k = x) ∧
        (s.blank = false → leNat f.payload = Bll.proofOf s k →
          u.answer = ⟨.ok, 0xFF⟩ ∧ (u.session k).phase = .active ∧ (u.session k).ks = Bll.keyOf s k ∧
          (u.session k).idleBy = s.ticks + s.rd 0x1180 5 * 1000 ∧ u.rd (0x1100 + k) 8 = 0 ∧ u.fn ⟨0x0C, k⟩ = 2) ∧
        (s.blank = false → leNat f.payload ≠ Bll.proofOf s k → u.answer = ⟨.auth, 0xFF⟩ ∧ u.session k = {})) ∧
    (Bll.served s o = true → Bll.malformed 3 f = false → f.session = k → Bll.awaits s k = false → x.phase ≠ .active →
      Effect s (.bllProve o f) (s.inc 0x1180 9)) ∧
    (2 ≤ s.power → ∀ t, x.phase = .challenged t → t ≤ s.ticks →
      ∃ u, Effect s (.proveTimeout k) u ∧ u.session k = {} ∧ u = { s with sessions := u.sessions }) ∧
    (x.phase = .active → Stays s (.proveTimeout k)) ∧
    (Bll.lockedOut s source path addr = true → Stays s (.openLockoutEnd ⟨via, source⟩ addr)) ∧
    (Bll.lockedOut s source path addr = false →
      ∃ u, Effect s (.openLockoutEnd ⟨via, source⟩ addr) u ∧ u = { s with openers := u.openers } ∧
        (∀ y ∈ u.openers, y ∈ s.openers ∧ (y.source = source → y.transport = path → y.addr = addr → y.lockedBy = 0)) ∧
        ∀ y ∈ s.openers, y.source ≠ source ∨ y.transport ≠ path ∨ y.addr ≠ addr → y ∈ u.openers) ∧
    (2 ≤ s.power → x.phase = .active → x.idleBy ≤ s.ticks → (∀ j, j ≠ k.val → (s.session j).queue = []) →
      ∃ u, Effect s (.idleTimeout k) u ∧ (u.session k).phase = .free ∧ (u.session k).subs = [] ∧ u.rd (0x1100 + k) 1 = 0) ∧
    (x.phase ≠ .active ∨ s.ticks < x.idleBy → Stays s (.idleTimeout k))

/-- R74, R79, R86 to R89, R94 to R98, R558, R59: a fresh request of an Active session is evaluated and answered at once: READ with its
items, WRITE as its posting, SUBSCRIBE with a number, UNSUBSCRIBE, KEEPALIVE, CLOSE; a type without a meaning is RANGE. A frame of a
wrong tag, an old FC and a repeated FC never reach evaluation.
Choices of the model that it rests on: log entries 38, 39, 158, 160. -/
def Obligations.RequestsAreEvaluatedOnce : Prop :=
  ∀ (o : Origin) (f : Frame) (s : State),
    let x := s.session f.session
    (Fresh s o 0x10 f → ∀ l, Reads.parse f.payload = some l →
      ∃ t u, Taken s t f ∧ Effect s (.bllRead o f) u ∧
        completed u 0x10 f (Reads.run t x.role (decide (x.version = 0x0103)) (if x.version = 0x0103 then 1398 else 1390) l).1
          (Reads.run t x.role (decide (x.version = 0x0103)) (if x.version = 0x0103 then 1398 else 1390) l).2 ∧
        u.cells = s.cells ∧ u.teller = s.teller) ∧
    (Fresh s o 0x11 f → ∀ l a v, Reads.parseWrites f.payload = some l →
      ∃ t u, Taken s t f ∧ Effect s (.bllWrite o f) u ∧
        (Posting.run (.session f.session f.fc) (.session (Fin.ofNat 128 f.session)) l t = (some a, v) →
          u.answer = a ∧ u.cells = v.cells ∧ u.banks = v.banks ∧ u.teller = v.teller) ∧
        (Posting.run (.session f.session f.fc) (.session (Fin.ofNat 128 f.session)) l t = (none, v) → u = v)) ∧
    (Fresh s o 0x12 f → f.payload.length = 11 →
      Reads.check s x.role (decide (x.version = 0x0103)) (Bus.num f.payload 0 2) (Bus.num f.payload 2 1) = .ok →
      Subs.intervalOk (Bus.num f.payload 3 1) (Bus.num f.payload 5 2) = true → Bus.num f.payload 4 1 < 8 →
      (Bus.num f.payload 7 4 = 0 ∨
        ((Fns.row s (Bus.num f.payload 0 2) (Bus.num f.payload 2 1)).map Reads.typeOf).any (·.numeric) = true) → Subs.total s < 1024 → ∀ m, Subs.freeNumber x = some m →
      ∃ u y, Effect s (.bllSubscribe o f) u ∧ completed u 0x12 f ⟨.ok, 0xFF⟩ (octets 1 m) ∧
        (u.session f.session).subs = x.subs ++ [y] ∧ y.number = m ∧
        y.loc = Bus.num f.payload 0 2 * 256 + Bus.num f.payload 2 1 ∧ y.mode = Bus.num f.payload 3 1 ∧ y.interval = Bus.num f.payload 5 2) ∧
    (Fresh s o 0x13 f → f.payload.length = 1 →
      ∃ u, Effect s (.bllUnsubscribe o f) u ∧
        ((∃ y ∈ x.subs, y.number = Bus.num f.payload 0 1) → completed u 0x13 f ⟨.ok, 0xFF⟩ [] ∧
          (u.session f.session).subs = x.subs.filter fun y => decide (y.number ≠ Bus.num f.payload 0 1)) ∧
        ((∀ y ∈ x.subs, y.number ≠ Bus.num f.payload 0 1) → completed u 0x13 f ⟨.range, 0xFF⟩ [] ∧
          (u.session f.session).subs = x.subs)) ∧
    (Fresh s o 0x15 f → f.payload = [] →
      ∃ u, Effect s (.bllKeepalive o f) u ∧ completed u 0x15 f ⟨.ok, 0xFF⟩ [] ∧
        (u.session f.session).idleBy = s.ticks + s.rd 0x1180 5 * 1000 ∧ u.cells = s.cells) ∧
    (Fresh s o 0x05 f → f.payload = [] →
      ∃ u, Effect s (.bllClose o f) u ∧ u.answer = ⟨.ok, 0xFF⟩ ∧ u.session f.session = {} ∧ u.rd (0x1100 + f.session) 1 = 0 ∧
        u.cells = s.cells) ∧
    (∀ type, type ∉ [1, 3, 5, 0x10, 0x11, 0x12, 0x13, 0x15] → Fresh s o type f →
      ∃ u, Effect s (.reservedTypeFrame o type f) u ∧ completed u type f ⟨.range, 0xFF⟩ [] ∧ u.cells = s.cells) ∧
    (f.session < 128 → Bll.served s o = true → Bll.malformed 0x10 f = false → x.phase = .active →
      x.transport = Bll.transportOf o.via → x.addr = o.addr → x.source = Bll.sourceOf f →
      (f.tag ≠ Bll.tagOf x.ks 0x10 f → Effect s (.bllRead o f) (s.inc (0x1100 + f.session) 0x0C)) ∧
      (f.tag = Bll.tagOf x.ks 0x10 f → f.version = Frames.versionByte x.version → f.fc + 15 < Bll.high s f.session →
        ∃ u, Effect s (.bllRead o f) u ∧ u.answer = ⟨.auth, 0xFF⟩ ∧
          u.rd (0x1100 + f.session) 0x0D = min 0xFFFFFFFF (s.rd (0x1100 + f.session) 0x0D + 1) ∧
          Bll.high u f.session = Bll.high s f.session) ∧
      (f.tag = Bll.tagOf x.ks 0x10 f → f.version = Frames.versionByte x.version → f.fc ≠ 0 →
        Bll.high s f.session ≤ f.fc + 15 → f.fc ≤ Bll.high s f.session → x.seen.contains f.fc = true →
        ∃ u, Effect s (.bllRead o f) u ∧ u.answer = s.answer ∧ (u.session f.session).done = x.done ∧
          (u.session f.session).queue = x.queue ∧ Bll.high u f.session = Bll.high s f.session ∧ u.cells = s.cells))

/-- R26, R42, R43, R74, R78, R96, R213, R416: a relayed request completes by its device's answer of the right tag, or with BUSY after
ProxyTimeout; a subscription's interval ends; an ISO-TP transfer that waited for 1,000 ms ends; a completed store burst keeps the
values and counts; a store request that was declined is made again; the end of a blank restores the service, and a posting whose
burst ended or was declined in it is answered then.
Choices of the model that it rests on: log entries 2, 41, 42 (2: an event whose condition does not hold changes nothing). -/
def Obligations.RelaysStoresAndServiceGoOn : Prop :=
  ∀ (k : Fin 128) (sub : Fin 64) (bus : RelayBus) (device tag type status position fc t : Nat) (items : List Byte) (ch : Fin 64)
    (s : State), 2 ≤ s.power →
    let x := s.session k
    let dev := relayDevice bus device
    (x.relay = some (dev, t) → x.evaluating = some fc → x.queue = [] → x.closing = false →
      (∀ j, j ≠ k.val → (s.session j).queue = [] ∧ ∀ r, (s.session j).relay = some r → r.1 ≠ dev) →
      (t ≤ s.ticks → ∃ u, Effect s (.proxyTimeout k) u ∧ u.answer = ⟨.busy, 0xFF⟩ ∧ (u.session k).evaluating = none ∧
        (u.session k).relay = none) ∧
      (s.ticks < t → Stays s (.proxyTimeout k)) ∧
      (Map.wf {} s.sessions = true → Map.get 0 s.relayTags dev = tag + 1 →
        ∃ u, Effect s (.relayResponse bus device tag type status position items) u ∧ u.answer = ⟨Bll.statusOf status, position⟩ ∧
          (u.session k).evaluating = none ∧ (u.session k).relay = none) ∧
      (Map.wf {} s.sessions = true → Map.get 0 s.relayTags dev ≠ tag + 1 →
        Stays s (.relayResponse bus device tag type status position items))) ∧
    (x.relay = none → Stays s (.proxyTimeout k)) ∧
    (∀ y, x.subs.find? (·.number = sub.val) = some y → y.due ≤ s.ticks → x.phase = .active → y.mode = 1 → (Subs.row s y).isSome = true →
      ∃ u z, Effect s (.notifyInterval k sub) u ∧ z ∈ (u.session k).subs ∧ z.number = sub.val ∧ z.due = y.due + y.interval * 1000 ∧
        z.last = Subs.value s y ∧ u.cells = s.cells) ∧
    ((∀ y, x.subs.find? (·.number = sub.val) = some y → s.ticks < y.due) → Stays s (.notifyInterval k sub)) ∧
    ((∃ by_, (s.isoTp ch).rxBy = some by_ ∧ by_ ≤ s.ticks) →
      ∃ u, Effect s (.isoTpTimeout ch true) u ∧ (u.isoTp ch).rxBy = none ∧ (u.isoTp ch).got = [] ∧ u.sessions = s.sessions) ∧
    ((s.isoTp ch).rxBy = none → Stays s (.isoTpTimeout ch true)) ∧
    ((∃ by_, (s.isoTp ch).fcBy = some by_ ∧ by_ ≤ s.ticks) →
      ∃ u, Effect s (.isoTpTimeout ch false) u ∧ (u.isoTp ch).item = none ∧ (u.isoTp ch).fcBy = none ∧ (u.isoTp ch).rest = []) ∧
    ((s.isoTp ch).fcBy = none → Stays s (.isoTpTimeout ch false)) ∧
    (∀ locs, s.jobs = [{ kind := .entries locs, phase := .storing }] →
      ∃ u, Effect s .parameterStoreComplete u ∧ u.jobs = [] ∧ u.rd 0x1000 8 = min 0xFFFFFFFF (s.rd 0x1000 8 + 1) ∧
        Teller.loanOf u.teller 0x1000 = none ∧ ∀ loc ∈ locs, loc < 0x1000000 → loc ≠ 0x100008 →
          Store.value u (loc / 256) (loc % 256) = Store.current s (loc / 256) (loc % 256)) ∧
    ((∀ j ∈ s.jobs, j.phase ≠ .storing) → Stays s .parameterStoreComplete) ∧
    (Store.busy s = false → (∃ j ∈ s.jobs, ∃ a, j.phase = .waiting a ∧ a ≤ s.ticks) →
      ∃ u, Effect s .persistStoreRetry u ∧ u.jobs.length = s.jobs.length ∧
        (Teller.loanOf s.teller 0x1000 = none → Teller.requestOf s.teller 0x1000 = none →
          (∃ j ∈ u.jobs, j.phase = .requested) ∧
            ((Teller.requestOf u.teller 0x1000).isSome = true ∨ (∃ l ∈ u.teller.held, l.requester = 0x1000) ∨
              ∃ l ∈ u.teller.declined, l.requester = 0x1000)) ∧
        (s.teller.resetting = false → Teller.loanOf s.teller 0x1000 ≠ none ∨ Teller.requestOf s.teller 0x1000 ≠ none →
          (∀ j ∈ u.jobs, j.phase ≠ .requested) ∧ raised s u 0x1103)) ∧
    (Store.busy s = true ∨ (∀ j ∈ s.jobs, ∀ a, j.phase = .waiting a → s.ticks < a) → Stays s .persistStoreRetry) ∧
    (s.blank = true → s.supervisor.runs = true → s.update.activation = none → (∀ p ∈ s.sessions, p.2.queue = []) →
      (∀ j ∈ s.update.job, j.held = none) →
      ((∀ j ∈ s.jobs, j.phase ≠ .stored ∧ j.phase ≠ .declined) →
        Store.busy s = true ∨ (∀ j ∈ s.jobs, ∀ a, j.phase = .waiting a → s.ticks < a) →
        Effect s .serviceResume { s with blank := false }) ∧
      (∀ w writes fns, s.jobs = [{ kind := .functions .direct w writes fns, phase := .stored }] →
        ∃ u, Effect s .serviceResume u ∧ u.answer = ⟨.ok, 0xFF⟩) ∧
      (∀ w writes fns, s.jobs = [{ kind := .functions .direct w writes fns, phase := .declined }] →
        ∃ u, Effect s .serviceResume u ∧ u.answer.status = .declined)) ∧
    (s.blank = false → Stays s .serviceResume)

/-! ### Writes to module time, sessions, switch and field buses (chapters 02, 03, 13, 14) -/

/-- R69, R70, R85, R98, R364, R373, R380, R384, R399, R401, R406, R410, R412: what accepted writes to the network side do: module time
steps, a key or address change closes its sessions, a ConfigChange fixes its time, a reservation moves coins, MACsec keys are
committed, learned addresses go, a controller recovers, its suspended identifiers return, a frame is queued, or counted where its
segment sleeps, a schedule or a sleep waits for the end of its slot.
Choices of the model that it rests on: log entries 19, 98. -/
def Obligations.AcceptedWritesOfNetworks : Prop :=
  ∀ (w : Writer) (slot : Fin 16) (binding : Bool) (which : AddressEntry) (p : Fin 8) (up : Fin 2) (egress : Bool) (i : Fin 12)
    (k : Fin 16) (ch : Fin 8) (l : List Byte) (v : Nat) (s : State),
    let key := (if binding then 0x11 else 1) + slot.val
    let address := match which with | .node => 1 | .ipv4 => 2 | .ipv6 => 3
    let closes (u : State) (n : Fin 128) : Prop := w ≠ .session n ∨ (s.session n).evaluating = none → (u.session n).phase = .free
    let t := s.rd (0x6300 + p) 2
    let cyc := s.rd (0x6300 + p) 3
    let ri := if egress then 0x6101 else 0x6200 + i.val
    let rj := if egress then 1 + i.val else 1
    Commits s (.setModuleTime w v) w 0x1200 5 v (fun u =>
      u.now = v ∧ s.now ≤ v ∧ u.ticks = s.ticks ∧ u.slew = 0 ∧ u.cells = s.cells ∧ ∀ b : Fin 16, (u.bank b).aligned = false) ∧
    Commits s (.keySlotWrite w slot binding v) w 0x1181 key v (fun u =>
      u.rd 0x1181 key = v ∧ (Map.wf {} s.sessions = true → ∀ n : Fin 128,
        ((s.session n).phase = .active → (s.session n).slot = slot → closes u n) ∧
        ((s.session n).phase ≠ .active ∨ (s.session n).slot ≠ slot → u.session n = s.session n))) ∧
    Commits s (.addressWrite w which v) w 0x1180 address v (fun u =>
      u.rd 0x1180 address = v ∧ (Map.wf {} s.sessions = true → ∀ n : Fin 128,
        ((s.session n).transport = 1 ∨ (s.session n).transport = 2 → closes u n) ∧
        ((s.session n).transport = 3 ∨ (s.session n).transport = 4 → u.session n = s.session n))) ∧
    Commits s (.configChange w p v) w (0x6300 + p) 5 v (fun u =>
      (cyc ≠ 0 → s.now + 1000000 ≤ u.rd (0x6300 + p) 9 ∧ t ≤ u.rd (0x6300 + p) 9 ∧ cyc ∣ u.rd (0x6300 + p) 9 - t ∧
        (u.rd (0x6300 + p) 9 = t ∨ u.rd (0x6300 + p) 9 < s.now + 1000000 + cyc)) ∧
      (Switch.adminList s p).all (fun x => decide (1000 ≤ x.2)) = true ∧ u.ports = s.ports) ∧
    Commits s (.reservationWrite w egress i v) w ri rj v (fun u =>
      u.rd ri rj = v ∧ Vault.reservedTotal u + s.rd ri rj = Vault.reservedTotal s + v ∧ Vault.reservedTotal u ≤ 131072 ∧
        u.vault = s.vault) ∧
    Commits s (.macsecKeyCommit w up v) w (0x6000 + up) 0x14 v (fun u =>
      (u.port up).keyed = true ∧ (u.port up).txKey = s.rd (0x6000 + up) 0x11 ∧ (u.port up).rxKey = s.rd (0x6000 + up) 0x12 ∧
      u.rd (0x6000 + up) 0x15 = 0 ∧
      ((s.port up).keyed = true → (u.port up).an = 1 - (s.port up).an ∧ (u.port up).oldKey = some (s.port up).rxKey)) ∧
    Commits s (.fdbFlush w v) w 0x6100 0x0C v (fun u => u.fdb = [] ∧ raised s u 0x1564 ∧ u.vault = s.vault) ∧
    Commits s (.busOffRecover w k v) w (0x6400 + k) 0x0E v (fun u =>
      (s.can k).busOff = true ∧ u.can k = { s.can k with recovering := true }) ∧
    Commits s (.clashClear w k v) w (0x6400 + k) 0x0F v (fun u => u.rd (0x6400 + k) 0x15 = 0 ∧ u.cans = s.cans) ∧
    CommitsOctets s (.transmitFrame w k l) w (0x6400 + k) 0x0D l (fun u =>
      ((s.can k).asleep = true → u.cans = s.cans ∧ u.rd 0x6800 0x15 = min 0xFFFFFFFF (s.rd 0x6800 0x15 + 1)) ∧
      ((s.can k).asleep = false → ∃ x, (u.can k).txq = (s.can k).txq ++ [x] ∧ x.frame.ident = Bus.num l 4 4 ∧
        x.frame.data = (l.drop 12).take (Bus.num l 2 1) ∧ x.chain.tc = Bus.num l 1 1 ∧ (s.can k).txq.length < s.rd (0x6400 + k) 9)) ∧
    Commits s (.scheduleSelect w ch v) w (0x6500 + ch) 6 v (fun u =>
      u.rd (0x6500 + ch) 6 = v ∧ u.lin ch = { s.lin ch with select := some v }) ∧
    Commits s (.sleepCommand w ch v) w (0x6500 + ch) 7 v (fun u => u.lin ch = { s.lin ch with sleepAsked := true })

/-! ### Writes to power, access, Audit, escrow and update (chapters 15 to 18) -/

/-- R421, R424, R427, R442, R453 to R455: accepted requests for a power state, a round and an access exchange begin what they ask for:
a refused round is answered with STATE and retried by the request alone, a round without members is sealed SealTime from now;
Run clears the request; a new bit of KeepAwake wakes its network; an access request starts or ends at once; a memory request
waits for its key; enrolment fills a slot and revocation empties it.
Choices of the model that it rests on: log entries 19, 113, 116, 131. -/
def Obligations.AcceptedWritesOfPowerAndAccess : Prop :=
  ∀ (w : Writer) (v zone : Nat) (t block : Fin 16) (l : List Byte) (s : State),
    let e := s.now + s.rd 0x6800 4 * 1000000
    let asked (d : Nat) (u : State) : Prop :=
      let z := s.modTally fun t => { t with depth := d }
      u.tally.depth = d ∧ u.power = 3 ∧ u.cells = s.cells ∧
      (Sleep.root s = false → u.rd 0x1300 2 = Status.busy.code ∧ u.tally = { s.tally with depth := d, requested := true }) ∧
      (Sleep.root s = true → ∀ r, Sleep.refusal z 0xFF d = some r →
        u.rd 0x1300 2 = Status.state.code ∧ u.rd 0x6800 0x0E = r ∧ u.tally.run = none ∧ u.tally.bound = none ∧
        ∃ a, u.tally.retryAt = some a ∧ s.ticks + s.rd 0x6800 6 * 1000 ≤ a) ∧
      (Sleep.root s = true → s.rd 0x6800 8 < 8 → Sleep.members s = [] → Sleep.refusal z 0xFF d = none →
        u.rd 0x1300 2 = Status.busy.code ∧ ∃ b, u.tally.bound = some b ∧ b.own = true ∧ b.mask = 0xFF ∧ b.depth = d ∧ b.sealEnd = some e)
    let access := zone % 8
    let here := Access.present s (Access.anchorOf s access)
    let memory (write : Bool) (u : State) : Prop :=
      u.rd 0x7030 1 = Status.busy.code ∧ ∃ m, u.access.memory = some m ∧ m.token = t ∧ m.block = block ∧ m.write = write ∧
        m.at_ = s.ticks
    let n := leNat l
    let slot := leNat ((l.drop 8).take 1)
    Commits s (.powerRequestSleep w) w 0x1300 2 1 (asked 2) ∧
    Commits s (.powerRequestStandby w) w 0x1300 2 2 (asked 1) ∧
    Commits s (.powerRequestRun w) w 0x1300 2 3 (fun u =>
      u.rd 0x1300 2 = 0 ∧ u.tally = { s.tally with depth := 0, retryAt := none, requested := false } ∧ u.power = 3 ∧ u.cells = s.cells) ∧
    Commits s (.roundStart w v) w 0x6800 0x0C v (fun u =>
      (∀ r, Sleep.refusal s (v % 256) (v / 256 % 4) = some r →
        u.rd 0x6800 0x0C = Status.state.code ∧ u.rd 0x6800 0x0E = r ∧ u.tally.run = none ∧ u.tally.bound = none) ∧
      (Sleep.refusal s (v % 256) (v / 256 % 4) = none → s.rd 0x6800 8 < 8 → Sleep.members s = [] →
        u.rd 0x6800 0x0C = 0 ∧ ∃ b, u.tally.bound = some b ∧ b.own = true ∧ b.mask = v % 256 ∧ b.depth = v / 256 % 4 ∧ b.sealEnd = some e)) ∧
    Commits s (.keepAwake w v) w 0x6800 0x0B v (fun u =>
      u.rd 0x6800 0x0B = v ∧ (∀ k, k < 8 → bitOf v k = true → s.rdBit 0x6800 0x0B k = false → bitOf u.tally.sleeping k = false) ∧
      (s.tally.sleeping = 0 → u.tally = s.tally)) ∧
    Commits s (.accessRequest w zone) w 0x7000 4 zone (fun u =>
      u.rd 0x7000 0x15 = min 0xFFFFFFFF (s.rd 0x7000 0x15 + 1) ∧
      (Access.locked s = true → u.access.run = none ∧ u.rd 0x7000 4 = 0 ∧ u.rd 0x7000 5 % 256 = 7) ∧
      (Access.locked s = false → Access.awake s = true → here = false →
        u.access.run = none ∧ u.rd 0x7000 4 = 0 ∧ u.rd 0x7000 5 % 256 = 9) ∧
      (Access.locked s = false → Access.awake s = true → here = true → u.rd 0x7000 4 = Status.busy.code ∧
        ∃ r, u.access.run = some r ∧ r.zone = access ∧ r.step = .loan) ∧
      (Access.locked s = false → Access.awake s = false → u.rd 0x7000 4 = Status.busy.code ∧
        ∃ r, u.access.run = some r ∧ r.zone = access ∧ r.step = .waking (s.ticks + 200000))) ∧
    Commits s (.memoryRead w t block) w 0x7030 1 (t + block * 16) (memory false) ∧
    Commits s (.memoryWrite w t block) w 0x7030 1 (t + block * 16 + 256) (memory true) ∧
    CommitsOctets s (.enrolRecord w l) w 0x7000 0x11 l (fun u =>
      u.rd (0x7010 + slot) 1 = n % 2 ^ 64 ∧ u.rd (0x7010 + slot) 2 = 1 ∧ u.rd (0x7010 + slot) 3 = n / 2 ^ 72 % 256 ∧
      Access.key u slot = Config.aesInverse (s.rd 0x7000 0x0E) (n / 2 ^ 256 % 2 ^ 128) ∧
      u.rd 0x7000 0x13 = s.rd 0x7000 0x13 + 1 ∧ u.rd 0x7000 0x12 = 1) ∧
    Commits s (.tokenRevoke w t v) w (0x7010 + t) 6 v (fun u =>
      u.rd (0x7010 + t) 1 = 0 ∧ u.rd (0x7010 + t) 2 = 0 ∧ u.rd (0x7010 + t) 3 = 0 ∧ Access.key u t = 0 ∧
      Map.get none u.access.grants t = none)

/-- R465, R470, R472, R476, R487, R497, R498, R501: accepted writes to the Audit, to escrow and to the update: Acknowledge cancels a
grace window that is still open, Clear returns a source to its start, Force raises it; a per-function reset begins; LimpExit gives every limp unit back
to the Ledger, OFF; Begin, Finish and Discard move UpdateState, StageData waits for its staging loan, and an activation is
scheduled or cancelled.
Choices of the model that it rests on: log entries 19, 134, 139. -/
def Obligations.AcceptedWritesOfAuditAndUpdate : Prop :=
  ∀ (w : Writer) (id : Fin 8192) (v : Nat) (l : List Byte) (s : State),
    let r := s.source id
    Commits s (.sourceAcknowledge w id) w (0x8000 + id) 5 1 (fun u =>
      (∀ t, r.severe = true → r.graceEnd = some t → s.ticks < t →
        u.source id = { r with unack := false, graceEnd := none } ∧ u.rd 0x7400 8 = min 0xFFFFFFFF (s.rd 0x7400 8 + 1)) ∧
      (r.severe = true → (∀ t, r.graceEnd = some t → t ≤ s.ticks) →
        u.source id = { r with unack := false } ∧ u.rd 0x7400 8 = s.rd 0x7400 8) ∧
      (r.severe = false → u.sources = s.sources) ∧ u.cells = s.cells) ∧
    Commits s (.sourceClear w id) w (0x8000 + id) 5 2 (fun u =>
      Cause.persists s id = false ∧ ((∀ t, r.graceEnd = some t → s.ticks < t) →
        u.source id = { lastAt := r.lastAt, applied := r.applied } ∧ (0x1000 ≤ id.val → u.cells = s.cells))) ∧
    Commits s (.sourceForce w id v) w (0x8000 + id) 6 v (fun u =>
      u.rd (0x8000 + id) 6 = v ∧ (v = 1 → raised s u id) ∧ (v = 0 → u.sources = s.sources) ∧ u.cells = s.cells) ∧
    Commits s (.functionReset w v) w 0x7E00 1 v (fun u =>
      s.fnReset = none ∧ u.fnReset = some v ∧ u.rd 0x7E00 1 = Status.busy.code ∧ (v / 256 = 1 → (u.bank (v % 256)).resetting = true)) ∧
    Commits s (.limpExit w v) w 0x7600 7 v (fun u =>
      ∀ n, n < 512 → Chan.owner s n = 0xF100 → s.head n = n → Chan.owner u n = 0 ∧ Chan.command u n = 0) ∧
    Commits s (.updateBegin w) w 0x7C00 2 1 (fun u => Upd.st u = 1 ∧ u.rd 0x7C00 5 = 0 ∧ u.update.built = false ∧ u.cells = s.cells) ∧
    Commits s (.updateFinish w) w 0x7C00 2 2 (fun u =>
      Upd.st s = 1 ∧ Upd.st u = 1 ∧ u.rd 0x7C00 2 = Status.busy.code ∧ u.update.checking = true) ∧
    Commits s (.updateDiscard w) w 0x7C00 2 5 (fun u => Upd.st u = 0 ∧ u.rd 0x7C00 5 = 0 ∧ u.cells = s.cells) ∧
    (Accepts s w (Direct.octetWrite 0x7C00 4 l) → Direct.second s w = false →
      ∃ u j, Effect s (.stageData w l) u ∧ u.update.job = some j ∧ j.writes = [Direct.octetWrite 0x7C00 4 l] ∧ j.running = false ∧
        u.answer = s.answer ∧ u.update.staging = s.update.staging ∧ u.rd 0x7C00 3 = s.rd 0x7C00 3) ∧
    Commits s (.activationSchedule w) w 0x7C00 7 1 (fun u =>
      Upd.st s = 4 ∧ Upd.st u = 5 ∧ s.now + 1000000000 ≤ u.rd 0x7C00 6 ∧ u.rd 0x7C00 6 ≤ s.now + 2592000000000000) ∧
    Commits s (.activationCancel w) w 0x7C00 7 2 (fun u => Upd.st s = 5 ∧ Upd.st u = 4 ∧ u.cells = s.cells)

/-! ### The switch, the Vault and module time (chapters 13 and 02) -/

namespace Sys2Proof.Claim

open Machine

/-- A frame as port `p` sees it. -/
def seen (p : Nat) (f : EthHead) : EthFrame :=
  { inPort := p, dst := f.dst, src := f.src, vid := f.vid, tagged := f.tagged, pcp := f.pcp, len := f.len, etype := f.etype,
    data := f.data, rtag := f.rtag }

/-- The egress ports that queue a frame sent to `l`: Active, reachable from its port, awake (R354, R420). -/
def queued (s : State) (p : Nat) (l : List Nat) : List Nat := (Switch.allowed s p l).filter fun q => !Vault.sleeps s q

/-- What an item carries once it leaves: a queued notification has become the octets of its frame (R79, R97). -/
def leaving (s : State) : Cargo → Cargo
  | .notify k fc n st m t l => .bll (s.session k).transport (s.session k).addr k (Frames.build s k 0x14 fc (Frames.notify n st m t l))
  | c => c

/-- The Vault can read the item at once (R377): it is Bullion, or its frame fits into the 24 Gbit/s that nothing is owed of. -/
def readable (s : State) (q : Nat) (z : VItem) : Prop :=
  z.chain.tc = 7 ∨ (Switch.readLate s = 0 ∧ Switch.readDemand s + Switch.readRate q (Switch.wireLen s q z) ≤ 2400000)

/-- The Vault's items are told apart, and every chain names a class and a port of the module. -/
structure Told (s : State) : Prop where
  ids : s.vault.Pairwise fun x y => x.id ≠ y.id
  items : ∀ x ∈ s.vault, x.chain.tc < 8 ∧ x.chain.port < 12
  rx : ∀ c, ∀ r ∈ (s.ctx c).rx, r.chain.tc < 8 ∧ r.chain.port < 12
  tx : ∀ k, (∀ x ∈ (s.can k).txq, x.chain.tc < 8 ∧ x.chain.port < 12) ∧ (∀ x ∈ (s.can k).rxq, x.chain.tc < 8 ∧ x.chain.port < 12) ∧
    ∀ y ∈ (s.can k).slots, ∀ x, y.2 = some x → x.item.chain.tc < 8 ∧ x.item.chain.port < 12

end Sys2Proof.Claim

/-- R355, R357, R358, R361, R362, R366, R377, R383, R384, R389: a frame's decision counts what it refuses and queues the rest with 12 coins,
or counts the want of them; its end keeps the coins of its length, starts its tenor and learns its source, or drops it; a
transmission takes the head of the highest class where the Vault can read it, and frees the item at its end; items past their tenor leave every queue; links
go up and down; unseen addresses age out.
Choices of the model that it rests on: log entries 2, 94, 96, 97, 103, 155 (2: an event whose condition does not hold changes
nothing). -/
def Obligations.FramesPassTheSwitch : Prop :=
  ∀ (p : Fin 9) (q : Fin 12) (f : EthHead) (good : Bool) (sec : MacsecResult) (ctxs : List (Fin 128)) (mac : Nat) (s : State),
    2 ≤ s.power →
    let x := seen p f
    let r := s.port p
    let o := s.port q
    let arrived (t : State) (n : Option Nat) : State := t.modPort p fun r => { r with arriving := some ⟨x, n⟩ }
    (Switch.up s p = false ∨ r.arriving.isSome = true → Stays s (.frameForwardDecision p f)) ∧
    (Switch.up s p = true → r.arriving = none →
      (Switch.pause x = true → Effect s (.frameForwardDecision p f) (arrived (s.inc (0x6000 + p) 0x29) none)) ∧
      (Switch.pause x = false → Switch.accepted s x = false →
        Effect s (.frameForwardDecision p f) (arrived (s.inc (0x6000 + p) 0x27) none)) ∧
      (Switch.pause x = false → Switch.accepted s x = true → Switch.match_ s x = none →
        (Switch.egress s x none = none → Effect s (.frameForwardDecision p f) (arrived (s.inc (0x6000 + p) 0x27) none)) ∧
        ∀ l, Switch.egress s x none = some l →
          (queued s p l = [] → ∃ u, Effect s (.frameForwardDecision p f) u ∧ u.vault = s.vault ∧ (u.port p).arriving = some ⟨x, none⟩) ∧
          ∀ a m, queued s p l = a :: m →
            (Vault.sourceFor s (Switch.frameClass s x none) a 12 = none → ∃ u, Effect s (.frameForwardDecision p f) u ∧
              u.vault = s.vault ∧ (u.port p).arriving = some ⟨x, none⟩ ∧
              u.rd (0x6000 + a) 0x24 = min 0xFFFFFFFF (s.rd (0x6000 + a) 0x24 + 1)) ∧
            (∀ k, Vault.sourceFor s (Switch.frameClass s x none) a 12 = some k → ∃ u y, Effect s (.frameForwardDecision p f) u ∧
              u.vault = s.vault ++ [y] ∧ y.ports = a :: m ∧ y.cargo = .eth x ∧ y.chain.tc = Switch.frameClass s x none ∧
              y.chain.coins = 12 ∧ y.chain.src = k ∧ (u.port p).arriving = some ⟨x, some y.id⟩))) ∧
    (r.arriving = none → Stays s (.frameReceiveComplete p good sec)) ∧
    (∀ y i, r.arriving = some ⟨y, i⟩ →
      (good = false ∨ y.len < 64 ∨ 1522 < y.len → ∃ u, Effect s (.frameReceiveComplete p good sec) u ∧ (u.port p).arriving = none ∧
        u.rd (0x6000 + p) 0x26 = min 0xFFFFFFFF (s.rd (0x6000 + p) 0x26 + 1) ∧ u.fdb = s.fdb ∧
        ∀ n z, i = some n → Vault.find s n = some z → z.sending = [] → Vault.find u n = none) ∧
      (good = true → 64 ≤ y.len → y.len ≤ 1522 → Switch.macsec s p = false → ∃ u, Effect s (.frameReceiveComplete p good sec) u ∧
        (u.port p).arriving = none ∧ u.rd (0x6000 + p) 0x20 = min 0xFFFFFFFF (s.rd (0x6000 + p) 0x20 + 1) ∧
        (Switch.group y.src = false → s.fdb.length < 4096 → ∃ e ∈ u.fdb, e.mac = y.src ∧ e.port = p ∧ e.seen = s.ticks) ∧
        ∀ n z, i = some n → Vault.find s n = some z → ∃ z', Vault.find u n = some z' ∧ z'.chain.coins = Vault.coinsOf y.len ∧
          z'.chain.start = some (z.chain.start.getD s.ticks) ∧ z'.ports = z.ports)) ∧
    (Switch.up s q = false ∨ o.sending.isSome = true ∨ Vault.sleeps s q = true ∨ (∀ tc, tc < 8 → Switch.head s q tc = none) →
      Stays s (.egressTransmitStart q .clean)) ∧
    (∀ tc z, tc < 8 → Switch.up s q = true → o.sending = none → (q < 9 → Switch.linked s q = true ∧ s.supply.onBackup = false) →
      Vault.sleeps s q = false → Switch.macsec s q = false → (8 ≤ q.val ∨ s.rd (0x6300 + q) 1 = 0) → Switch.head s q tc = some z →
      (∀ k, tc < k → k < 8 → Switch.head s q k = none) → Vault.find s z.id = some z → readable s q z → (∀ k, z.cargo ≠ .cos k) →
      ∃ u, Effect s (.egressTransmitStart q .clean) u ∧ (u.port q).sending = some z.id ∧
        Vault.find u z.id = some { z with
          cargo := leaving s z.cargo, ports := z.ports.filter (· ≠ q.val), sending := z.sending ++ [q.val] } ∧ u.out = s.out) ∧
    (∀ tc z, tc < 7 → Switch.idle s q = true → (8 ≤ q.val ∨ s.rd (0x6300 + q) 1 = 0) → Switch.head s q tc = some z →
      (∀ k, tc < k → k < 8 → Switch.head s q k = none) → 0 < Switch.readLate s → Stays s (.egressTransmitStart q .clean)) ∧
    (o.sending = none → ∃ u, Effect s (.egressTransmitEnd q ctxs) u ∧ (u.port q).sending = none ∧ u.vault = s.vault ∧ u.ledger = s.ledger) ∧
    (∀ id z y, o.sending = some id → Vault.find s id = some z → z.id = id → z.cargo = .eth y → z.stomped = false → q.val < 10 →
      z.chain.tc < 8 → z.chain.port < 12 →
      ∃ u, Effect s (.egressTransmitEnd q ctxs) u ∧ (u.port q).sending = none ∧
        u.out = .port q (Switch.wireLen s q z) z.chain.tc
          (if (Switch.tagOut s q y z.chain.tc).1 then some (Switch.tagOut s q y z.chain.tc).2 else none) :: s.out ∧
        u.rd (0x6000 + q) 0x22 = min 0xFFFFFFFF (s.rd (0x6000 + q) 0x22 + 1) ∧
        ((∀ n ∈ z.ports ++ z.sending, n = q.val) → Vault.find u id = none)) ∧
    (Told s → ∃ u, Effect s .tenorExpiry u ∧
      (∀ y ∈ u.vault, Vault.expired s y.chain = true → y.ports = []) ∧
      (∀ y ∈ s.vault, Vault.expired s y.chain = false → y ∈ u.vault) ∧
      (∀ c, c < 128 → ∀ y ∈ (u.ctx c).rx, Vault.expired s y.chain = false) ∧
      (∀ k, k < 16 → ∀ y ∈ (u.can k).txq, Vault.expired s y.chain = false)) ∧
    (∃ u, Effect s (.linkUp p) u ∧ (u.port p).link = true ∧ (u.port p).asleep = false ∧ u.cells = s.cells ∧
      (2 ≤ p.val ∨ s.tally.owed = 0 → u.tally = s.tally)) ∧
    (r.link = false → Stays s (.linkDown p)) ∧
    (r.link = true → ∃ u, Effect s (.linkDown p) u ∧ (u.port p).link = false ∧ (u.port p).arriving = none ∧ (u.port p).sending = none ∧
      (Switch.up s p = true → r.asleep = false → r.arriving = none → r.sending = none →
        u.rd (0x6000 + p) 0x2D = min 0xFFFFFFFF (s.rd (0x6000 + p) 0x2D + 1) ∧ raised s u (0x1500 + p * 8))) ∧
    Effect s (.fdbAgeOut mac) { s with
      fdb := s.fdb.filter (fun e => decide (e.mac ≠ mac ∨ s.ticks < e.seen + s.rd 0x6100 0x0A * 1000000)) }

/-- R69, R371, R373, R376, R379, R381, R548: a gate applies the entry of the present time; at ConfigChangeTime the administrative list
becomes the operating one; Bullion counts the class 7 octets of the last 50 µs; a recovery without frames starts anew; a sync message within
1 ms slews module time, one beyond steps it forward where it is behind, and 3 s without one are holdover.
Choices of the model that it rests on: log entries 2, 99, 101 (2: an event whose condition does not hold changes nothing). -/
def Obligations.SchedulesAndModuleTimeFollowTheirClock : Prop :=
  ∀ (p : Fin 8) (b : Fin 2) (k : Fin 64) (off : Int) (s : State), 2 ≤ s.power →
    let t := s.rd (0x6300 + p) 9
    let x := s.stream k
    let octets := (((s.port b).bullion.filter fun y => decide (s.ticks ≤ y.1 + 50 ∧ y.1 < s.ticks)).map (·.2)).sum
    Effect s (.gateEntryChange p) (s.modPort p fun r => { r with gate := Switch.current s p }) ∧
    (t ≠ 0 → t ≤ s.now → ∃ u, Effect s (.configChangeTime p) u ∧ u.rd (0x6300 + p) 9 = 0 ∧ u.rd (0x6300 + p) 6 = t ∧
      u.rd (0x6300 + p) 7 = s.rd (0x6300 + p) 3 ∧ u.rd (0x6300 + p) 8 = s.rd (0x6300 + p) 4 ∧
      (∀ i, i < 64 → u.rd (0x6300 + p) (0x50 + i) = s.rd (0x6300 + p) (0x10 + i)) ∧ u.cells = s.cells) ∧
    (t = 0 ∨ s.now < t → Stays s (.configChangeTime p)) ∧
    (∃ u, Effect s (.bullionWindow b) u ∧ (∀ y ∈ (u.port b).bullion, s.ticks < y.1 + 50) ∧
      u.rd (0x6000 + b) 0x0B = max (s.rd (0x6000 + b) 0x0B) octets ∧
      (octets ≤ 15625 → u.rd (0x6000 + b) 0x0C = s.rd (0x6000 + b) 0x0C) ∧
      (15625 < octets → u.rd (0x6000 + b) 0x0C = min 0xFFFFFFFF (s.rd (0x6000 + b) 0x0C + 1) ∧ raised s u (0x1500 + b * 8 + 4))) ∧
    (bitOf (Switch.control s k) 19 = true → x.high.isSome = true → x.passedAt + s.rd (0x6140 + k) 7 * 1000 ≤ s.ticks →
      Effect s (.recoveryReset k) ((s.modStream k fun x => { x with high := none, seen := [] }).inc (0x6140 + k) 0x0D)) ∧
    (bitOf (Switch.control s k) 19 = false ∨ x.high = none ∨ s.ticks < x.passedAt + s.rd (0x6140 + k) 7 * 1000 →
      Stays s (.recoveryReset k)) ∧
    (s.supply.onBackup = false → s.rd 0x1200 2 = 1 → Time.slave s = true →
      (off.natAbs ≤ 1000000 → ∃ u, Effect s (.asSync off) u ∧ u.now = s.now ∧ u.slew = -off ∧ u.syncAt = s.ticks ∧
        signed 32 (u.rd 0x1200 4) = off ∧ u.syncGood = (if off.natAbs ≤ 1000 then s.syncGood + 1 else 0)) ∧
      (off < -1000000 → ∃ u, Effect s (.asSync off) u ∧ u.now = s.now + off.natAbs ∧ u.slew = 0 ∧ u.ticks = s.ticks ∧
        ∀ n : Fin 16, (u.bank n).aligned = false) ∧
      (1000000 < off → ∃ u, Effect s (.asSync off) u ∧ u.now = s.now ∧ u.slew = -off)) ∧
    (s.supply.onBackup = true ∨ s.rd 0x1200 2 ≠ 1 → Stays s (.asSync off)) ∧
    (s.rd 0x1200 3 = 2 → s.syncAt + 3000000 ≤ s.ticks → Effect s .syncHoldover { (s.wr 0x1200 3 3) with syncGood := 0 }) ∧
    (s.rd 0x1200 3 ≠ 2 ∨ s.ticks < s.syncAt + 3000000 → Stays s .syncHoldover)

/-! ### CAN, LIN, 10BASE-T1S and the gateway (chapter 14) -/

/-- R394 to R402, R418: an empty slot takes the head of the highest class; an attempt offers a slot in normal operation; its end frees
the slot, keeps it after lost arbitration, or counts the error, with bus-off beyond 255 and a suspended identifier at the fourth
clash; a received frame lowers REC; recovery and integration end; a transceiver fault is told as it begins.
Choices of the model that it rests on: log entries 2, 105 (2: an event whose condition does not hold changes nothing). -/
def Obligations.CanControllersSendAndConfineErrors : Prop :=
  ∀ (k : Fin 16) (i : Fin 3) (o : CanOutcome) (f : CanFrame) (present : Bool) (s : State), 2 ≤ s.power →
    let r := s.can k
    let g := 0x6400 + k.val
    (s.active ⟨6, k⟩ = false ∨ (Bus.slot s k i).isSome = true ∨ r.txq = [] → Stays s (.canSlotRefill k i)) ∧
    (∀ x, s.active ⟨6, k⟩ = true → Bus.slot s k i = none → Bus.suspendedIds s k = [] → Bus.nextItem s k = some x →
      ∃ u y, Effect s (.canSlotRefill k i) u ∧ Bus.slot u k i = some y ∧ y.item = x ∧ y.order = r.loads ∧ y.clashRun = 0 ∧
        (u.can k).txq = r.txq.erase x ∧ u.ledger = s.ledger) ∧
    (Bus.onBus s k = true → r.attempt = none → s.rd g 4 = 0 → r.sleepAsked = false → s.supply.onBackup = false →
      Effect s (.canAttemptStart k) (s.modCan k fun r => { r with attempt := Bus.offered s k })) ∧
    (Bus.onBus s k = false ∨ r.attempt.isSome = true ∨ s.rd g 4 ≠ 0 ∨ s.supply.onBackup = true → Stays s (.canAttemptStart k)) ∧
    (r.attempt = none → r.sleepAsked = false → Stays s (.canAttemptEnd k o)) ∧
    (∀ n x, r.attempt = some n → Bus.slot s k n = some x → r.sleepAsked = false → x.item.chain.tc < 8 → x.item.chain.port < 12 →
      (∃ u, Effect s (.canAttemptEnd k .sent) u ∧ Bus.slot u k n = none ∧ (u.can k).attempt = none ∧ (u.can k).tec = r.tec - 1 ∧
        u.rd g 0x16 = min 0xFFFFFFFF (s.rd g 0x16 + 1) ∧ u.rd g 0x14 = 0 ∧
        u.out = .can k (Bus.idWord x.item.frame) x.item.frame.data :: s.out) ∧
      (Vault.expired s x.item.chain = false →
        Effect s (.canAttemptEnd k .lost) (s.modCan k fun r => { r with attempt := none })) ∧
      (∀ e, e = .bit ∨ e = .stuff ∨ e = .form ∨ e = .crc →
        ∃ u, Effect s (.canAttemptEnd k e) u ∧ (u.can k).attempt = none ∧ (u.can k).tec = r.tec + 8 ∧ (u.can k).rec_ = r.rec_ ∧
          u.rd g 0x13 = Bus.lastError e ∧ ((u.can k).busOff = true ↔ r.busOff = true ∨ 255 < r.tec + 8) ∧
          (Vault.expired s x.item.chain = false → Bus.slot u k n = some { x with clashRun := 0 })) ∧
      (x.item.frame.ident < 2 ^ 29 → x.clashRun = 3 → s.rdBit g 8 4 = true → (Bus.suspendedIds s k).length < 4 →
        ∃ u, Effect s (.canAttemptEnd k .bitAfterArbitration) u ∧ Bus.slot u k n = none ∧
          Bus.idWord x.item.frame ∈ Bus.suspendedIds u k ∧ u.rd g 0x1D = min 0xFFFFFFFF (s.rd g 0x1D + 1)) ∧
      (∀ dominant, Bus.errorState r = 1 → ∃ u, Effect s (.canAttemptEnd k (.ack dominant)) u ∧
        (u.can k).tec = (if dominant then r.tec + 8 else r.tec) ∧ u.rd g 0x14 = min 255 (s.rd g 0x14 + 1))) ∧
    (Bus.listening s k f = false → (s.can k).asleep = false → Stays s (.canFrameReceived k f)) ∧
    ((s.can k).asleep = true → s.rd 0x6803 (1 + k) = 0 → Stays s (.canFrameReceived k f)) ∧
    (Bus.listening s k f = true → Iso.channelOf s k f = none → (∀ x ∈ r.rxq, x.chain.tc < 8 ∧ x.chain.port < 12) →
      ∃ u, Effect s (.canFrameReceived k f) u ∧ u.rd g 0x17 = min 0xFFFFFFFF (s.rd g 0x17 + 1) ∧ u.rd g 0x14 = 0 ∧
        (r.rec_ ≤ 127 → (u.can k).rec_ = r.rec_ - 1) ∧ (127 < r.rec_ → 119 ≤ (u.can k).rec_ ∧ (u.can k).rec_ ≤ 127) ∧
        (Bus.filter s k f = none → u.rd g 0x1A = min 0xFFFFFFFF (s.rd g 0x1A + 1) ∧ u.vault = s.vault)) ∧
    (r.recovering = true → ∃ u, Effect s (.busOffRecoveryDone k) u ∧
      u.can k = { r with recovering := false, busOff := false, tec := 0, rec_ := 0 } ∧ u.rd g 0x11 = 0 ∧ u.rd g 0x12 = 0) ∧
    (r.recovering = false → Stays s (.busOffRecoveryDone k)) ∧
    Effect s (.canIntegrationDone k) (s.modCan k fun r => { r with integrating := false }) ∧
    (∃ u, Effect s (.transceiverFault k present) u ∧ u.can k = { r with transceiver := present } ∧
      (present = true → r.transceiver = false → raised s u (0x1600 + k * 8 + 5)) ∧
      (present = false ∨ r.transceiver = true → u.sources = s.sources))

namespace Sys2Proof.Claim

open Machine

/-- A Kind 1 record that no case of R405 refuses (Table 14-5). -/
structure GoodRecord (s : State) (k : Nat) (l : List Byte) : Prop where
  bits : (l.getD 2 0).toNat < 64 ∧ (l.getD 2 0).toNat % 4 ≠ 3 ∧ (l.getD 3 0).toNat = 0 ∧ Bus.num l 4 4 < 2 ^ 29
  format : Bus.enabled s k ((l.getD 2 0).toNat % 4) = true
  length : Bus.lengthOk ((l.getD 2 0).toNat % 4) (Bus.num l 16 2) = true
  whole : 24 + Bus.num l 16 2 ≤ l.length
  xl : (l.getD 2 0).toNat % 4 = 2 ∨ Bus.num l 18 6 = 0

/-- The frame of a Kind 1 record. -/
def recordFrame (l : List Byte) : CanFrame :=
  { Bus.ofFormat (l.getD 2 0).toNat (Bus.num l 4 4) ((l.drop 24).take (Bus.num l 16 2)) with
    sdt := Bus.num l 18 1, vcid := Bus.num l 19 1, accept := Bus.num l 20 4 }

end Sys2Proof.Claim

/-- R405, R409 to R414, R418: a LIN commander runs its slots; responses, their absence, headers and bus faults do what their frame
entry asks, and a commander counts them; a follower that loses the beacon falls back and returns; collisions count by the second;
a PHY fault is told; a record for the gateway becomes a transmit item of its CAN controller in the class of the Ethernet frame or
fills the publish buffer of its LIN channel, is refused, or is an error drop.
Choices of the model that it rests on: log entries 2, 107, 108, 109 (2: an event whose condition does not hold changes nothing). -/
def Obligations.LinT1sAndGatewayEvents : Prop :=
  ∀ (k : Fin 8) (j : Fin 6) (l : List Byte) (ident : Fin 64) (held present : Bool) (s : State), 2 ≤ s.power →
    let r := s.lin k
    let g := 0x6500 + k.val
    let t := s.t1s j
    (LinBus.commander s k = false ∨ s.ticks < r.slotEnd → Stays s (.linSlot k)) ∧
    (∀ i, LinBus.commander s k = true → r.slotEnd ≤ s.ticks → r.select = none → r.sleepAsked = false → r.table ≠ 0 → r.polls = [] →
      LinBus.nextSlot s k r.table r.slot = some i →
      let v := LinBus.slotOf s k r.table i
      let e := field v 0 6
      ∃ u, Effect s (.linSlot k) u ∧ (u.lin k).slot = i + 1 ∧ (u.lin k).slotEnd = s.ticks + field v 7 9 * 1000 ∧ u.ledger = s.ledger ∧
        (bitOf (LinBus.frame s k e) 6 = true → field (LinBus.frame s k e) 8 2 ≠ 2 ∨ r.fresh.contains e = true →
          (u.lin k).awaiting = some e ∧ u.out = .lin k (LinBus.ident s k e) [] :: s.out) ∧
        (bitOf (LinBus.frame s k e) 6 = false → (u.lin k).awaiting = none ∧ u.out = s.out)) ∧
    (r.awaiting = none → Stays s (.linResponse k l held) ∧ Stays s (.linNoResponse k)) ∧
    (∀ e, r.awaiting = some e →
      (bitOf (LinBus.frame s k e) 7 = false →
        (∃ u, Effect s (.linResponse k l held) u ∧ (u.lin k).awaiting = none ∧
          u.out = if r.written.contains e then .lin k (LinBus.ident s k e) (LinBus.data s k e) :: s.out else s.out) ∧
        Stays s (.linNoResponse k)) ∧
      (bitOf (LinBus.frame s k e) 7 = true →
        (s.rdBit g 8 0 = false → ∃ u, Effect s (.linResponse k l true) u ∧ (u.lin k).awaiting = none ∧
          Map.get 0 (u.lin k).missed e = 0 ∧ u.ledger = s.ledger) ∧
        (s.rd g 4 = 0 → ∃ u, Effect s (.linResponse k l false) u ∧ (u.lin k).awaiting = none ∧
          u.rd g 0x0A = min 0xFFFFFFFF (s.rd g 0x0A + 1) ∧ raised s u (0x1680 + k * 8 + 1)) ∧
        (s.rd g 4 ≠ 0 → (∃ u, Effect s (.linResponse k l false) u ∧ (u.lin k).awaiting = none ∧ u.ledger = s.ledger) ∧
          Stays s (.linNoResponse k)) ∧
        (s.rd g 4 = 0 → ∃ u, Effect s (.linNoResponse k) u ∧ (u.lin k).awaiting = none ∧ u.rd g 9 = min 0xFFFFFFFF (s.rd g 9 + 1) ∧
          Map.get 0 (u.lin k).missed e = Map.get 0 r.missed e + 1 ∧
          (Map.get 0 r.missed e = 2 → raised s u (0x1680 + k * 8)) ∧ (Map.get 0 r.missed e ≠ 2 → u.sources = s.sources)))) ∧
    (s.supply.onBackup = false → s.active ⟨7, k⟩ = true → s.rd g 4 = 1 → r.asleep = false →
      (∀ e, LinBus.find s k ident = some e →
        Effect s (.linHeader k ident true) (s.modLin k fun r => { r with awaiting := some e, busSleep := false })) ∧
      (∃ u, Effect s (.linHeader k ident false) u ∧ u.lins = s.lins ∧ raised s u (0x1680 + k * 8 + 3))) ∧
    (s.active ⟨7, k⟩ = false ∨ s.rd g 4 ≠ 1 ∨ r.asleep = true → ∀ ok, Stays s (.linHeader k ident ok)) ∧
    (s.active ⟨7, k⟩ = true → s.rd g 4 = 0 → ∃ u, Effect s (.linBusFault k held) u ∧ u.lin k = { r with busHeld := held } ∧
      u.rd g 0x0B = min 0xFFFFFFFF (s.rd g 0x0B + 1) ∧ raised s u (0x1680 + k * 8 + 2)) ∧
    (s.active ⟨7, k⟩ = false ∨ s.rd g 4 ≠ 0 → Stays s (.linBusFault k held)) ∧
    (s.active ⟨8, j⟩ = true → Plca.follower s j = true → t.beaconLost = false → ∃ u, Effect s (.plcaBeaconLoss j) u ∧
      (u.t1s j).beaconLost = true ∧ u.rd (0x6600 + j) 7 = min 0xFFFFFFFF (s.rd (0x6600 + j) 7 + 1) ∧ raised s u (0x16C0 + j * 4)) ∧
    (s.active ⟨8, j⟩ = false ∨ Plca.follower s j = false ∨ t.beaconLost = true → Stays s (.plcaBeaconLoss j)) ∧
    Effect s (.plcaBeaconReturn j) (s.modT1s j fun r => { r with beaconLost := false }) ∧
    (s.active ⟨8, j⟩ = true → ∃ u, Effect s (.t1sCollision j) u ∧ u.rd (0x6600 + j) 6 = min 0xFFFFFFFF (s.rd (0x6600 + j) 6 + 1) ∧
      (∀ a, t.windowAt = some a → s.ticks < a + 1000000 → (u.t1s j).windowAt = some a ∧ (u.t1s j).inWindow = t.inWindow + 1 ∧
        (t.inWindow = 100 → raised s u (0x16C0 + j * 4 + 1))) ∧
      (∀ a, t.windowAt = some a → a + 1000000 ≤ s.ticks → (u.t1s j).windowAt = some s.ticks ∧ (u.t1s j).inWindow = 1)) ∧
    (s.active ⟨8, j⟩ = false → Stays s (.t1sCollision j)) ∧
    (∃ u, Effect s (.phyFault j present) u ∧ u.t1s j = { t with phyFault := present } ∧
      (present = true → t.phyFault = false → raised s u (0x16C0 + j * 4 + 2)) ∧
      (present = false ∨ t.phyFault = true → u.sources = s.sources)) ∧
    (s.gateway = [] → Stays s .gatewayRecord) ∧
    (∀ id tc f m, s.gateway = (id, tc, f) :: m →
      let v := Vault.leave id 10 { s with gateway := m }
      let o := f.data
      let c := (o.getD 1 0).toNat % 16
      let kind := (o.getD 1 0).toNat / 16
      let x := recordFrame o
      (Bus.forGateway v f = false ∨ o.getD 0 0 ≠ 1 ∨ (kind ≠ 1 ∧ kind ≠ 2) ∨ (kind = 2 ∧ 8 ≤ c) →
        Effect s .gatewayRecord (v.inc 0x600A 0x26)) ∧
      (Bus.forGateway v f = true → o.getD 0 0 = 1 → kind = 1 →
        (GoodRecord v c o → (v.can c).asleep = false → (v.can c).txq.length < v.rd (0x6400 + c) 9 →
          Vault.sourceFor v tc 10 (Vault.coinsOf x.data.length) ≠ none → ∃ u q, Effect s .gatewayRecord u ∧
            (u.can c).txq = (v.can c).txq ++ [{ frame := x, chain := q, session := none }] ∧ q.tc = tc ∧ q.port = 10 ∧
            q.coins = Vault.coinsOf x.data.length ∧ q.start = some s.ticks ∧ u.lins = s.lins ∧ u.out = s.out) ∧
        (¬GoodRecord v c o → Effect s .gatewayRecord (v.inc (0x6400 + c) 0x1B)) ∧
        (GoodRecord v c o → (v.can c).asleep = false → v.rd (0x6400 + c) 9 ≤ (v.can c).txq.length →
          Effect s .gatewayRecord (v.inc (0x6400 + c) 0x1B))) ∧
      (Bus.forGateway v f = true → o.getD 0 0 = 1 → kind = 2 → c < 8 → (v.lin c).asleep = false → ∃ u, Effect s .gatewayRecord u ∧
        (∀ e : Fin 64, (∀ e' : Fin 64, bitOf (LinBus.frame v c e') 6 = true ∧ bitOf (LinBus.frame v c e') 7 = false ∧
            LinBus.ident v c e' = Bus.num o 4 4 ↔ e' = e) →
          u = LinBus.writeData c e (v.wr (0x6500 + c) (0x50 + e) (leNat (((o.drop 24).take (Bus.num o 16 2)).take 8)))) ∧
        ((∀ e : Fin 64, bitOf (LinBus.frame v c e) 6 = true → bitOf (LinBus.frame v c e) 7 = false →
            LinBus.ident v c e ≠ Bus.num o 4 4) → u = v.inc (0x6500 + c) 0x0C)))

/-! ### The tally, the seal and the wakes (chapter 15) -/

namespace Sys2Proof.Claim

open Machine

/-- A tally message that reaches its effect: the logic runs, its tag is right, it is for this module (R423). -/
structure Heard (s : State) (type : Nat) (m : TallyMsg) : Prop where
  power : 2 ≤ s.power
  tag : Sleep.tagOk s type m = true
  ours : Sleep.forUs s m = true
  cls : s.rd 0x6800 8 < 8

/-- The module has sent a tally message of a type and reason since `s`. -/
def said (s u : State) (type reason : Nat) : Prop :=
  ∃ mask d, u.out = .tally mask d :: s.out ∧ d.getD 1 0 = BitVec.ofNat 8 type ∧ d.getD 12 0 = BitVec.ofNat 8 reason

/-- No round, no seal, no entry. -/
structure Unbound (s : State) : Prop where
  bound : s.tally.bound = none
  entering : s.tally.entering = none

/-- The event is a wake of a kind and instance in Standby: recorded, and the module is in Run (R431, R433, R435). -/
def WakesStandby (s : State) (i : Instr) (kind inst : Nat) : Prop :=
  s.power = 2 → Unbound s → s.rd 0x6800 8 < 8 →
    ∃ u, Effect s i u ∧ u.power = 3 ∧ u.rd 0x6805 1 = inst + kind * 256 ∧ u.rd 0x6805 2 = s.now ∧
      u.rd 0x6805 4 = min 0xFFFFFFFF (s.rd 0x6805 4 + 1)

/-- The event is a wake in Sleep: AON latches it for the start (R433, R532). -/
def WakesSleep (s : State) (i : Instr) (kind inst : Nat) : Prop :=
  s.power = 1 → Unbound s → s.tally.latched = none →
    ∃ u w, Effect s i u ∧ u.power = 1 ∧ u.tally.latched = some w ∧ w.kind = kind ∧ w.inst = inst ∧ w.time = s.now ∧ u.cells = s.cells

end Sys2Proof.Claim

/-- R423, R425, R426, R428, R430, R432, R436: a tally message with a wrong tag is counted and nothing else; a fresh CALL is refused with
the first failing reason or consented to; the last CONSENT seals, an earlier one calls the next member; a REFUSE ends the round; SEAL
fixes SealEnd; ABORT frees the member; WAKE wakes the sleeping networks it names.
Choices of the model that it rests on: log entries 110, 112. -/
def Obligations.TallyMessagesAreAnswered : Prop :=
  ∀ (type : Nat) (m : TallyMsg) (s : State),
    let a := Sleep.ahead s false m.round
    let fresh := m.ring = Sleep.ring s false ∧ 1 ≤ a ∧ a ≤ 32767 ∧ m.dest = Sleep.node s
    let late := s.now + s.rd 0x6800 4 * 1000000
    (2 ≤ s.power → (Sleep.tagOk s 1 m = false → Effect s (.tallyCall m) (Sleep.authFailed s)) ∧
      (Sleep.tagOk s 2 m = false → Effect s (.tallyConsent m) (Sleep.authFailed s)) ∧
      (Sleep.tagOk s 3 m = false → Effect s (.tallyRefuse m) (Sleep.authFailed s)) ∧
      (Sleep.tagOk s 4 m = false → Effect s (.tallySeal m) (Sleep.authFailed s)) ∧
      (Sleep.tagOk s 5 m = false → Effect s (.tallyAbort m) (Sleep.authFailed s)) ∧
      (Sleep.tagOk s 6 m = false → Effect s (.tallyWake m) (Sleep.authFailed s)) ∧
      (Sleep.tagOk s type m = false → ∃ u, Effect s (.tallyAuth type m) u ∧
        u.rd 0x6800 0x14 = min 0xFFFFFFFF (s.rd 0x6800 0x14 + 1) ∧ raised s u 0x1702 ∧ u.tally = s.tally) ∧
      (Sleep.tagOk s type m = true → Stays s (.tallyAuth type m))) ∧
    (Heard s 1 m →
      (¬fresh → Stays s (.tallyCall m)) ∧
      (fresh → ∀ r, Sleep.refusal s m.mask m.depth = some r → ∃ u, Effect s (.tallyCall m) u ∧ said s u 3 r ∧
        u.tally = { s.tally with parentRound := m.round, called := none }) ∧
      (fresh → Sleep.refusal s m.mask m.depth = none → Sleep.members s = [] → ∃ u, Effect s (.tallyCall m) u ∧ said s u 2 0 ∧
        u.tally = { s.tally with
          parentRound := m.round, called := none,
          bound := some { own := false, round := m.round, mask := m.mask, depth := m.depth, at_ := s.ticks, node := m.source } })) ∧
    (Heard s 2 m →
      (Sleep.answers s m = false → Stays s (.tallyConsent m)) ∧
      (∀ r l, s.tally.run = some r → Sleep.answers s m = true → r.left = m.source :: l →
        (∀ n rest, l = n :: rest → ∃ u, Effect s (.tallyConsent m) u ∧ said s u 1 0 ∧
          u.tally = { s.tally with run := some { r with left := n :: rest } }) ∧
        (l = [] → r.child = false → ∃ u b, Effect s (.tallyConsent m) u ∧ said s u 4 0 ∧ u.tally.run = none ∧ u.tally.bound = some b ∧
          b.own = true ∧ b.mask = r.mask ∧ b.depth = r.depth ∧ b.sealEnd = some late ∧
          u.rd 0x6800 0x11 = min 0xFFFFFFFF (s.rd 0x6800 0x11 + 1)))) ∧
    (Heard s 3 m →
      (Sleep.answers s m = false → Stays s (.tallyRefuse m)) ∧
      (∀ r, s.tally.run = some r → Sleep.answers s m = true → r.child = false → ∃ u, Effect s (.tallyRefuse m) u ∧ said s u 5 m.reason ∧
        u.tally.run = none ∧ (∀ b, u.tally.bound = some b → b.own = false) ∧
        u.rd 0x6800 0x0E = m.reason + m.source % 2 ^ 14 * 256 ∧ u.rd 0x6800 0x12 = min 0xFFFFFFFF (s.rd 0x6800 0x12 + 1))) ∧
    (Heard s 4 m →
      (Sleep.memberOf s m = none → Stays s (.tallySeal m)) ∧
      (∀ b, Sleep.memberOf s m = some b → b.sealEnd.isSome = true → Stays s (.tallySeal m)) ∧
      (∀ b, Sleep.memberOf s m = some b → b.sealEnd = none → ∃ u, Effect s (.tallySeal m) u ∧
        u.tally = { s.tally with bound := some { b with sealEnd := some (if s.rd 0x1200 3 = 2 then m.sealEnd else late) } })) ∧
    (Heard s 5 m →
      (Unbound s → Stays s (.tallyAbort m)) ∧
      (∀ b, Sleep.memberOf s m = some b → Sleep.sealed s = false → Sleep.members s = [] → Sleep.ring s true ≠ Sleep.ring s false →
        ∃ u, Effect s (.tallyAbort m) u ∧ u.tally.bound = none ∧ u.out = s.out ∧
          (s.tally.requested = true → u.rd 0x1300 2 = Status.state.code))) ∧
    (Heard s 6 m → Unbound s → s.power = 3 → Sleep.ahead s (decide (m.ring = Sleep.ring s true)) m.round < 32768 →
      (∃ n, n < 8 ∧ bitOf m.mask n = true ∧ bitOf s.tally.sleeping n = true) →
      ∃ u, Effect s (.tallyWake m) u ∧ (∀ n, n < 8 → bitOf m.mask n = true → bitOf u.tally.sleeping n = false) ∧
        u.rd 0x6805 4 = min 0xFFFFFFFF (s.rd 0x6805 4 + 1) ∧ u.power = 3) ∧
    (Heard s 6 m → 32768 ≤ Sleep.ahead s (decide (m.ring = Sleep.ring s true)) m.round → Stays s (.tallyWake m))

/-- R426, R427, R431, R432, R531 to R534: a round that has run for RoundTimeout fails and is aborted; its retry starts a round; at
SealEnd the networks of the mask sleep and the entry begins; a seal that is missed frees the member; a partner that does not sleep
loses its link; the entry ends in Run, Standby or Sleep, and a request is answered OK by the sleep it asked for alone.
Choices of the model that it rests on: log entries 2, 113, 115, 124, 164 (2: an event whose condition does not hold changes nothing). -/
def Obligations.RoundsEndAndEntriesComplete : Prop :=
  ∀ (p : Fin 2) (s : State), 2 ≤ s.power →
    let t := s.tally
    (∀ r, t.run = some r → r.began + s.rd 0x6800 5 * 1000 ≤ s.ticks → r.child = false → s.rd 0x6800 8 < 8 →
      ∃ u, Effect s .roundTimeout u ∧ u.tally.run = none ∧ u.rd 0x6800 0x0E = 0x10 ∧ raised s u 0x1700 ∧
        (Sleep.ring s true ≠ 0 → said s u 5 0x10)) ∧
    (t.run = none ∨ (∀ r, t.run = some r → s.ticks < r.began + s.rd 0x6800 5 * 1000) → Stays s .roundTimeout) ∧
    (∀ a, t.retryAt = some a → a ≤ s.ticks → t.run = none → Unbound s → 1 ≤ t.depth →
      (∀ r, Sleep.refusal s 0xFF t.depth = some r → ∃ u, Effect s .roundRetry u ∧ u.tally.run = none ∧ u.rd 0x6800 0x0E = r ∧
        u.rd 0x1300 2 = Status.state.code ∧ u.tally.requested = false) ∧
      (Sleep.refusal s 0xFF t.depth = none → Sleep.members s = [] → ∃ u b, Effect s .roundRetry u ∧ u.tally.bound = some b ∧
        b.own = true ∧ b.depth = t.depth ∧ b.sealEnd = some (s.now + s.rd 0x6800 4 * 1000000) ∧ u.rd 0x1300 2 = Status.busy.code)) ∧
    (t.retryAt = none ∨ (∀ a, t.retryAt = some a → s.ticks < a) → Stays s .roundRetry) ∧
    (Sleep.sealed s = false → Stays s .sealEnd) ∧
    (∀ b, t.bound = some b → Sleep.sealed s = true → Told s → ∃ u, Effect s .sealEnd u ∧ u.tally.bound = none ∧
      u.tally.entering = some b.depth ∧ u.power = s.power ∧ (∀ n, n < 8 → bitOf b.mask n = true → bitOf u.tally.sleeping n = true) ∧
      (∀ i, i < 6 → Sleep.inMask s b.mask i = true ∨ 1 ≤ b.depth → (u.port (2 + i)).asleep = true) ∧
      (1 ≤ b.depth → (u.port 0).asleep = true ∧ (u.port 1).asleep = true)) ∧
    (∀ b, t.bound = some b → b.own = false → b.sealEnd = none → b.at_ + s.rd 0x6800 5 * 1000 ≤ s.ticks →
      ∃ u, Effect s .sealMissed u ∧ u.tally.bound = none ∧ raised s u 0x1701 ∧
        (t.requested = true → u.rd 0x1300 2 = Status.state.code)) ∧
    (t.bound = none → Stays s .sealMissed) ∧
    (∀ a, (p.val, a) ∈ t.tc10 → a + 10000 ≤ s.ticks → (s.port p).link = true → Told s →
      ∃ u, Effect s (.tc10SleepTimeout p) u ∧ (u.port p).link = false ∧ raised s u 0x1704 ∧ ∀ x ∈ u.tally.tc10, x.1 ≠ p.val) ∧
    ((s.port p).link = false ∨ (∀ x ∈ t.tc10, x.1 ≠ p.val) → Stays s (.tc10SleepTimeout p)) ∧
    (t.entering = none → Stays s .powerEntryComplete) ∧
    (t.latched = none →
      (t.entering = some 0 → Effect s .powerEntryComplete (s.modTally fun t => { t with entering := none })) ∧
      (t.entering = some 1 → ∃ u, Effect s .powerEntryComplete u ∧ u.power = 2 ∧ u.tally.entering = none ∧
        (t.requested = true → u.rd 0x1300 2 = if t.depth ≤ 1 then Status.ok.code else s.rd 0x1300 2) ∧
        u.rd 0x6805 5 = min 0xFFFFFFFF (s.rd 0x6805 5 + 1) ∧ u.cells = s.cells) ∧
      (t.entering = some 2 → ∃ u, Effect s .powerEntryComplete u ∧ u.power = 1 ∧ u.cells = [] ∧ u.sessions = [] ∧
        u.stored = s.stored ∧ u.now = s.now ∧ u.supervisor.runs = false))

/-- R290, R421, R431 to R436, R532, R533: every enabled wake source wakes the module from Standby, and those of AON from Sleep; in Run
without a round they do nothing but keep their own counts; the pin of a wake input is compared with its profile's thresholds, those of
Ratio profiles against KA; a handle input is touched once Confirm readings in a row lie above its baseline by Threshold, and its
baseline follows the others; the WAKE_OUT pulse ends.
Choices of the model that it rests on: log entries 2, 119, 120, 121, 125 (2: an event whose condition does not hold changes
nothing). -/
def Obligations.WakeSourcesWakeTheModule : Prop :=
  ∀ (n : Fin 64) (i : Fin 8) (k : Fin 16) (c : Fin 4) (l : Fin 8) (j : Fin 6) (p : Fin 2) (f : CanFrame) (pin : Int)
    (r : Nat) (s : State),
    let v := Inputs.wakeCfg s n
    let z := s.input n
    let level := Inputs.compareAt s n s.supply.ka pin
    let differs := level ≠ z.wakeRef ∧ (field v 1 2 = 0 ∨ (field v 1 2 = 1 ∧ level = true) ∨ (field v 1 2 = 2 ∧ level = false))
    let awake := s.power = 3 ∧ Unbound s
    let h := s.rd 0x6804 (0x11 + i)
    let x := Map.get {} s.caps i
    let base := x.base.getD (r * 1000)
    let touched := base + field h 1 7 * 1000 ≤ r * 1000
    let period := [10, 20, 50, 100].getD (field h 10 2) 0
    let noted (y : CapInput) : State := { s with caps := Map.put {} s.caps i y }
    (bitOf v 0 = true → differs → z.wakePolls = field v 3 2 → WakesSleep s (.wakeInputPoll n pin) 1 n) ∧
    (bitOf v 0 = true → s.power = 1 → (differs → z.wakePolls ≠ field v 3 2) → ∃ u, Effect s (.wakeInputPoll n pin) u ∧
      u.tally = s.tally ∧ (u.input n).comp = level ∧ (¬differs → (u.input n).wakePolls = 0) ∧ (differs → (u.input n).wakePolls = z.wakePolls + 1)) ∧
    (bitOf v 0 = false ∨ s.power ≠ 1 → Stays s (.wakeInputPoll n pin)) ∧
    (bitOf h 0 = false → Access.touchCounts i s = false → Stays s (.handleTouch ⟨i, r⟩)) ∧
    (1 ≤ s.power → bitOf h 0 = true ∨ Access.touchCounts i s = true →
      (¬touched → Effect s (.handleTouch ⟨i, r⟩) (noted { base := some ((base * (10000 - period) + r * 1000 * period) / 10000) })) ∧
      (touched → x.run ≠ field h 8 2 → Effect s (.handleTouch ⟨i, r⟩) (noted { base := some base, run := x.run + 1 })) ∧
      (touched → x.run = field h 8 2 → bitOf h 0 = false ∨ awake →
        Effect s (.handleTouch ⟨i, r⟩) (Access.touch i (noted { base := some base, run := x.run + 1 })))) ∧
    (bitOf h 0 = true → touched → x.run = field h 8 2 →
      WakesStandby s (.handleTouch ⟨i, r⟩) 2 i ∧ WakesSleep s (.handleTouch ⟨i, r⟩) 2 i) ∧
    (s.rd 0x6803 (1 + k) ≠ 0 → WakesStandby s (.canWakePattern k) 3 k ∧ (k.val < 4 → WakesSleep s (.canWakePattern k) 3 k)) ∧
    (s.rd 0x6803 (1 + k) = 0 → Stays s (.canWakePattern k)) ∧
    (s.rd 0x6803 (1 + c) = 2 → Sleep.frameMatches s c f = true → WakesStandby s (.canWakeFrame c f) 4 c ∧ WakesSleep s (.canWakeFrame c f) 4 c) ∧
    (s.rd 0x6803 (1 + c) = 2 → Sleep.frameMatches s c f = false → f.format = 0 →
      Effect s (.canWakeFrame c f) (s.wr 0x6803 (0x21 + c) (s.rd 0x6803 (0x21 + c) - 1))) ∧
    (s.rd 0x6803 (1 + c) ≠ 2 → Stays s (.canWakeFrame c f) ∧ Stays s (.canFrameErrors c)) ∧
    (s.rd 0x6803 (1 + c) = 2 → s.rd 0x6803 (0x21 + c) = 31 → WakesStandby s (.canFrameErrors c) 5 c ∧ WakesSleep s (.canFrameErrors c) 5 c) ∧
    (s.rd 0x6803 (1 + c) = 2 → s.rd 0x6803 (0x21 + c) ≠ 31 → s.power = 1 ∨ s.power = 2 →
      Effect s (.canFrameErrors c) (s.wr 0x6803 (0x21 + c) (min 255 (s.rd 0x6803 (0x21 + c) + 1)))) ∧
    (s.rd 0x6804 (1 + l) = 1 → WakesStandby s (.linWakeSignal l) 6 l) ∧
    (s.rd 0x6804 (1 + l) ≠ 1 ∨ s.power = 1 → Stays s (.linWakeSignal l)) ∧
    (s.rd 0x6804 (9 + j) = 1 → WakesStandby s (.t1sActivity j) 7 j) ∧
    (s.rd 0x6804 (9 + j) ≠ 1 ∨ s.power = 1 → Stays s (.t1sActivity j)) ∧
    (s.rdBit 0x6804 0x10 p = true → WakesStandby s (.tc10WakeRequest p) 8 p ∧ WakesSleep s (.tc10WakeRequest p) 8 p) ∧
    (s.rdBit 0x6804 0x10 p = false ∨ awake → Stays s (.tc10WakeRequest p)) ∧
    (s.rd 0x6804 0x19 ≠ 0 → s.rd 0x6804 0x19 ≤ s.now → WakesStandby s .wakeAlarm 9 0 ∧ WakesSleep s .wakeAlarm 9 0 ∧
      (awake → Effect s .wakeAlarm (s.wr 0x6804 0x19 0))) ∧
    (s.rd 0x6804 0x19 = 0 ∨ s.now < s.rd 0x6804 0x19 → Stays s .wakeAlarm) ∧
    WakesStandby s .serviceLinkWake 12 0 ∧
    (s.power ≠ 2 → awake ∨ s.power = 1 → Effect s .serviceLinkWake (s.modPort 8 fun r => { r with link := true })) ∧
    (∀ a, s.tally.wakeOut = some a → a ≤ s.ticks → Effect s .wakeOutPulseEnd (s.modTally fun x => { x with wakeOut := none })) ∧
    (s.tally.wakeOut = none → Stays s .wakeOutPulseEnd)

/-! ### The access engine (chapter 16) -/

namespace Sys2Proof.Claim

open Machine

/-- A request has ended with an outcome: LastResult names it, and a command's action is OK (R449, R459). -/
structure Concluded (u : State) (r : AccessRun) (outcome : Nat) : Prop where
  run : u.access.run = none
  last : u.rd 0x7000 5 % 256 = outcome
  action : r.command = true → u.rd 0x7000 4 = 0

/-- The outcome of a request whose polls and exchanges are done (Table 16-3). -/
def outcome (r : AccessRun) : Nat :=
  if r.qualified ≠ [] then 1 else if r.beyond then 5 else if r.noRight then 8 else if r.failed then 4
  else if r.collided ≠ [] ∧ r.hadSingle = false then 3 else 2

/-- The request goes on with the exchange of key `k`. -/
def exchanges (u : State) (k : KeyReply) : Prop :=
  ∃ r x, u.access.run = some r ∧ r.step = .exchanging x ∧ x.key = k ∧ x.step = .proof

end Sys2Proof.Claim

/-- R441 to R453: a burst ends with its loan and opens the reply slots; a collision polls again, up to four times, and the keys that
answered alone are challenged in slot order; frames of the anchor are replies, steps of the exchange or the answer to a memory
request; the timeouts end exchanges, requests, presence, lock-outs and memory requests.
Choices of the model that it rests on: log entries 2, 126, 127, 131 (2: an event whose condition does not hold changes nothing). -/
def Obligations.AccessRequestsRunToTheirOutcome : Prop :=
  ∀ (a : Fin 4) (n : Fin 8) (p : Fin 9) (milliamps : Nat) (f : AnchorFrame) (s : State), 2 ≤ s.power →
    let e := s.access
    let garbled := bitOf f.flags 1 || bitOf f.flags 2
    (e.run = none → Stays s (.lfBurstEnd a milliamps) ∧ Stays s .replyPhaseEnd ∧ Stays s .accessExchangeTimeout ∧ Stays s .anchorWakeTimeout) ∧
    (∀ r, e.run = some r →
      (∀ t, r.step = .burst t → Access.antennaOf s r.zone = a → t + 20480 ≤ s.ticks →
        ∃ u, Effect s (.lfBurstEnd a milliamps) u ∧ u.access.run = some { r with step := .replies s.ticks } ∧
          Teller.loanOf u.teller (0x1100 + a) = none ∧ (milliamps * 2 < s.rd 0x7000 9 → raised s u (0x1810 + a) ∧ a.val ∈ u.access.lfWeak) ∧
          (s.rd 0x7000 9 ≤ milliamps * 2 → u.sources = s.sources)) ∧
      (∀ t, r.step = .burst t → Access.antennaOf s r.zone ≠ a ∨ s.ticks < t + 20480 → Stays s (.lfBurstEnd a milliamps)) ∧
      (∀ t, r.step = .replies t → s.ticks < t + 9000 → Stays s .replyPhaseEnd) ∧
      (∀ t, r.step = .replies t → t + 9000 ≤ s.ticks →
        (r.collided ≠ [] → r.polls < 4 → ∃ u y, Effect s .replyPhaseEnd u ∧ u.access.run = some y ∧ y.step = .loan ∧ y.polls = r.polls ∧
          u.rd 0x7000 0x17 = min 0xFFFFFFFF (s.rd 0x7000 0x17 + r.collided.length)) ∧
        (r.collided = [] ∨ 4 ≤ r.polls → ∃ u, Effect s .replyPhaseEnd u ∧
          (Access.singles r = [] → Concluded u r (outcome { r with hadSingle := false })) ∧
          ∀ k l, Access.singles r = k :: l → exchanges u k)) ∧
      (∀ x, r.step = .exchanging x → s.ticks < x.at_ + 10000 → Stays s .accessExchangeTimeout) ∧
      (∀ x, r.step = .exchanging x → x.at_ + 10000 ≤ s.ticks → ∃ u, Effect s .accessExchangeTimeout u ∧
        (r.left = [] → Concluded u r (outcome r)) ∧ ∀ k l, r.left = k :: l → exchanges u k) ∧
      (∀ t, r.step = .waking t → t ≤ s.ticks → ∃ u, Effect s .anchorWakeTimeout u ∧ Concluded u r 9) ∧
      (∀ t, r.step = .waking t → s.ticks < t → Stays s .anchorWakeTimeout)) ∧
    (Access.up s = false ∨ p.val ≠ 2 + Access.segment s ∨ Access.wellFormed f = false → Stays s (.anchorFrame p f)) ∧
    (∀ c, Access.up s = true → p.val = 2 + Access.segment s → Access.wellFormed f = true → Access.anchorAt s f.address = some c →
      (f.type = 4 → Effect s (.anchorFrame p f) (s.modAccess fun x => { x with present := Map.put none x.present c (some s.ticks) })) ∧
      (∀ r t i, e.run = some r → r.step = .replies t → f.type = 3 → c = Access.anchorOf s r.zone → Access.slotAt t s.ticks = some i →
        (garbled = true → Effect s (.anchorFrame p f) (Access.modRun (fun r => { r with collided := i :: r.collided.erase i }) s)) ∧
        (∀ k, garbled = false → f.payload.length = 16 → Access.tokenOf s (leNat (f.payload.take 8)) = some k →
          ∃ u y, Effect s (.anchorFrame p f) u ∧ u.access.run = some y ∧
            y.replies = r.replies ++ [{ slot := i, token := k, nt := leNat (f.payload.drop 8) }] ∧ u.ledger = s.ledger)) ∧
      (∀ r x, e.run = some r → r.step = .exchanging x → c = Access.anchorOf s r.zone → f.type ≠ 4 → x.at_ + 10000 ≤ s.ticks →
        ∃ u, Effect s (.anchorFrame p f) u ∧ (r.left = [] → Concluded u r (outcome r)) ∧ ∀ k l, r.left = k :: l → exchanges u k) ∧
      (∀ r x, e.run = some r → r.step = .exchanging x → c = Access.anchorOf s r.zone → s.ticks < x.at_ + 10000 →
        (x.step = .pollSent → f.type = 2 → Effect s (.anchorFrame p f) (Access.setStep x (.resp f.timestamp) s)) ∧
        (x.step = .proof → f.type = 3 → garbled = false → f.payload.length = 8 →
          (leNat f.payload = Access.mac (Access.key s x.key.token) (octets 1 0x54 ++ octets 4 r.pollId ++ octets 8 x.nm ++
              octets 8 x.key.nt ++ octets 8 (s.rd (0x7010 + x.key.token) 1)) →
            ∃ u y, Effect s (.anchorFrame p f) u ∧ u.access.run = some y ∧ y.step = .exchanging { x with step := .pollSent }) ∧
          (leNat f.payload ≠ Access.mac (Access.key s x.key.token) (octets 1 0x54 ++ octets 4 r.pollId ++ octets 8 x.nm ++
              octets 8 x.key.nt ++ octets 8 (s.rd (0x7010 + x.key.token) 1)) →
            e.failures = [] → ∃ u, Effect s (.anchorFrame p f) u ∧ u.access.failures = [s.ticks] ∧
              u.rd 0x7000 0x18 = min 0xFFFFFFFF (s.rd 0x7000 0x18 + 1)))) ∧
      (∀ m, e.run = none → e.memory = some m → f.type = 3 → c = m.anchor →
        let l := if m.write then 0 else 16
        let right := f.payload.length = l + 8 ∧ leNat (f.payload.drop l) = Access.mac m.ks (f.payload.take l)
        (garbled = true → Stays s (.anchorFrame p f)) ∧
        (garbled = false → m.at_ + 10000 ≤ s.ticks → ∃ u, Effect s (.anchorFrame p f) u ∧
          u.access.memory = none ∧ u.rd 0x7030 1 = Status.state.code ∧ u.rd 0x7030 2 = s.rd 0x7030 2) ∧
        (garbled = false → s.ticks < m.at_ + 10000 → right → ∃ u, Effect s (.anchorFrame p f) u ∧ u.access.memory = none ∧
          u.rd 0x7030 1 = 0 ∧ u.rd 0x7030 2 = if m.write then s.rd 0x7030 2 else leNat (f.payload.take 16)) ∧
        (garbled = false → s.ticks < m.at_ + 10000 → ¬right → ∃ u, Effect s (.anchorFrame p f) u ∧
          u.access.memory = none ∧ u.rd 0x7030 1 = Status.auth.code ∧ u.rd 0x7030 2 = s.rd 0x7030 2))) ∧
    (∀ t, Map.get none e.present n = some t → t + 300000 ≤ s.ticks → ∃ u, Effect s (.anchorAbsent n) u ∧
      Map.get none u.access.present n = none ∧ raised s u (0x1808 + n) ∧ u.access.run = e.run) ∧
    (Map.get none e.present n = none → Stays s (.anchorAbsent n)) ∧
    (∀ t, e.lockedTill = some t → t ≤ s.ticks →
      Effect s .lockoutEnd ((s.wr 0x7000 0x0B 0).modAccess fun a => { a with lockedTill := none, failures := [] })) ∧
    (e.lockedTill = none ∨ Access.locked s = true → Stays s .lockoutEnd) ∧
    (∀ m, e.memory = some m → m.at_ + 10000 ≤ s.ticks → ∃ u, Effect s .memoryRequestTimeout u ∧ u.access.memory = none ∧
      u.rd 0x7030 1 = Status.state.code) ∧
    (e.memory = none ∨ (∀ m, e.memory = some m → s.ticks < m.at_ + 10000) → Stays s .memoryRequestTimeout)

/-! ### Audit, escrow, supervisors and limp (chapter 17) -/

/-- R48, R463, R464, R467 to R469, R471, R473, R476, R481: an occurrence counts once in a tick and in one window, and the source that
reaches its threshold is Severe with its class, the next one where another of its target stands unacknowledged with it; a window closes; a grace window ends in the reaction of its class on the source's target; a
reset completes; an escrow that has lasted expires into the SafeCommand, and the function it was held for counts as expired.
Choices of the model that it rests on: log entries 2, 56, 57, 134 (2: an event whose condition does not hold changes nothing). -/
def Obligations.AuditReactionsApply : Prop :=
  ∀ (id : Fin 8192) (b : Fin 16) (n : Fin 512) (s : State), 2 ≤ s.power →
    let r := s.source id
    let c := s.cell n
    let counted := (match r.windowAt with | some t => if s.ticks < t + Audit.window s id then r.count else 0 | none => 0) + 1
    let cls := s.rdField (0x8000 + id) 2 0 2
    let stands := (r.unack = true ∧ r.applied = cls) ∨
      ∃ x ∈ s.sources, x.1 ≠ id ∧ Audit.target x.1 = Audit.target id ∧ x.2.unack = true ∧ x.2.applied = cls
    let told := Audit.raise id s
    ((sourceClass id).isSome = true → r.lastAt ≠ some s.ticks → Audit.silenced s id = false →
      told.rd (0x8000 + id) 4 = min 0xFFFFFFFF (s.rd (0x8000 + id) 4 + 1) ∧ (told.source id).sticky = true ∧ Audit.raise id told = told ∧
      (∀ k, Audit.target k ≠ Audit.target id → told.source k = s.source k) ∧
      (r.severe = true → (told.source id).applied = r.applied ∧ (told.source id).graceEnd = r.graceEnd) ∧
      (r.severe = false → counted < Audit.threshold s id → (told.source id).severe = false ∧ (told.source id).count = counted ∧
        (told.source id).windowAt = some (if counted = 1 then s.ticks else r.windowAt.getD s.ticks)) ∧
      (r.severe = false → Audit.threshold s id ≤ counted → (∀ x ∈ s.sources, x.2.severeAt ≠ some s.ticks) →
        let a := if cls < 3 ∧ stands then cls + 1 else cls
        (told.source id).severe = true ∧ (told.source id).unack = true ∧ (told.source id).applied = a ∧
        (told.source id).graceEnd = (if a = 0 then none else some (s.ticks + Audit.grace s a * 1000)) ∧
        (cls < 3 ∧ stands → told.rd 0x7400 9 = min 0xFFFFFFFF (s.rd 0x7400 9 + 1)))) ∧
    (∀ t, r.windowAt = some t → t + Audit.window s id ≤ s.ticks →
      Effect s (.sourceWindowClose id) (s.modSource id fun r => { r with windowAt := none, count := 0 })) ∧
    (r.windowAt = none ∨ (∀ t, r.windowAt = some t → s.ticks < t + Audit.window s id) → Stays s (.sourceWindowClose id)) ∧
    (r.graceEnd = none ∨ (∀ t, r.graceEnd = some t → s.ticks < t) ∨ Fns.mustWait s id r.applied = true → Stays s (.graceExpiry id)) ∧
    (∀ t, r.graceEnd = some t → t ≤ s.ticks → Fns.mustWait s id r.applied = false → Told s →
      ∃ u, Effect s (.graceExpiry id) u ∧ (u.source id).graceEnd = none ∧ (u.source id).reacted = true ∧
        u.rd 0x7400 7 = min 0xFFFFFFFF (s.rd 0x7400 7 + 1) ∧
        (∀ m k, Audit.target id = .channel m → r.applied = 2 → k ∈ s.structure_ m → Chan.owner s k ≠ 0xF100 → Chan.owner u k = 0xF000) ∧
        (∀ m k, Audit.target id = .channel m → r.applied = 3 → k ∈ s.structure_ m → s.head k = k → Chan.owner s k ≠ 0xF100 →
          Chan.owner u k = 0 ∧ Chan.command u k = Chan.safeCommand s k) ∧
        (∀ f, Audit.target id = .fn f → r.applied = 2 → s.fn f = 2 → Fns.fixedActive f = false → u.fn f = 3) ∧
        (∀ f, Audit.target id = .fn f → r.applied = 3 → 1 ≤ s.fn f → s.fn f ≤ 3 → Fns.fixedActive f = false → u.fn f = 4)) ∧
    (s.fnReset = none → Stays s .functionResetDone) ∧
    (∀ k, s.fnReset = some k → ∃ u, Effect s .functionResetDone u ∧ u.fnReset = none ∧ u.rd 0x7E00 1 = 0 ∧ u.rd 0x7E00 2 = k ∧
      u.rd 0x7E00 3 = min 0xFFFFFFFF (s.rd 0x7E00 3 + 1)) ∧
    ((s.bank b).escrow = .none ∨ s.ticks < Escrow.earliest (s.bank b).escrowAt (s.bank b).escrowFor → Stays s (.escrowExpiry b none)) ∧
    ((s.bank b).escrow ≠ .none → Escrow.earliest (s.bank b).escrowAt (s.bank b).escrowFor ≤ s.ticks →
      ∃ u, Effect s (.escrowExpiry b none) u ∧ (u.bank b).escrow = .none ∧ u.rd 0x7600 9 = min 0xFFFFFFFF (s.rd 0x7600 9 + 1)) ∧
    (Chan.owner s n ≠ 0xF000 ∨ n.val / 32 ≠ b.val ∨ s.ticks < Escrow.earliest c.heldAt c.holdFor → Stays s (.escrowExpiry b (some n))) ∧
    (Chan.owner s n = 0xF000 → n.val / 32 = b.val → c.hold.ofCells = true →
      Escrow.earliest c.heldAt c.holdFor ≤ s.ticks → s.head n = n → ∃ u, Effect s (.escrowExpiry b (some n)) u ∧
        Chan.owner u n = 0 ∧ Chan.command u n = Chan.safeCommand s n ∧ (∀ f, c.hold = .fnIsolated f → f ∈ u.isoExpired)) ∧
    (c.hold.ofCells = false → Stays s (.escrowExpiry b (some n)))

/-- R26, R480, R482, R485, R486, R489, R510: a stopping pair ends Ledger service and hands over to hot standby; a takeover resumes the
heartbeat; a pair that passes its self-test stands by; the absence of standby is told after 2 s; the limp level and its inputs act
on the limp cells.
Choices of the model that it rests on: log entries 2, 135, 167 (2: an event whose condition does not hold changes nothing). -/
def Obligations.SupervisorsAndLimpInputs : Prop :=
  ∀ (pair : Fin 2) (cause : StopCause) (passed level : Bool) (i : Fin 32) (n : Fin 512) (s : State), 2 ≤ s.power →
    let v := s.supervisor
    let code := match cause with | .mismatch => 1 | .memory => 2
    let ends (code : Nat) (u : State) : Prop :=
      u.rd 0x7602 5 = code ∧ (∃ t, (pair.val, t) ∈ u.supervisor.testing) ∧ u.cells = s.cells ∧
      (pair.val = v.running → u.blank = true ∧ u.supervisor.runs = false ∧ raised s u 0x1900 ∧
        (v.standbyReady = true → u.supervisor.takingOver = true ∧ u.supervisor.running = 1 - pair.val ∧ u.supervisor.standbyReady = false)) ∧
      (pair.val ≠ v.running → u.blank = s.blank ∧ u.supervisor.runs = v.runs ∧ u.supervisor.standbyReady = false ∧ raised s u 0x1901)
    (Sup.stopped s pair = true → Stays s (.supervisorStop pair cause) ∧ Stays s (.watchdogExpiry pair)) ∧
    (Sup.stopped s pair = false → v.runs = true →
      (∃ u, Effect s (.supervisorStop pair cause) u ∧ ends code u) ∧
      ∃ u, Effect s (.watchdogExpiry pair) u ∧ ends 3 u ∧ raised s u 0x1904) ∧
    (v.runs = true → Stays s .takeover) ∧
    (v.runs = false → v.takingOver = true → s.update.activation = none → ∃ u, Effect s .takeover u ∧ u.supervisor.runs = true ∧
      u.supervisor.takingOver = false ∧ u.supervisor.running = v.running ∧ u.supervisor.lastBeat = s.ticks ∧
      u.rd 0x7602 2 = min 0xFFFFFFFF (s.rd 0x7602 2 + 1) ∧ u.rd 0x7602 3 = s.now ∧
      u.rd 0x7602 4 = min 0xFFFFFFFF (s.ticks - v.lastBeat) ∧ u.blank = s.blank) ∧
    ((∀ t, (pair.val, t) ∉ v.testing) → Stays s (.standbySelfTestDone pair passed)) ∧
    ((∃ t, (pair.val, t) ∈ v.testing) →
      (∃ u, Effect s (.standbySelfTestDone pair true) u ∧ u.supervisor.standbyReady = true ∧ u.supervisor.running = 1 - pair.val ∧
        u.supervisor.absentSince = none ∧ Sup.stopped u pair = v.failed.contains pair.val ∧ u.ledger = s.ledger) ∧
      (∃ u, Effect s (.standbySelfTestDone pair false) u ∧ u.supervisor.standbyReady = v.standbyReady ∧ Sup.stopped u pair = true ∧
        raised s u 0x1901)) ∧
    (∀ t, v.absentSince = some t → t + 2000000 ≤ s.ticks → ∃ u, Effect s .standbyAbsent u ∧ u.supervisor.absentSince = none ∧
      raised s u 0x1903) ∧
    (v.absentSince = none → Stays s .standbyAbsent) ∧
    (s.rd 0x7600 2 ≠ 1 ∨ level = false → Effect s (.lhenChange level) (s.wr 0x7600 5 (b01 level))) ∧
    (s.rd 0x7600 2 = 1 → s.power ≤ 3 → ∃ u, Effect s (.lhenChange true) u ∧ ∀ e ∈ Escrow.limpEntries s, Chan.owner u e.1 = 0xF100) ∧
    (s.rdBit 0x7600 4 i = level → Stays s (.lhInputChange i level)) ∧
    (s.rdBit 0x7600 4 i ≠ level → (Escrow.limpEntries s).Pairwise (fun x y => x.1 ≠ y.1) →
      ∃ u, Effect s (.lhInputChange i level) u ∧ u.rdBit 0x7600 4 i = level ∧
        ∀ e ∈ Escrow.limpEntries s, e.2.1 = i → Chan.owner s e.1 = 0xF100 → (u.cell e.1).limpCmd = if level then e.2.2.1 else e.2.2.2) ∧
    (∀ t e, (s.cell n).limpRetry = some t → Escrow.limpEntry s n = some e → t ≤ s.ticks → Chan.owner s n = 0xF100 →
      ∃ u, Effect s (.limpLoanRetry n) u ∧ (u.cell n).limpCmd = Escrow.limpCommand s e ∧ (u.cell n).limpRetry = none) ∧
    ((s.cell n).limpRetry = none ∨ Chan.owner s n ≠ 0xF100 → Stays s (.limpLoanRetry n))

/-! ### Field update and power (chapters 18 and 19) -/

/-- R493, R495, R497 to R499, R502, R504, R505, R507, R508: a staging burst writes its 240 octets; a manifest is accepted or refused with
its code; a build burst advances, completes or fails; an activation is skipped or runs: blank, escrow, digests, start, and the
fall-back to the installed bank.
Choices of the model that it rests on: log entries 2, 138, 139, 140, 141 (2: an event whose condition does not hold changes
nothing). -/
def Obligations.UpdatesStageBuildAndActivate : Prop :=
  ∀ (w : Writer) (l : List Byte) (failed : Option (Nat × Nat)) (s : State), 2 ≤ s.power →
    let u0 := s.update
    let o := s.rd 0x7C00 3
    let code := Upd.manifestCode s
    let done := s.rd 0x7C00 0x0B
    let next := ((Upd.plan s).drop done).take 16
    let stage (n : Nat) : Prop := ∃ a, u0.activation = some a ∧ a.stage = n
    (Awake s → u0.job = some { reply := .direct, writer := w, writes := [Direct.octetWrite 0x7C00 4 l], running := true } →
      l.length = 240 → ∃ u, Effect s .stageBurstComplete u ∧ u.answer = ⟨.ok, 0xFF⟩ ∧ u.update.job = none ∧
        (∀ i, i < 240 → Upd.octet u (o + i) = l.getD i 0) ∧ u.rd 0x7C00 3 = o + 240 ∧ u.rd 0x7C00 5 = max (s.rd 0x7C00 5) (o + 240) ∧
        Teller.loanOf u.teller 0x1001 = none) ∧
    (u0.job = none ∨ (∀ j, u0.job = some j → j.running = false) → Stays s .stageBurstComplete) ∧
    (u0.checking = false → Stays s .manifestCheckComplete) ∧
    (u0.checking = true → code = 0 → ∃ u, Effect s .manifestCheckComplete u ∧ Upd.st u = 2 ∧ u.rd 0x7C00 2 = 0 ∧ u.update.asked = true ∧
      u.rd 0x7C00 0x0C = Upd.num s 32 4 ∧ u.rd 0x7C00 0x0B = 0) ∧
    (u0.checking = true → code ≠ 0 → ∃ u, Effect s .manifestCheckComplete u ∧ Upd.st u = Upd.st s ∧ u.rd 0x7C00 9 = code + 0xFF00 ∧
      u.rd 0x7C00 2 = (if code = 2 ∧ Upd.reservedBad s = true then Status.reserved.code else Status.range.code) ∧ raised s u 0x1A00) ∧
    (u0.bursting = false ∨ Upd.st s ≠ 3 → Stays s .buildBurstComplete) ∧
    (u0.bursting = true → Upd.st s = 3 →
      ((∀ x ∈ next, x.2.isSome = true) → ∃ u, Effect s .buildBurstComplete u ∧ u.rd 0x7C00 0x0B = done + next.length ∧
        u.update.bursting = false ∧ ((Upd.plan s).length ≤ done + next.length → Upd.st u = 4 ∧ u.update.built = true ∧
          Upd.inactive u = Upd.builtBank s ∧ Upd.installed u = Upd.installed s) ∧
        (done + next.length < (Upd.plan s).length → Upd.st u = 3 ∧ u.update.asked = true)) ∧
      (∀ i, next.find? (·.2.isNone) = some (i, none) → ∃ u, Effect s .buildBurstComplete u ∧ Upd.st u = 6 ∧ u.rd 0x7C00 9 = 9 + i * 256 ∧
        raised s u 0x1A01 ∧ Upd.installed u = Upd.installed s)) ∧
    (∀ t, u0.retryAt = some t → t ≤ s.ticks → Upd.st s = 2 ∨ Upd.st s = 3 → ∃ u, Effect s .buildLoanRetry u ∧ u.update.asked = true ∧
      u.update.retryAt = none) ∧
    (u0.retryAt = none → Stays s .buildLoanRetry) ∧
    (Upd.st s ≠ 5 ∨ s.now < s.rd 0x7C00 6 ∨ u0.activation.isSome = true → Stays s .activationTick) ∧
    (Upd.st s = 5 → u0.activation = none → s.rd 0x7C00 6 ≤ s.now →
      (∀ c, Upd.skipCode s = some c → ∃ u, Effect s .activationTick u ∧ Upd.st u = 4 ∧ u.rd 0x7C00 9 = c + 0xFF00 ∧ raised s u 0x1A02 ∧
        u.blank = s.blank) ∧
      (Upd.skipCode s = none → ∃ u, Effect s .activationTick u ∧ u.blank = true ∧ u.supervisor.runs = false ∧
        u.update.activation = some { stage := 2 } ∧ u.rd 0x7C00 0x10 = s.now ∧ ∀ b : Fin 16, (u.bank b).escrow ≠ .none)) ∧
    (¬stage 2 → Stays s .activationHashDone) ∧
    (stage 2 → (Upd.badPart s = none → ∃ u a, Effect s .activationHashDone u ∧ u.update.activation = some a ∧ a.stage = 3) ∧
      ∀ i p, Upd.badPart s = some (i, p) → ∃ u a, Effect s .activationHashDone u ∧ u.update.activation = some a ∧ a.stage = 4 ∧
        a.failure = some (13, i, p)) ∧
    (¬stage 3 → Stays s (.activationStartDone failed)) ∧
    (stage 3 → Told s → ∃ u, Effect s (.activationStartDone none) u ∧ u.update.bank = 1 - u0.bank ∧ Upd.st u = 0 ∧ u.rd 0x7C00 9 = 1 + 0xFF00 ∧
      u.rd 0x1300 4 = 2 ∧ u.rd 0x7C00 0x11 = min 0xFFFFFFFF (s.rd 0x7C00 0x11 + 1) ∧ u.supervisor.runs = true ∧
      ∃ a, u.update.activation = some a ∧ a.stage = 5 ∧ a.committed = true) ∧
    (∀ p, stage 3 → ∃ u a c, Effect s (.activationStartDone (some p)) u ∧ u.update.activation = some a ∧ a.stage = 4 ∧
      a.failure = some (14, c, p.1 + p.2 * 256) ∧ u.update.bank = u0.bank) ∧
    (¬stage 4 → Stays s .fallbackDone) ∧
    (stage 4 → Told s → ∃ u, Effect s .fallbackDone u ∧ u.update.bank = u0.bank ∧ Upd.st u = 6 ∧ u.rd 0x1300 4 = 3 ∧
      u.rd 0x7C00 0x12 = min 0xFFFFFFFF (s.rd 0x7C00 0x12 + 1) ∧ u.supervisor.runs = true ∧
      ∃ a, u.update.activation = some a ∧ a.stage = 5)

/-- R42, R197, R521, R522, R526 to R529, R536, R538, Tables 19-3, 19-9, 19-12: the supplies' levels keep their hysteresis; a lost logic
supply or RESET_N halts the module with every cell FLOAT, and a start runs it; clocks fail and return; the boardnet's mismatch is told
once; the base plate's readings derate the Teller and are checked.
Choices of the model that it rests on: log entries 2, 14, 67, 143 (2: an event whose condition does not hold changes nothing). -/
def Obligations.SuppliesClocksAndStarts : Prop :=
  ∀ (pin : SupplyPin) (mv ka a b : Nat) (t0 t1 : Int) (s : State),
    let x := s.supply
    let hot := decide (850 < max t0 t1)
    let read (u : State) : Prop :=
      u.rd 0x1301 6 = rawOf 16 t0 ∧ u.rd 0x1301 7 = rawOf 16 t1 ∧ u.rd 0x4A00 9 = rawOf 16 (max t0 t1) ∧ u.teller.derating = hot ∧
        (hot = true → s.teller.derating = false → raised s u 0x1108)
    let bad := 100 < (t0 - t1).natAbs ∨ t0 < -400 ∨ 1500 < t0 ∨ t1 < -400 ∨ 1500 < t1
    (∃ u, Effect s .resetNAssert u ∧ u.power = 0 ∧ u.cells = [] ∧ u.supply.reset = true ∧ u.now = s.now ∧ u.stored = s.stored ∧
      u.tally.latched = none) ∧
    (max a b < 6000 ∨ 2 ≤ s.power ∨ (s.power = 1 ∧ s.tally.latched = none) → Stays s (.powerUpStart ka a b)) ∧
    (6000 ≤ max a b → s.power = 0 ∨ (s.power = 1 ∧ s.tally.latched.isSome = true) → ∃ u, Effect s (.powerUpStart ka a b) u ∧
      u.power = 3 ∧ u.supervisor.runs = true ∧ u.supervisor.running = 0 ∧ u.now = s.now ∧
      u.rd 0x1300 4 = (if x.reset then 1 else if s.power = 1 then 4 else 0)) ∧
    (4500 ≤ max x.vloga x.vlogb → Stays s .logicSupplyLost) ∧
    (max x.vloga x.vlogb < 4500 → 2 ≤ s.power → ∃ u, Effect s .logicSupplyLost u ∧ u.power = 0 ∧ u.cells = [] ∧
      u.supply.brownout = !x.kaLow ∧ u.stored = s.stored) ∧
    (2 ≤ s.power → ∃ u, Effect s (.supplyThreshold pin mv) u ∧ u.power = s.power ∧ u.cells = s.cells ∧
      (pin = .ka → u.supply.ka = mv ∧ u.supply.kaLow = (if x.kaLow then decide (mv < 5000) else decide (mv < 4000)) ∧
        u.supply.vloga = x.vloga ∧ u.supply.vlogb = x.vlogb) ∧
      (pin = .vloga → u.supply.vloga = mv ∧ u.supply.aLow = (if x.aLow then decide (mv < 6000) else decide (mv < 5500)) ∧
        (4500 ≤ max mv x.vlogb → x.aLow = false → mv < 5500 → raised s u 0x1B00)) ∧
      (pin = .vlogb → u.supply.vlogb = mv ∧ u.supply.bLow = (if x.bLow then decide (mv < 6000) else decide (mv < 5500)) ∧
        (4500 ≤ max x.vloga mv → x.bLow = false → mv < 5500 → raised s u 0x1B01))) ∧
    (x.onBackup = true → Stays s .refClockLoss) ∧
    (2 ≤ s.power → x.onBackup = false → ∃ u, Effect s .refClockLoss u ∧ u.supply.onBackup = true ∧ u.rd 0x1200 3 = 3 ∧ raised s u 0x1B05) ∧
    (x.onBackup = false → Stays s .refClockReturn) ∧
    (2 ≤ s.power → x.onBackup = true → ∃ u, Effect s .refClockReturn u ∧ u.supply.onBackup = false ∧ u.rd 0x1200 3 = s.rd 0x1200 2 ∧
      u.sources = s.sources) ∧
    (x.rtcOk = false → Stays s .rtcClockLoss) ∧
    (x.rtcOk = true → ∃ u, Effect s .rtcClockLoss u ∧ u.supply = { x with rtcOk := false } ∧ (2 ≤ s.power → raised s u 0x1B06)) ∧
    (2 ≤ s.power → ∀ t, x.mismatchAt = some t → t + (if s.volt24 then 5000000 else 500000) ≤ s.ticks → x.mismatchTold = false →
      ∃ u, Effect s .boardnetMismatch u ∧ u.supply = { x with mismatchTold := true } ∧ raised s u 0x1B08) ∧
    (x.mismatchAt = none ∨ x.mismatchTold = true → Stays s .boardnetMismatch) ∧
    (2 ≤ s.power → (∃ u, Effect s (.baseplateDerate t0 t1) u ∧ read u ∧
        u.supply = { x with sensorBad := x.sensorBad && decide bad }) ∧
      ∃ u, Effect s (.baseplateSensor t0 t1) u ∧ read u ∧ (u.supply.sensorBad = true ↔ bad) ∧
        (bad → x.sensorBad = false → raised s u 0x1B07))

/-! ### The module as a whole -/

namespace Sys2Proof.Claim

open Machine

/-- The instructions that Table 11-3 spells one way: no reserved operands, and a word load with the one mark of its row. -/
def Spelt (op : SeqOp) : Prop := op.reserved = none ∧ ∀ gd gb d, op ≠ .load .w true gd gb d

end Sys2Proof.Claim

/-- The command at the front of the queue takes effect on the state with the rest of the queue. On an empty queue one module tick
passes (the model's own choice, log entry 1): the count of ticks advances by one and module time by 999 to 1,001 ns at least. -/
def Obligations.StepRunsTheFirstCommand : Prop :=
  (∀ (i : Instr) (r : List Instr) (s : State), s.pending = i :: r → step s = exec i { s with pending := r }) ∧
  ∀ s : State, s.pending = [] →
    ∃ t, step s = .next t ∧ t.pending = [] ∧ t.ticks = s.ticks + 1 ∧ s.now + 999 ≤ t.now ∧ (s.slew = 0 → s.now + 1000 ≤ t.now)

/-- R69 and the queue: every command has an effect in every state, none stops the module, module time never decreases, and a
command touches neither the commands that wait nor the count of ticks; so every step takes the first command alone.
Choices of the model that it rests on: log entries 2, 13, 15, 16 (2: an event whose condition does not hold changes nothing). -/
def Obligations.EveryStepGoesOnAndTimeNeverDecreases : Prop :=
  (∀ (i : Instr) (s : State),
    ∃ t, exec i s = .next t ∧ t.pending = s.pending ∧ t.ticks = s.ticks ∧ s.now ≤ t.now) ∧
  ∀ s : State, Safe s ∧ ∀ t, Reaches s t →
    s.now ≤ t.now ∧ s.ticks ≤ t.ticks ∧ ∃ k, t.pending = s.pending.drop k

/-- R295, R296: the words that Table 11-3 gives an instruction decode to it, whatever follows them; and words that decode are those
of the one instruction they decode to. -/
def Obligations.WordsAndInstructionsAgree : Prop :=
  (∀ (op : SeqOp) (v w x y z : PWord) (r : List PWord), Spelt op → op.encode ++ [v, w] = x :: y :: z :: r →
    SeqDecode.decode x y z = .ok op) ∧
  (∀ op : SeqOp, op.encode.length = op.len) ∧
  ∀ (x y z : PWord) (op : SeqOp), SeqDecode.decode x y z = .ok op → Spelt op ∧ op.encode = [x, y, z].take op.len

/-- R42, R52, R125, R209, Table 12-8: right after reset, with nothing stored, the module is in Run; every function but the Teller and
the fixed switch ports is Unconfigured; every cell floats in its Unconfigured bank, owned by the Ledger; no context runs, no engine
drives, no session is open, no lock is held, and no memory holds anything.
Choices of the model that it rests on: log entries 5, 7. -/
def Obligations.ResetLeavesNothingRunning : Prop :=
  let s := State.reset
  s.power = 3 ∧ s.now = 0 ∧ s.pending = [] ∧ s.sessions = [] ∧ s.locks = [] ∧ s.dmem = [] ∧ s.smem = [] ∧ s.pmem = [] ∧
  s.stored = [] ∧ s.storedFns = [] ∧ s.teller.loans = [] ∧ s.fn ⟨0x0B, 0⟩ = 2 ∧
  (∀ b : Fin 16, s.fn ⟨1, b⟩ = 0) ∧ (∀ e : Fin 64, s.fn ⟨2, e⟩ = 0) ∧ (∀ e : Fin 48, s.fn ⟨3, e⟩ = 0) ∧
  (∀ e : Fin 32, s.fn ⟨4, e⟩ = 0) ∧ (∀ c : Fin 128, s.fn ⟨5, c⟩ = 0) ∧
  (∀ n : Fin 512, (s.cell n).drive = 5 ∧ Chan.owner s n = 0 ∧ (s.cell n).prot = 0) ∧
  (∀ c : Fin 128, (s.ctx c).st = 0 ∧ (s.ctx c).rx = []) ∧ (∀ (e : Fin 64) (k : Fin 4), (s.coil e k).phase = 0) ∧
  ∀ e : Fin 48, (s.loop e).st = 0
end

