-- ==== Sys2Proof/Laws/Map.lean ====
section
/-! SUPPORT. The sparse maps: a read after a write, and that every write keeps the canonical form. -/

namespace Sys2Proof.Machine.Map

variable {α : Type}

@[simp] theorem get_nil (d : α) (k : Nat) : get d [] k = d := rfl

/-- Insertion adds its pair and nothing else. -/
theorem insert_perm (k : Nat) (v : α) (m : NatMap α) : (insert k v m).Perm ((k, v) :: m) := by
  fun_induction insert k v m with
  | case1 => rfl
  | case2 => rfl
  | case3 k' v' r h ih => exact (ih.cons _).trans (.swap ..)

/-- An erased key reads as an unlisted one. -/
theorem get_erase (d : α) (m : NatMap α) (k x : Nat) : get d (erase m k) x = if x = k then d else get d m x := by
  unfold erase
  by_cases h : x = k
  · subst h; induction m <;> grind [get]
  · fun_induction get d m x <;> grind [get]

/-- A key inserted anew reads as inserted. -/
theorem get_insert (d : α) (m : NatMap α) (k : Nat) (v : α) (x : Nat) (h : ∀ p ∈ m, p.1 ≠ k) :
    get d (insert k v m) x = if x = k then v else get d m x := by
  fun_induction insert k v m with
  | case1 => simp [get, eq_comm]
  | case2 => simp [get, eq_comm]
  | case3 => grind [get, List.forall_mem_cons.mp h]

/-- Erasing what was inserted. -/
theorem erase_insert (k : Nat) (v : α) (m : NatMap α) : erase (insert k v m) k = erase m k := by
  unfold erase
  fun_induction insert k v m <;> grind

theorem erase_erase (k : Nat) (m : NatMap α) : erase (erase m k) k = erase m k := by simp [erase]

theorem not_mem_erase (m : NatMap α) (k : Nat) : ∀ p ∈ erase m k, p.1 ≠ k := by simp [erase]

/-- Insertion keeps the keys rising. -/
theorem sorted_insert (k : Nat) (v : α) (m : NatMap α) (h : sorted m = true) (hk : ∀ p ∈ m, p.1 ≠ k) :
    sorted (insert k v m) = true := by
  simp only [sorted, decide_eq_true_eq] at h ⊢
  fun_induction insert k v m with
  | case1 => simp
  | case2 k' v' r hlt =>
    have hr := (List.pairwise_cons.mp h).1
    exact h.cons (List.forall_mem_cons.mpr ⟨hlt, fun p hp => Nat.lt_trans hlt (hr p hp)⟩)
  | case3 k' v' r hlt ih =>
    obtain ⟨hr, hs⟩ := List.pairwise_cons.mp h
    obtain ⟨hq, ht⟩ := List.forall_mem_cons.mp hk
    refine (ih ht hs).cons fun p hp => ?_
    have := (insert_perm k v r).mem_iff.mp hp
    grind
variable [DecidableEq α]

/-- A read after a write of one key, whatever an unlisted key reads as. -/
theorem get_put (e d : α) (m : NatMap α) (k : Nat) (v : α) (x : Nat) (h : x = k → v = d → e = d) :
    get e (put d m k v) x = if x = k then v else get e m x := by
  unfold put; split
  · grind [get_erase]
  · rw [get_insert _ _ _ _ _ (not_mem_erase m k)]; grind [get_erase]

/-- A read after a write to the same key gives the value written. -/
@[simp] theorem get_put_same (d : α) (m : NatMap α) (k : Nat) (v : α) : get d (put d m k v) k = v := by
  simp [get_put]

/-- A write leaves every other key alone. -/
theorem get_put_ne (e d : α) (m : NatMap α) (v : α) {k x : Nat} (h : x ≠ k) : get e (put d m k v) x = get e m x := by
  rw [get_put e d m k v x fun hk => absurd hk h, if_neg h]

@[simp] theorem get_modify_same (d : α) (m : NatMap α) (k : Nat) (f : α → α) :
    get d (modify d m k f) k = f (get d m k) := get_put_same ..

theorem get_modify_ne (d : α) (m : NatMap α) (f : α → α) {k x : Nat} (h : x ≠ k) :
    get d (modify d m k f) x = get d m x := get_put_ne d d m _ h

/-- The later of two writes to one key stands. -/
@[simp] theorem put_put (d : α) (m : NatMap α) (k : Nat) (v w : α) : put d (put d m k v) k w = put d m k w := by
  have h : erase (put d m k v) k = erase m k := by
    unfold put; split <;> simp [erase_insert, erase_erase]
  unfold put at h ⊢; rw [h]

@[simp] theorem modify_modify (d : α) (m : NatMap α) (k : Nat) (f g : α → α) :
    modify d (modify d m k f) k g = modify d m k fun x => g (f x) := by
  simp [modify]

/-! ### The canonical form -/

@[simp] theorem wf_nil (d : α) : wf d [] = true := by simp [wf, sorted]

/-- The canonical form as propositions. -/
theorem wf_iff (d : α) (m : NatMap α) : wf d m = true ↔ sorted m = true ∧ ∀ p ∈ m, p.2 ≠ d := by simp [wf]

/-- A filtered map is canonical. -/
theorem wf_filter (d : α) (q : Nat × α → Bool) (m : NatMap α) (h : wf d m = true) : wf d (m.filter q) = true := by
  rw [wf_iff] at h ⊢
  have hs : List.Pairwise (fun p q => p.1 < q.1) m := by simpa [sorted] using h.1
  exact ⟨by simpa [sorted] using hs.filter q, fun p hp => h.2 p (List.mem_filter.mp hp).1⟩

/-- A write keeps the canonical form. -/
theorem wf_put (d : α) (m : NatMap α) (k : Nat) (v : α) (h : wf d m = true) : wf d (put d m k v) = true := by
  have he : wf d (erase m k) = true := wf_filter d _ m h
  unfold put; split
  · exact he
  · rw [wf_iff] at he ⊢
    refine ⟨sorted_insert k v _ he.1 (not_mem_erase m k), fun p hp => ?_⟩
    have := (insert_perm k v _).mem_iff.mp hp
    grind

theorem wf_modify (d : α) (m : NatMap α) (k : Nat) (f : α → α) (h : wf d m = true) : wf d (modify d m k f) = true :=
  wf_put d m k _ h

end Sys2Proof.Machine.Map
end

