-- ==== Sys2Proof/Laws/Memory.lean ====
section
/-! SUPPORT. The memories of the sequencers and the staging area: every operation keeps the canonical form, a read of a stored byte
gives what was stored, and every other byte is left alone. -/

namespace Sys2Proof.Machine

/-- Octets of a number spell its lowest octets. -/
@[simp] theorem leNat_octets (n v : Nat) : leNat (octets n v) = v % 256 ^ n := by
  induction n generalizing v with
  | zero => simp [octets, leNat, Nat.mod_one]
  | succ n ih =>
    have h : 256 ^ (n + 1) = 256 * 256 ^ n := by rw [Nat.pow_succ, Nat.mul_comm]
    rw [h, Nat.mod_mul, octets, leNat, ih]
    rfl

@[simp] theorem length_octets (n v : Nat) : (octets n v).length = n := by
  induction n generalizing v with
  | zero => rfl
  | succ n ih => simp [octets, ih]

theorem Memory.wf_reset : Memory.wf State.reset.dmem = true ∧ Memory.wf State.reset.smem = true := ⟨rfl, rfl⟩

namespace Seq

theorem wf_put_octets (m : List Host.Cell) (a : Nat) (v : Nat → Byte) (ks : List Nat) (h : Memory.wf m = true) :
    Memory.wf (ks.foldl (fun m i => Map.put 0 m (a + i) (v i)) m) = true :=
  List.foldlRecOn ks _ (motive := fun m => Memory.wf m = true) h fun m hm i _ => Map.wf_put 0 m (a + i) (v i) hm

/-- Storing octets keeps a memory canonical. -/
theorem wf_store (m : List Host.Cell) (a : Nat) (l : List Byte) (h : Memory.wf m = true) : Memory.wf (store m a l) = true :=
  wf_put_octets m a _ _ h

/-- Octets stored leave every byte outside them alone. -/
theorem get_store_ne (m : List Host.Cell) (a : Nat) (l : List Byte) {b : Nat} (hb : b < a ∨ a + l.length ≤ b) :
    Map.get 0 (store m a l) b = Map.get 0 m b :=
  List.foldlRecOn (List.range l.length) _ (motive := fun t => Map.get 0 t b = Map.get 0 m b) rfl fun t ht i hi => by
    rw [Map.get_put_ne 0 0 t _ (by have := List.mem_range.mp hi; omega), ht]

/-- A stored byte reads as stored. -/
theorem get_store (m : List Host.Cell) (a : Nat) (l : List Byte) {i : Nat} (hi : i < l.length) :
    Map.get 0 (store m a l) (a + i) = l.getD i 0 := by
  have key : ∀ n, i < n → Map.get 0 ((List.range n).foldl (fun m i => Map.put 0 m (a + i) (l.getD i 0)) m) (a + i) = l.getD i 0 := by
    intro n
    induction n with
    | zero => intro h; omega
    | succ n ih =>
      intro h
      rw [List.range_succ, List.foldl_append]
      simp only [List.foldl_cons, List.foldl_nil]
      by_cases e : i = n
      · subst e; exact Map.get_put_same ..
      · rw [Map.get_put_ne 0 0 _ _ (by omega)]; exact ih (by omega)
  exact key _ hi

/-- A store of an engine keeps data memory canonical and changes nothing else. -/
theorem wf_dataStore (e a : Nat) (l : List Byte) (s : State) (h : Memory.wf s.dmem = true) :
    Memory.wf (dataStore e a l s).dmem = true := wf_store _ _ _ h

/-- The oldest buffered store of an engine reaches shared memory, which stays canonical. -/
theorem wf_writeback (e : Nat) (s : State) (h : Memory.wf s.smem = true) : Memory.wf (writeback e s).smem = true := by
  unfold writeback
  split
  · exact h
  · exact wf_store _ _ _ h

/-- Clearing one engine's data memory keeps the rest canonical. -/
theorem wf_clear (e : Nat) (s : State) (h : Memory.wf s.dmem = true) :
    Memory.wf (s.dmem.filter fun p => decide (p.1 / 16384 ≠ e)) = true := Map.wf_filter 0 _ _ h

end Seq

end Sys2Proof.Machine
end

