-- ==== Sys2Proof/Laws/State.lean ====
section
/-! SUPPORT. What each update of the state changes, field by field, and what reading a record or an entry gives after it.
The lemmas are grouped by what is read; the updates are `wr` of an entry, `modX` of a record, `send`, `draw`, `open_`, `keep`. -/

namespace Sys2Proof.Machine.State

variable (s : State) (i j v n b g k c e p : Nat) (x : Sent) (t : State)
variable (fCell : Cell → Cell) (fBank : Bank → Bank) (fGang : Gang → Gang) (fSource : Source → Source) (fSession : Session → Session)
variable (fTeller : Teller → Teller) (fCtx : Ctx → Ctx) (fEng : Eng → Eng) (fCoil : CoilSlot → CoilSlot) (fLoop : Loop → Loop)
variable (fInput : Input → Input) (fCos : Cos → Cos) (fPort : Port → Port) (fStream : Stream → Stream) (fCan : Can → Can)
variable (fLin : Lin → Lin) (fT1s : T1s → T1s) (fIso : IsoTp → IsoTp) (fTally : Tally → Tally) (fAccess : AccessEng → AccessEng)
variable (fUpdate : Update → Update)

/-! ### ca -/

@[simp] theorem wr_ca : (s.wr i j v).ca = s.ca := by rfl
@[simp] theorem modCell_ca : (s.modCell n fCell).ca = s.ca := rfl
@[simp] theorem modBank_ca : (s.modBank b fBank).ca = s.ca := by rfl
@[simp] theorem modGang_ca : (s.modGang g fGang).ca = s.ca := rfl
@[simp] theorem modSource_ca : (s.modSource n fSource).ca = s.ca := by rfl
@[simp] theorem modSession_ca : (s.modSession k fSession).ca = s.ca := rfl
@[simp] theorem modTeller_ca : (s.modTeller fTeller).ca = s.ca := by rfl
@[simp] theorem modCtx_ca : (s.modCtx c fCtx).ca = s.ca := rfl
@[simp] theorem modEng_ca : (s.modEng e fEng).ca = s.ca := by rfl
@[simp] theorem modCoil_ca : (s.modCoil e k fCoil).ca = s.ca := rfl
@[simp] theorem modLoop_ca : (s.modLoop e fLoop).ca = s.ca := by rfl
@[simp] theorem modInput_ca : (s.modInput n fInput).ca = s.ca := rfl
@[simp] theorem modCos_ca : (s.modCos k fCos).ca = s.ca := by rfl
@[simp] theorem modPort_ca : (s.modPort p fPort).ca = s.ca := rfl
@[simp] theorem modStream_ca : (s.modStream k fStream).ca = s.ca := by rfl
@[simp] theorem modCan_ca : (s.modCan k fCan).ca = s.ca := rfl
@[simp] theorem modLin_ca : (s.modLin k fLin).ca = s.ca := by rfl
@[simp] theorem modT1s_ca : (s.modT1s k fT1s).ca = s.ca := rfl
@[simp] theorem modIso_ca : (s.modIso k fIso).ca = s.ca := by rfl
@[simp] theorem modTally_ca : (s.modTally fTally).ca = s.ca := rfl
@[simp] theorem modAccess_ca : (s.modAccess fAccess).ca = s.ca := by rfl
@[simp] theorem modUpdate_ca : (s.modUpdate fUpdate).ca = s.ca := rfl
@[simp] theorem send_ca : (s.send x).ca = s.ca := by rfl
@[simp] theorem draw_ca : (s.draw.2).ca = s.ca := rfl
@[simp] theorem open_ca : (s.open_.2).ca = s.ca := by rfl
@[simp] theorem keep_ca : (s.keep t).ca = t.ca := rfl

/-! ### now -/

@[simp] theorem wr_now : (s.wr i j v).now = s.now := by rfl
@[simp] theorem modCell_now : (s.modCell n fCell).now = s.now := rfl
@[simp] theorem modBank_now : (s.modBank b fBank).now = s.now := by rfl
@[simp] theorem modGang_now : (s.modGang g fGang).now = s.now := rfl
@[simp] theorem modSource_now : (s.modSource n fSource).now = s.now := by rfl
@[simp] theorem modSession_now : (s.modSession k fSession).now = s.now := rfl
@[simp] theorem modTeller_now : (s.modTeller fTeller).now = s.now := by rfl
@[simp] theorem modCtx_now : (s.modCtx c fCtx).now = s.now := rfl
@[simp] theorem modEng_now : (s.modEng e fEng).now = s.now := by rfl
@[simp] theorem modCoil_now : (s.modCoil e k fCoil).now = s.now := rfl
@[simp] theorem modLoop_now : (s.modLoop e fLoop).now = s.now := by rfl
@[simp] theorem modInput_now : (s.modInput n fInput).now = s.now := rfl
@[simp] theorem modCos_now : (s.modCos k fCos).now = s.now := by rfl
@[simp] theorem modPort_now : (s.modPort p fPort).now = s.now := rfl
@[simp] theorem modStream_now : (s.modStream k fStream).now = s.now := by rfl
@[simp] theorem modCan_now : (s.modCan k fCan).now = s.now := rfl
@[simp] theorem modLin_now : (s.modLin k fLin).now = s.now := by rfl
@[simp] theorem modT1s_now : (s.modT1s k fT1s).now = s.now := rfl
@[simp] theorem modIso_now : (s.modIso k fIso).now = s.now := by rfl
@[simp] theorem modTally_now : (s.modTally fTally).now = s.now := rfl
@[simp] theorem modAccess_now : (s.modAccess fAccess).now = s.now := by rfl
@[simp] theorem modUpdate_now : (s.modUpdate fUpdate).now = s.now := rfl
@[simp] theorem send_now : (s.send x).now = s.now := by rfl
@[simp] theorem draw_now : (s.draw.2).now = s.now := rfl
@[simp] theorem open_now : (s.open_.2).now = s.now := by rfl
@[simp] theorem keep_now : (s.keep t).now = max s.now t.now := rfl

/-! ### ticks -/

@[simp] theorem wr_ticks : (s.wr i j v).ticks = s.ticks := by rfl
@[simp] theorem modCell_ticks : (s.modCell n fCell).ticks = s.ticks := rfl
@[simp] theorem modBank_ticks : (s.modBank b fBank).ticks = s.ticks := by rfl
@[simp] theorem modGang_ticks : (s.modGang g fGang).ticks = s.ticks := rfl
@[simp] theorem modSource_ticks : (s.modSource n fSource).ticks = s.ticks := by rfl
@[simp] theorem modSession_ticks : (s.modSession k fSession).ticks = s.ticks := rfl
@[simp] theorem modTeller_ticks : (s.modTeller fTeller).ticks = s.ticks := by rfl
@[simp] theorem modCtx_ticks : (s.modCtx c fCtx).ticks = s.ticks := rfl
@[simp] theorem modEng_ticks : (s.modEng e fEng).ticks = s.ticks := by rfl
@[simp] theorem modCoil_ticks : (s.modCoil e k fCoil).ticks = s.ticks := rfl
@[simp] theorem modLoop_ticks : (s.modLoop e fLoop).ticks = s.ticks := by rfl
@[simp] theorem modInput_ticks : (s.modInput n fInput).ticks = s.ticks := rfl
@[simp] theorem modCos_ticks : (s.modCos k fCos).ticks = s.ticks := by rfl
@[simp] theorem modPort_ticks : (s.modPort p fPort).ticks = s.ticks := rfl
@[simp] theorem modStream_ticks : (s.modStream k fStream).ticks = s.ticks := by rfl
@[simp] theorem modCan_ticks : (s.modCan k fCan).ticks = s.ticks := rfl
@[simp] theorem modLin_ticks : (s.modLin k fLin).ticks = s.ticks := by rfl
@[simp] theorem modT1s_ticks : (s.modT1s k fT1s).ticks = s.ticks := rfl
@[simp] theorem modIso_ticks : (s.modIso k fIso).ticks = s.ticks := by rfl
@[simp] theorem modTally_ticks : (s.modTally fTally).ticks = s.ticks := rfl
@[simp] theorem modAccess_ticks : (s.modAccess fAccess).ticks = s.ticks := by rfl
@[simp] theorem modUpdate_ticks : (s.modUpdate fUpdate).ticks = s.ticks := rfl
@[simp] theorem send_ticks : (s.send x).ticks = s.ticks := by rfl
@[simp] theorem draw_ticks : (s.draw.2).ticks = s.ticks := rfl
@[simp] theorem open_ticks : (s.open_.2).ticks = s.ticks := by rfl
@[simp] theorem keep_ticks : (s.keep t).ticks = s.ticks := rfl

/-! ### ledger -/

@[simp] theorem modCell_ledger : (s.modCell n fCell).ledger = s.ledger := by rfl
@[simp] theorem modBank_ledger : (s.modBank b fBank).ledger = s.ledger := rfl
@[simp] theorem modGang_ledger : (s.modGang g fGang).ledger = s.ledger := by rfl
@[simp] theorem modSource_ledger : (s.modSource n fSource).ledger = s.ledger := rfl
@[simp] theorem modSession_ledger : (s.modSession k fSession).ledger = s.ledger := by rfl
@[simp] theorem modTeller_ledger : (s.modTeller fTeller).ledger = s.ledger := rfl
@[simp] theorem modCtx_ledger : (s.modCtx c fCtx).ledger = s.ledger := by rfl
@[simp] theorem modEng_ledger : (s.modEng e fEng).ledger = s.ledger := rfl
@[simp] theorem modCoil_ledger : (s.modCoil e k fCoil).ledger = s.ledger := by rfl
@[simp] theorem modLoop_ledger : (s.modLoop e fLoop).ledger = s.ledger := rfl
@[simp] theorem modInput_ledger : (s.modInput n fInput).ledger = s.ledger := by rfl
@[simp] theorem modCos_ledger : (s.modCos k fCos).ledger = s.ledger := rfl
@[simp] theorem modPort_ledger : (s.modPort p fPort).ledger = s.ledger := by rfl
@[simp] theorem modStream_ledger : (s.modStream k fStream).ledger = s.ledger := rfl
@[simp] theorem modCan_ledger : (s.modCan k fCan).ledger = s.ledger := by rfl
@[simp] theorem modLin_ledger : (s.modLin k fLin).ledger = s.ledger := rfl
@[simp] theorem modT1s_ledger : (s.modT1s k fT1s).ledger = s.ledger := by rfl
@[simp] theorem modIso_ledger : (s.modIso k fIso).ledger = s.ledger := rfl
@[simp] theorem modTally_ledger : (s.modTally fTally).ledger = s.ledger := by rfl
@[simp] theorem modAccess_ledger : (s.modAccess fAccess).ledger = s.ledger := rfl
@[simp] theorem modUpdate_ledger : (s.modUpdate fUpdate).ledger = s.ledger := by rfl
@[simp] theorem send_ledger : (s.send x).ledger = s.ledger := rfl
@[simp] theorem draw_ledger : (s.draw.2).ledger = s.ledger := by rfl
@[simp] theorem open_ledger : (s.open_.2).ledger = s.ledger := rfl
@[simp] theorem keep_ledger : (s.keep t).ledger = t.ledger := by rfl

/-! ### stored -/

@[simp] theorem wr_stored : (s.wr i j v).stored = s.stored := by rfl
@[simp] theorem modCell_stored : (s.modCell n fCell).stored = s.stored := rfl
@[simp] theorem modBank_stored : (s.modBank b fBank).stored = s.stored := by rfl
@[simp] theorem modGang_stored : (s.modGang g fGang).stored = s.stored := rfl
@[simp] theorem modSource_stored : (s.modSource n fSource).stored = s.stored := by rfl
@[simp] theorem modSession_stored : (s.modSession k fSession).stored = s.stored := rfl
@[simp] theorem modTeller_stored : (s.modTeller fTeller).stored = s.stored := by rfl
@[simp] theorem modCtx_stored : (s.modCtx c fCtx).stored = s.stored := rfl
@[simp] theorem modEng_stored : (s.modEng e fEng).stored = s.stored := by rfl
@[simp] theorem modCoil_stored : (s.modCoil e k fCoil).stored = s.stored := rfl
@[simp] theorem modLoop_stored : (s.modLoop e fLoop).stored = s.stored := by rfl
@[simp] theorem modInput_stored : (s.modInput n fInput).stored = s.stored := rfl
@[simp] theorem modCos_stored : (s.modCos k fCos).stored = s.stored := by rfl
@[simp] theorem modPort_stored : (s.modPort p fPort).stored = s.stored := rfl
@[simp] theorem modStream_stored : (s.modStream k fStream).stored = s.stored := by rfl
@[simp] theorem modCan_stored : (s.modCan k fCan).stored = s.stored := rfl
@[simp] theorem modLin_stored : (s.modLin k fLin).stored = s.stored := by rfl
@[simp] theorem modT1s_stored : (s.modT1s k fT1s).stored = s.stored := rfl
@[simp] theorem modIso_stored : (s.modIso k fIso).stored = s.stored := by rfl
@[simp] theorem modTally_stored : (s.modTally fTally).stored = s.stored := rfl
@[simp] theorem modAccess_stored : (s.modAccess fAccess).stored = s.stored := by rfl
@[simp] theorem modUpdate_stored : (s.modUpdate fUpdate).stored = s.stored := rfl
@[simp] theorem send_stored : (s.send x).stored = s.stored := by rfl
@[simp] theorem draw_stored : (s.draw.2).stored = s.stored := rfl
@[simp] theorem open_stored : (s.open_.2).stored = s.stored := by rfl
@[simp] theorem keep_stored : (s.keep t).stored = t.stored := rfl

/-! ### storedFns -/

@[simp] theorem wr_storedFns : (s.wr i j v).storedFns = s.storedFns := by rfl
@[simp] theorem modCell_storedFns : (s.modCell n fCell).storedFns = s.storedFns := rfl
@[simp] theorem modBank_storedFns : (s.modBank b fBank).storedFns = s.storedFns := by rfl
@[simp] theorem modGang_storedFns : (s.modGang g fGang).storedFns = s.storedFns := rfl
@[simp] theorem modSource_storedFns : (s.modSource n fSource).storedFns = s.storedFns := by rfl
@[simp] theorem modSession_storedFns : (s.modSession k fSession).storedFns = s.storedFns := rfl
@[simp] theorem modTeller_storedFns : (s.modTeller fTeller).storedFns = s.storedFns := by rfl
@[simp] theorem modCtx_storedFns : (s.modCtx c fCtx).storedFns = s.storedFns := rfl
@[simp] theorem modEng_storedFns : (s.modEng e fEng).storedFns = s.storedFns := by rfl
@[simp] theorem modCoil_storedFns : (s.modCoil e k fCoil).storedFns = s.storedFns := rfl
@[simp] theorem modLoop_storedFns : (s.modLoop e fLoop).storedFns = s.storedFns := by rfl
@[simp] theorem modInput_storedFns : (s.modInput n fInput).storedFns = s.storedFns := rfl
@[simp] theorem modCos_storedFns : (s.modCos k fCos).storedFns = s.storedFns := by rfl
@[simp] theorem modPort_storedFns : (s.modPort p fPort).storedFns = s.storedFns := rfl
@[simp] theorem modStream_storedFns : (s.modStream k fStream).storedFns = s.storedFns := by rfl
@[simp] theorem modCan_storedFns : (s.modCan k fCan).storedFns = s.storedFns := rfl
@[simp] theorem modLin_storedFns : (s.modLin k fLin).storedFns = s.storedFns := by rfl
@[simp] theorem modT1s_storedFns : (s.modT1s k fT1s).storedFns = s.storedFns := rfl
@[simp] theorem modIso_storedFns : (s.modIso k fIso).storedFns = s.storedFns := by rfl
@[simp] theorem modTally_storedFns : (s.modTally fTally).storedFns = s.storedFns := rfl
@[simp] theorem modAccess_storedFns : (s.modAccess fAccess).storedFns = s.storedFns := by rfl
@[simp] theorem modUpdate_storedFns : (s.modUpdate fUpdate).storedFns = s.storedFns := rfl
@[simp] theorem send_storedFns : (s.send x).storedFns = s.storedFns := by rfl
@[simp] theorem draw_storedFns : (s.draw.2).storedFns = s.storedFns := rfl
@[simp] theorem open_storedFns : (s.open_.2).storedFns = s.storedFns := by rfl
@[simp] theorem keep_storedFns : (s.keep t).storedFns = t.storedFns := rfl

/-! ### jobs -/

@[simp] theorem wr_jobs : (s.wr i j v).jobs = s.jobs := by rfl
@[simp] theorem modCell_jobs : (s.modCell n fCell).jobs = s.jobs := rfl
@[simp] theorem modBank_jobs : (s.modBank b fBank).jobs = s.jobs := by rfl
@[simp] theorem modGang_jobs : (s.modGang g fGang).jobs = s.jobs := rfl
@[simp] theorem modSource_jobs : (s.modSource n fSource).jobs = s.jobs := by rfl
@[simp] theorem modSession_jobs : (s.modSession k fSession).jobs = s.jobs := rfl
@[simp] theorem modTeller_jobs : (s.modTeller fTeller).jobs = s.jobs := by rfl
@[simp] theorem modCtx_jobs : (s.modCtx c fCtx).jobs = s.jobs := rfl
@[simp] theorem modEng_jobs : (s.modEng e fEng).jobs = s.jobs := by rfl
@[simp] theorem modCoil_jobs : (s.modCoil e k fCoil).jobs = s.jobs := rfl
@[simp] theorem modLoop_jobs : (s.modLoop e fLoop).jobs = s.jobs := by rfl
@[simp] theorem modInput_jobs : (s.modInput n fInput).jobs = s.jobs := rfl
@[simp] theorem modCos_jobs : (s.modCos k fCos).jobs = s.jobs := by rfl
@[simp] theorem modPort_jobs : (s.modPort p fPort).jobs = s.jobs := rfl
@[simp] theorem modStream_jobs : (s.modStream k fStream).jobs = s.jobs := by rfl
@[simp] theorem modCan_jobs : (s.modCan k fCan).jobs = s.jobs := rfl
@[simp] theorem modLin_jobs : (s.modLin k fLin).jobs = s.jobs := by rfl
@[simp] theorem modT1s_jobs : (s.modT1s k fT1s).jobs = s.jobs := rfl
@[simp] theorem modIso_jobs : (s.modIso k fIso).jobs = s.jobs := by rfl
@[simp] theorem modTally_jobs : (s.modTally fTally).jobs = s.jobs := rfl
@[simp] theorem modAccess_jobs : (s.modAccess fAccess).jobs = s.jobs := by rfl
@[simp] theorem modUpdate_jobs : (s.modUpdate fUpdate).jobs = s.jobs := rfl
@[simp] theorem send_jobs : (s.send x).jobs = s.jobs := by rfl
@[simp] theorem draw_jobs : (s.draw.2).jobs = s.jobs := rfl
@[simp] theorem open_jobs : (s.open_.2).jobs = s.jobs := by rfl
@[simp] theorem keep_jobs : (s.keep t).jobs = t.jobs := rfl

/-! ### sessions -/

@[simp] theorem wr_sessions : (s.wr i j v).sessions = s.sessions := by rfl
@[simp] theorem modCell_sessions : (s.modCell n fCell).sessions = s.sessions := rfl
@[simp] theorem modBank_sessions : (s.modBank b fBank).sessions = s.sessions := by rfl
@[simp] theorem modGang_sessions : (s.modGang g fGang).sessions = s.sessions := rfl
@[simp] theorem modSource_sessions : (s.modSource n fSource).sessions = s.sessions := by rfl
@[simp] theorem modTeller_sessions : (s.modTeller fTeller).sessions = s.sessions := rfl
@[simp] theorem modCtx_sessions : (s.modCtx c fCtx).sessions = s.sessions := by rfl
@[simp] theorem modEng_sessions : (s.modEng e fEng).sessions = s.sessions := rfl
@[simp] theorem modCoil_sessions : (s.modCoil e k fCoil).sessions = s.sessions := by rfl
@[simp] theorem modLoop_sessions : (s.modLoop e fLoop).sessions = s.sessions := rfl
@[simp] theorem modInput_sessions : (s.modInput n fInput).sessions = s.sessions := by rfl
@[simp] theorem modCos_sessions : (s.modCos k fCos).sessions = s.sessions := rfl
@[simp] theorem modPort_sessions : (s.modPort p fPort).sessions = s.sessions := by rfl
@[simp] theorem modStream_sessions : (s.modStream k fStream).sessions = s.sessions := rfl
@[simp] theorem modCan_sessions : (s.modCan k fCan).sessions = s.sessions := by rfl
@[simp] theorem modLin_sessions : (s.modLin k fLin).sessions = s.sessions := rfl
@[simp] theorem modT1s_sessions : (s.modT1s k fT1s).sessions = s.sessions := by rfl
@[simp] theorem modIso_sessions : (s.modIso k fIso).sessions = s.sessions := rfl
@[simp] theorem modTally_sessions : (s.modTally fTally).sessions = s.sessions := by rfl
@[simp] theorem modAccess_sessions : (s.modAccess fAccess).sessions = s.sessions := rfl
@[simp] theorem modUpdate_sessions : (s.modUpdate fUpdate).sessions = s.sessions := by rfl
@[simp] theorem send_sessions : (s.send x).sessions = s.sessions := rfl
@[simp] theorem draw_sessions : (s.draw.2).sessions = s.sessions := by rfl
@[simp] theorem open_sessions : (s.open_.2).sessions = s.sessions := rfl
@[simp] theorem keep_sessions : (s.keep t).sessions = t.sessions := by rfl

/-! ### openers -/

@[simp] theorem wr_openers : (s.wr i j v).openers = s.openers := by rfl
@[simp] theorem modCell_openers : (s.modCell n fCell).openers = s.openers := rfl
@[simp] theorem modBank_openers : (s.modBank b fBank).openers = s.openers := by rfl
@[simp] theorem modGang_openers : (s.modGang g fGang).openers = s.openers := rfl
@[simp] theorem modSource_openers : (s.modSource n fSource).openers = s.openers := by rfl
@[simp] theorem modSession_openers : (s.modSession k fSession).openers = s.openers := rfl
@[simp] theorem modTeller_openers : (s.modTeller fTeller).openers = s.openers := by rfl
@[simp] theorem modCtx_openers : (s.modCtx c fCtx).openers = s.openers := rfl
@[simp] theorem modEng_openers : (s.modEng e fEng).openers = s.openers := by rfl
@[simp] theorem modCoil_openers : (s.modCoil e k fCoil).openers = s.openers := rfl
@[simp] theorem modLoop_openers : (s.modLoop e fLoop).openers = s.openers := by rfl
@[simp] theorem modInput_openers : (s.modInput n fInput).openers = s.openers := rfl
@[simp] theorem modCos_openers : (s.modCos k fCos).openers = s.openers := by rfl
@[simp] theorem modPort_openers : (s.modPort p fPort).openers = s.openers := rfl
@[simp] theorem modStream_openers : (s.modStream k fStream).openers = s.openers := by rfl
@[simp] theorem modCan_openers : (s.modCan k fCan).openers = s.openers := rfl
@[simp] theorem modLin_openers : (s.modLin k fLin).openers = s.openers := by rfl
@[simp] theorem modT1s_openers : (s.modT1s k fT1s).openers = s.openers := rfl
@[simp] theorem modIso_openers : (s.modIso k fIso).openers = s.openers := by rfl
@[simp] theorem modTally_openers : (s.modTally fTally).openers = s.openers := rfl
@[simp] theorem modAccess_openers : (s.modAccess fAccess).openers = s.openers := by rfl
@[simp] theorem modUpdate_openers : (s.modUpdate fUpdate).openers = s.openers := rfl
@[simp] theorem send_openers : (s.send x).openers = s.openers := by rfl
@[simp] theorem draw_openers : (s.draw.2).openers = s.openers := rfl
@[simp] theorem open_openers : (s.open_.2).openers = s.openers := by rfl
@[simp] theorem keep_openers : (s.keep t).openers = t.openers := rfl

/-! ### published -/

@[simp] theorem wr_published : (s.wr i j v).published = s.published := by rfl
@[simp] theorem modCell_published : (s.modCell n fCell).published = s.published := rfl
@[simp] theorem modBank_published : (s.modBank b fBank).published = s.published := by rfl
@[simp] theorem modGang_published : (s.modGang g fGang).published = s.published := rfl
@[simp] theorem modSource_published : (s.modSource n fSource).published = s.published := by rfl
@[simp] theorem modSession_published : (s.modSession k fSession).published = s.published := rfl
@[simp] theorem modTeller_published : (s.modTeller fTeller).published = s.published := by rfl
@[simp] theorem modCtx_published : (s.modCtx c fCtx).published = s.published := rfl
@[simp] theorem modEng_published : (s.modEng e fEng).published = s.published := by rfl
@[simp] theorem modCoil_published : (s.modCoil e k fCoil).published = s.published := rfl
@[simp] theorem modLoop_published : (s.modLoop e fLoop).published = s.published := by rfl
@[simp] theorem modInput_published : (s.modInput n fInput).published = s.published := rfl
@[simp] theorem modCos_published : (s.modCos k fCos).published = s.published := by rfl
@[simp] theorem modPort_published : (s.modPort p fPort).published = s.published := rfl
@[simp] theorem modStream_published : (s.modStream k fStream).published = s.published := by rfl
@[simp] theorem modCan_published : (s.modCan k fCan).published = s.published := rfl
@[simp] theorem modLin_published : (s.modLin k fLin).published = s.published := by rfl
@[simp] theorem modT1s_published : (s.modT1s k fT1s).published = s.published := rfl
@[simp] theorem modIso_published : (s.modIso k fIso).published = s.published := by rfl
@[simp] theorem modTally_published : (s.modTally fTally).published = s.published := rfl
@[simp] theorem modAccess_published : (s.modAccess fAccess).published = s.published := by rfl
@[simp] theorem modUpdate_published : (s.modUpdate fUpdate).published = s.published := rfl
@[simp] theorem send_published : (s.send x).published = s.published := by rfl
@[simp] theorem draw_published : (s.draw.2).published = s.published := rfl
@[simp] theorem open_published : (s.open_.2).published = s.published := by rfl
@[simp] theorem keep_published : (s.keep t).published = t.published := rfl

/-! ### blank -/

@[simp] theorem wr_blank : (s.wr i j v).blank = s.blank := by rfl
@[simp] theorem modCell_blank : (s.modCell n fCell).blank = s.blank := rfl
@[simp] theorem modBank_blank : (s.modBank b fBank).blank = s.blank := by rfl
@[simp] theorem modGang_blank : (s.modGang g fGang).blank = s.blank := rfl
@[simp] theorem modSource_blank : (s.modSource n fSource).blank = s.blank := by rfl
@[simp] theorem modSession_blank : (s.modSession k fSession).blank = s.blank := rfl
@[simp] theorem modTeller_blank : (s.modTeller fTeller).blank = s.blank := by rfl
@[simp] theorem modCtx_blank : (s.modCtx c fCtx).blank = s.blank := rfl
@[simp] theorem modEng_blank : (s.modEng e fEng).blank = s.blank := by rfl
@[simp] theorem modCoil_blank : (s.modCoil e k fCoil).blank = s.blank := rfl
@[simp] theorem modLoop_blank : (s.modLoop e fLoop).blank = s.blank := by rfl
@[simp] theorem modInput_blank : (s.modInput n fInput).blank = s.blank := rfl
@[simp] theorem modCos_blank : (s.modCos k fCos).blank = s.blank := by rfl
@[simp] theorem modPort_blank : (s.modPort p fPort).blank = s.blank := rfl
@[simp] theorem modStream_blank : (s.modStream k fStream).blank = s.blank := by rfl
@[simp] theorem modCan_blank : (s.modCan k fCan).blank = s.blank := rfl
@[simp] theorem modLin_blank : (s.modLin k fLin).blank = s.blank := by rfl
@[simp] theorem modT1s_blank : (s.modT1s k fT1s).blank = s.blank := rfl
@[simp] theorem modIso_blank : (s.modIso k fIso).blank = s.blank := by rfl
@[simp] theorem modTally_blank : (s.modTally fTally).blank = s.blank := rfl
@[simp] theorem modAccess_blank : (s.modAccess fAccess).blank = s.blank := by rfl
@[simp] theorem modUpdate_blank : (s.modUpdate fUpdate).blank = s.blank := rfl
@[simp] theorem send_blank : (s.send x).blank = s.blank := by rfl
@[simp] theorem draw_blank : (s.draw.2).blank = s.blank := rfl
@[simp] theorem open_blank : (s.open_.2).blank = s.blank := by rfl
@[simp] theorem keep_blank : (s.keep t).blank = t.blank := rfl

/-! ### cells -/

@[simp] theorem wr_cells : (s.wr i j v).cells = s.cells := by rfl
@[simp] theorem modBank_cells : (s.modBank b fBank).cells = s.cells := rfl
@[simp] theorem modGang_cells : (s.modGang g fGang).cells = s.cells := by rfl
@[simp] theorem modSource_cells : (s.modSource n fSource).cells = s.cells := rfl
@[simp] theorem modSession_cells : (s.modSession k fSession).cells = s.cells := by rfl
@[simp] theorem modTeller_cells : (s.modTeller fTeller).cells = s.cells := rfl
@[simp] theorem modCtx_cells : (s.modCtx c fCtx).cells = s.cells := by rfl
@[simp] theorem modEng_cells : (s.modEng e fEng).cells = s.cells := rfl
@[simp] theorem modCoil_cells : (s.modCoil e k fCoil).cells = s.cells := by rfl
@[simp] theorem modLoop_cells : (s.modLoop e fLoop).cells = s.cells := rfl
@[simp] theorem modInput_cells : (s.modInput n fInput).cells = s.cells := by rfl
@[simp] theorem modCos_cells : (s.modCos k fCos).cells = s.cells := rfl
@[simp] theorem modPort_cells : (s.modPort p fPort).cells = s.cells := by rfl
@[simp] theorem modStream_cells : (s.modStream k fStream).cells = s.cells := rfl
@[simp] theorem modCan_cells : (s.modCan k fCan).cells = s.cells := by rfl
@[simp] theorem modLin_cells : (s.modLin k fLin).cells = s.cells := rfl
@[simp] theorem modT1s_cells : (s.modT1s k fT1s).cells = s.cells := by rfl
@[simp] theorem modIso_cells : (s.modIso k fIso).cells = s.cells := rfl
@[simp] theorem modTally_cells : (s.modTally fTally).cells = s.cells := by rfl
@[simp] theorem modAccess_cells : (s.modAccess fAccess).cells = s.cells := rfl
@[simp] theorem modUpdate_cells : (s.modUpdate fUpdate).cells = s.cells := by rfl
@[simp] theorem send_cells : (s.send x).cells = s.cells := rfl
@[simp] theorem draw_cells : (s.draw.2).cells = s.cells := by rfl
@[simp] theorem open_cells : (s.open_.2).cells = s.cells := rfl
@[simp] theorem keep_cells : (s.keep t).cells = t.cells := by rfl

/-! ### banks -/

@[simp] theorem wr_banks : (s.wr i j v).banks = s.banks := by rfl
@[simp] theorem modCell_banks : (s.modCell n fCell).banks = s.banks := rfl
@[simp] theorem modGang_banks : (s.modGang g fGang).banks = s.banks := by rfl
@[simp] theorem modSource_banks : (s.modSource n fSource).banks = s.banks := rfl
@[simp] theorem modSession_banks : (s.modSession k fSession).banks = s.banks := by rfl
@[simp] theorem modTeller_banks : (s.modTeller fTeller).banks = s.banks := rfl
@[simp] theorem modCtx_banks : (s.modCtx c fCtx).banks = s.banks := by rfl
@[simp] theorem modEng_banks : (s.modEng e fEng).banks = s.banks := rfl
@[simp] theorem modCoil_banks : (s.modCoil e k fCoil).banks = s.banks := by rfl
@[simp] theorem modLoop_banks : (s.modLoop e fLoop).banks = s.banks := rfl
@[simp] theorem modInput_banks : (s.modInput n fInput).banks = s.banks := by rfl
@[simp] theorem modCos_banks : (s.modCos k fCos).banks = s.banks := rfl
@[simp] theorem modPort_banks : (s.modPort p fPort).banks = s.banks := by rfl
@[simp] theorem modStream_banks : (s.modStream k fStream).banks = s.banks := rfl
@[simp] theorem modCan_banks : (s.modCan k fCan).banks = s.banks := by rfl
@[simp] theorem modLin_banks : (s.modLin k fLin).banks = s.banks := rfl
@[simp] theorem modT1s_banks : (s.modT1s k fT1s).banks = s.banks := by rfl
@[simp] theorem modIso_banks : (s.modIso k fIso).banks = s.banks := rfl
@[simp] theorem modTally_banks : (s.modTally fTally).banks = s.banks := by rfl
@[simp] theorem modAccess_banks : (s.modAccess fAccess).banks = s.banks := rfl
@[simp] theorem modUpdate_banks : (s.modUpdate fUpdate).banks = s.banks := by rfl
@[simp] theorem send_banks : (s.send x).banks = s.banks := rfl
@[simp] theorem draw_banks : (s.draw.2).banks = s.banks := by rfl
@[simp] theorem open_banks : (s.open_.2).banks = s.banks := rfl
@[simp] theorem keep_banks : (s.keep t).banks = t.banks := by rfl

/-! ### gangs -/

@[simp] theorem wr_gangs : (s.wr i j v).gangs = s.gangs := by rfl
@[simp] theorem modCell_gangs : (s.modCell n fCell).gangs = s.gangs := rfl
@[simp] theorem modBank_gangs : (s.modBank b fBank).gangs = s.gangs := by rfl
@[simp] theorem modSource_gangs : (s.modSource n fSource).gangs = s.gangs := rfl
@[simp] theorem modSession_gangs : (s.modSession k fSession).gangs = s.gangs := by rfl
@[simp] theorem modTeller_gangs : (s.modTeller fTeller).gangs = s.gangs := rfl
@[simp] theorem modCtx_gangs : (s.modCtx c fCtx).gangs = s.gangs := by rfl
@[simp] theorem modEng_gangs : (s.modEng e fEng).gangs = s.gangs := rfl
@[simp] theorem modCoil_gangs : (s.modCoil e k fCoil).gangs = s.gangs := by rfl
@[simp] theorem modLoop_gangs : (s.modLoop e fLoop).gangs = s.gangs := rfl
@[simp] theorem modInput_gangs : (s.modInput n fInput).gangs = s.gangs := by rfl
@[simp] theorem modCos_gangs : (s.modCos k fCos).gangs = s.gangs := rfl
@[simp] theorem modPort_gangs : (s.modPort p fPort).gangs = s.gangs := by rfl
@[simp] theorem modStream_gangs : (s.modStream k fStream).gangs = s.gangs := rfl
@[simp] theorem modCan_gangs : (s.modCan k fCan).gangs = s.gangs := by rfl
@[simp] theorem modLin_gangs : (s.modLin k fLin).gangs = s.gangs := rfl
@[simp] theorem modT1s_gangs : (s.modT1s k fT1s).gangs = s.gangs := by rfl
@[simp] theorem modIso_gangs : (s.modIso k fIso).gangs = s.gangs := rfl
@[simp] theorem modTally_gangs : (s.modTally fTally).gangs = s.gangs := by rfl
@[simp] theorem modAccess_gangs : (s.modAccess fAccess).gangs = s.gangs := rfl
@[simp] theorem modUpdate_gangs : (s.modUpdate fUpdate).gangs = s.gangs := by rfl
@[simp] theorem send_gangs : (s.send x).gangs = s.gangs := rfl
@[simp] theorem draw_gangs : (s.draw.2).gangs = s.gangs := by rfl
@[simp] theorem open_gangs : (s.open_.2).gangs = s.gangs := rfl
@[simp] theorem keep_gangs : (s.keep t).gangs = t.gangs := by rfl

/-! ### sources -/

@[simp] theorem wr_sources : (s.wr i j v).sources = s.sources := by rfl
@[simp] theorem modCell_sources : (s.modCell n fCell).sources = s.sources := rfl
@[simp] theorem modBank_sources : (s.modBank b fBank).sources = s.sources := by rfl
@[simp] theorem modGang_sources : (s.modGang g fGang).sources = s.sources := rfl
@[simp] theorem modSession_sources : (s.modSession k fSession).sources = s.sources := by rfl
@[simp] theorem modTeller_sources : (s.modTeller fTeller).sources = s.sources := rfl
@[simp] theorem modCtx_sources : (s.modCtx c fCtx).sources = s.sources := by rfl
@[simp] theorem modEng_sources : (s.modEng e fEng).sources = s.sources := rfl
@[simp] theorem modCoil_sources : (s.modCoil e k fCoil).sources = s.sources := by rfl
@[simp] theorem modLoop_sources : (s.modLoop e fLoop).sources = s.sources := rfl
@[simp] theorem modInput_sources : (s.modInput n fInput).sources = s.sources := by rfl
@[simp] theorem modCos_sources : (s.modCos k fCos).sources = s.sources := rfl
@[simp] theorem modPort_sources : (s.modPort p fPort).sources = s.sources := by rfl
@[simp] theorem modStream_sources : (s.modStream k fStream).sources = s.sources := rfl
@[simp] theorem modCan_sources : (s.modCan k fCan).sources = s.sources := by rfl
@[simp] theorem modLin_sources : (s.modLin k fLin).sources = s.sources := rfl
@[simp] theorem modT1s_sources : (s.modT1s k fT1s).sources = s.sources := by rfl
@[simp] theorem modIso_sources : (s.modIso k fIso).sources = s.sources := rfl
@[simp] theorem modTally_sources : (s.modTally fTally).sources = s.sources := by rfl
@[simp] theorem modAccess_sources : (s.modAccess fAccess).sources = s.sources := rfl
@[simp] theorem modUpdate_sources : (s.modUpdate fUpdate).sources = s.sources := by rfl
@[simp] theorem send_sources : (s.send x).sources = s.sources := rfl
@[simp] theorem draw_sources : (s.draw.2).sources = s.sources := by rfl
@[simp] theorem open_sources : (s.open_.2).sources = s.sources := rfl
@[simp] theorem keep_sources : (s.keep t).sources = t.sources := by rfl

/-! ### supervisor -/

@[simp] theorem wr_supervisor : (s.wr i j v).supervisor = s.supervisor := by rfl
@[simp] theorem modCell_supervisor : (s.modCell n fCell).supervisor = s.supervisor := rfl
@[simp] theorem modBank_supervisor : (s.modBank b fBank).supervisor = s.supervisor := by rfl
@[simp] theorem modGang_supervisor : (s.modGang g fGang).supervisor = s.supervisor := rfl
@[simp] theorem modSource_supervisor : (s.modSource n fSource).supervisor = s.supervisor := by rfl
@[simp] theorem modSession_supervisor : (s.modSession k fSession).supervisor = s.supervisor := rfl
@[simp] theorem modTeller_supervisor : (s.modTeller fTeller).supervisor = s.supervisor := by rfl
@[simp] theorem modCtx_supervisor : (s.modCtx c fCtx).supervisor = s.supervisor := rfl
@[simp] theorem modEng_supervisor : (s.modEng e fEng).supervisor = s.supervisor := by rfl
@[simp] theorem modCoil_supervisor : (s.modCoil e k fCoil).supervisor = s.supervisor := rfl
@[simp] theorem modLoop_supervisor : (s.modLoop e fLoop).supervisor = s.supervisor := by rfl
@[simp] theorem modInput_supervisor : (s.modInput n fInput).supervisor = s.supervisor := rfl
@[simp] theorem modCos_supervisor : (s.modCos k fCos).supervisor = s.supervisor := by rfl
@[simp] theorem modPort_supervisor : (s.modPort p fPort).supervisor = s.supervisor := rfl
@[simp] theorem modStream_supervisor : (s.modStream k fStream).supervisor = s.supervisor := by rfl
@[simp] theorem modCan_supervisor : (s.modCan k fCan).supervisor = s.supervisor := rfl
@[simp] theorem modLin_supervisor : (s.modLin k fLin).supervisor = s.supervisor := by rfl
@[simp] theorem modT1s_supervisor : (s.modT1s k fT1s).supervisor = s.supervisor := rfl
@[simp] theorem modIso_supervisor : (s.modIso k fIso).supervisor = s.supervisor := by rfl
@[simp] theorem modTally_supervisor : (s.modTally fTally).supervisor = s.supervisor := rfl
@[simp] theorem modAccess_supervisor : (s.modAccess fAccess).supervisor = s.supervisor := by rfl
@[simp] theorem modUpdate_supervisor : (s.modUpdate fUpdate).supervisor = s.supervisor := rfl
@[simp] theorem send_supervisor : (s.send x).supervisor = s.supervisor := by rfl
@[simp] theorem draw_supervisor : (s.draw.2).supervisor = s.supervisor := rfl
@[simp] theorem open_supervisor : (s.open_.2).supervisor = s.supervisor := by rfl
@[simp] theorem keep_supervisor : (s.keep t).supervisor = t.supervisor := rfl

/-! ### teller -/

@[simp] theorem wr_teller : (s.wr i j v).teller = s.teller := by rfl
@[simp] theorem modCell_teller : (s.modCell n fCell).teller = s.teller := rfl
@[simp] theorem modBank_teller : (s.modBank b fBank).teller = s.teller := by rfl
@[simp] theorem modGang_teller : (s.modGang g fGang).teller = s.teller := rfl
@[simp] theorem modSource_teller : (s.modSource n fSource).teller = s.teller := by rfl
@[simp] theorem modSession_teller : (s.modSession k fSession).teller = s.teller := rfl
@[simp] theorem modCtx_teller : (s.modCtx c fCtx).teller = s.teller := by rfl
@[simp] theorem modEng_teller : (s.modEng e fEng).teller = s.teller := rfl
@[simp] theorem modCoil_teller : (s.modCoil e k fCoil).teller = s.teller := by rfl
@[simp] theorem modLoop_teller : (s.modLoop e fLoop).teller = s.teller := rfl
@[simp] theorem modInput_teller : (s.modInput n fInput).teller = s.teller := by rfl
@[simp] theorem modCos_teller : (s.modCos k fCos).teller = s.teller := rfl
@[simp] theorem modPort_teller : (s.modPort p fPort).teller = s.teller := by rfl
@[simp] theorem modStream_teller : (s.modStream k fStream).teller = s.teller := rfl
@[simp] theorem modCan_teller : (s.modCan k fCan).teller = s.teller := by rfl
@[simp] theorem modLin_teller : (s.modLin k fLin).teller = s.teller := rfl
@[simp] theorem modT1s_teller : (s.modT1s k fT1s).teller = s.teller := by rfl
@[simp] theorem modIso_teller : (s.modIso k fIso).teller = s.teller := rfl
@[simp] theorem modTally_teller : (s.modTally fTally).teller = s.teller := by rfl
@[simp] theorem modAccess_teller : (s.modAccess fAccess).teller = s.teller := rfl
@[simp] theorem modUpdate_teller : (s.modUpdate fUpdate).teller = s.teller := by rfl
@[simp] theorem send_teller : (s.send x).teller = s.teller := rfl
@[simp] theorem draw_teller : (s.draw.2).teller = s.teller := by rfl
@[simp] theorem open_teller : (s.open_.2).teller = s.teller := rfl
@[simp] theorem keep_teller : (s.keep t).teller = t.teller := by rfl

/-! ### fnReset -/

@[simp] theorem wr_fnReset : (s.wr i j v).fnReset = s.fnReset := by rfl
@[simp] theorem modCell_fnReset : (s.modCell n fCell).fnReset = s.fnReset := rfl
@[simp] theorem modBank_fnReset : (s.modBank b fBank).fnReset = s.fnReset := by rfl
@[simp] theorem modGang_fnReset : (s.modGang g fGang).fnReset = s.fnReset := rfl
@[simp] theorem modSource_fnReset : (s.modSource n fSource).fnReset = s.fnReset := by rfl
@[simp] theorem modSession_fnReset : (s.modSession k fSession).fnReset = s.fnReset := rfl
@[simp] theorem modTeller_fnReset : (s.modTeller fTeller).fnReset = s.fnReset := by rfl
@[simp] theorem modCtx_fnReset : (s.modCtx c fCtx).fnReset = s.fnReset := rfl
@[simp] theorem modEng_fnReset : (s.modEng e fEng).fnReset = s.fnReset := by rfl
@[simp] theorem modCoil_fnReset : (s.modCoil e k fCoil).fnReset = s.fnReset := rfl
@[simp] theorem modLoop_fnReset : (s.modLoop e fLoop).fnReset = s.fnReset := by rfl
@[simp] theorem modInput_fnReset : (s.modInput n fInput).fnReset = s.fnReset := rfl
@[simp] theorem modCos_fnReset : (s.modCos k fCos).fnReset = s.fnReset := by rfl
@[simp] theorem modPort_fnReset : (s.modPort p fPort).fnReset = s.fnReset := rfl
@[simp] theorem modStream_fnReset : (s.modStream k fStream).fnReset = s.fnReset := by rfl
@[simp] theorem modCan_fnReset : (s.modCan k fCan).fnReset = s.fnReset := rfl
@[simp] theorem modLin_fnReset : (s.modLin k fLin).fnReset = s.fnReset := by rfl
@[simp] theorem modT1s_fnReset : (s.modT1s k fT1s).fnReset = s.fnReset := rfl
@[simp] theorem modIso_fnReset : (s.modIso k fIso).fnReset = s.fnReset := by rfl
@[simp] theorem modTally_fnReset : (s.modTally fTally).fnReset = s.fnReset := rfl
@[simp] theorem modAccess_fnReset : (s.modAccess fAccess).fnReset = s.fnReset := by rfl
@[simp] theorem modUpdate_fnReset : (s.modUpdate fUpdate).fnReset = s.fnReset := rfl
@[simp] theorem send_fnReset : (s.send x).fnReset = s.fnReset := by rfl
@[simp] theorem draw_fnReset : (s.draw.2).fnReset = s.fnReset := rfl
@[simp] theorem open_fnReset : (s.open_.2).fnReset = s.fnReset := by rfl
@[simp] theorem keep_fnReset : (s.keep t).fnReset = t.fnReset := rfl

/-! ### isoExpired -/

@[simp] theorem wr_isoExpired : (s.wr i j v).isoExpired = s.isoExpired := by rfl
@[simp] theorem modCell_isoExpired : (s.modCell n fCell).isoExpired = s.isoExpired := rfl
@[simp] theorem modBank_isoExpired : (s.modBank b fBank).isoExpired = s.isoExpired := by rfl
@[simp] theorem modGang_isoExpired : (s.modGang g fGang).isoExpired = s.isoExpired := rfl
@[simp] theorem modSource_isoExpired : (s.modSource n fSource).isoExpired = s.isoExpired := by rfl
@[simp] theorem modSession_isoExpired : (s.modSession k fSession).isoExpired = s.isoExpired := rfl
@[simp] theorem modTeller_isoExpired : (s.modTeller fTeller).isoExpired = s.isoExpired := by rfl
@[simp] theorem modCtx_isoExpired : (s.modCtx c fCtx).isoExpired = s.isoExpired := rfl
@[simp] theorem modEng_isoExpired : (s.modEng e fEng).isoExpired = s.isoExpired := by rfl
@[simp] theorem modCoil_isoExpired : (s.modCoil e k fCoil).isoExpired = s.isoExpired := rfl
@[simp] theorem modLoop_isoExpired : (s.modLoop e fLoop).isoExpired = s.isoExpired := by rfl
@[simp] theorem modInput_isoExpired : (s.modInput n fInput).isoExpired = s.isoExpired := rfl
@[simp] theorem modCos_isoExpired : (s.modCos k fCos).isoExpired = s.isoExpired := by rfl
@[simp] theorem modPort_isoExpired : (s.modPort p fPort).isoExpired = s.isoExpired := rfl
@[simp] theorem modStream_isoExpired : (s.modStream k fStream).isoExpired = s.isoExpired := by rfl
@[simp] theorem modCan_isoExpired : (s.modCan k fCan).isoExpired = s.isoExpired := rfl
@[simp] theorem modLin_isoExpired : (s.modLin k fLin).isoExpired = s.isoExpired := by rfl
@[simp] theorem modT1s_isoExpired : (s.modT1s k fT1s).isoExpired = s.isoExpired := rfl
@[simp] theorem modIso_isoExpired : (s.modIso k fIso).isoExpired = s.isoExpired := by rfl
@[simp] theorem modTally_isoExpired : (s.modTally fTally).isoExpired = s.isoExpired := rfl
@[simp] theorem modAccess_isoExpired : (s.modAccess fAccess).isoExpired = s.isoExpired := by rfl
@[simp] theorem modUpdate_isoExpired : (s.modUpdate fUpdate).isoExpired = s.isoExpired := rfl
@[simp] theorem send_isoExpired : (s.send x).isoExpired = s.isoExpired := by rfl
@[simp] theorem draw_isoExpired : (s.draw.2).isoExpired = s.isoExpired := rfl
@[simp] theorem open_isoExpired : (s.open_.2).isoExpired = s.isoExpired := by rfl
@[simp] theorem keep_isoExpired : (s.keep t).isoExpired = t.isoExpired := rfl

/-! ### answer -/

@[simp] theorem wr_answer : (s.wr i j v).answer = s.answer := by rfl
@[simp] theorem modCell_answer : (s.modCell n fCell).answer = s.answer := rfl
@[simp] theorem modBank_answer : (s.modBank b fBank).answer = s.answer := by rfl
@[simp] theorem modGang_answer : (s.modGang g fGang).answer = s.answer := rfl
@[simp] theorem modSource_answer : (s.modSource n fSource).answer = s.answer := by rfl
@[simp] theorem modSession_answer : (s.modSession k fSession).answer = s.answer := rfl
@[simp] theorem modTeller_answer : (s.modTeller fTeller).answer = s.answer := by rfl
@[simp] theorem modCtx_answer : (s.modCtx c fCtx).answer = s.answer := rfl
@[simp] theorem modEng_answer : (s.modEng e fEng).answer = s.answer := by rfl
@[simp] theorem modCoil_answer : (s.modCoil e k fCoil).answer = s.answer := rfl
@[simp] theorem modLoop_answer : (s.modLoop e fLoop).answer = s.answer := by rfl
@[simp] theorem modInput_answer : (s.modInput n fInput).answer = s.answer := rfl
@[simp] theorem modCos_answer : (s.modCos k fCos).answer = s.answer := by rfl
@[simp] theorem modPort_answer : (s.modPort p fPort).answer = s.answer := rfl
@[simp] theorem modStream_answer : (s.modStream k fStream).answer = s.answer := by rfl
@[simp] theorem modCan_answer : (s.modCan k fCan).answer = s.answer := rfl
@[simp] theorem modLin_answer : (s.modLin k fLin).answer = s.answer := by rfl
@[simp] theorem modT1s_answer : (s.modT1s k fT1s).answer = s.answer := rfl
@[simp] theorem modIso_answer : (s.modIso k fIso).answer = s.answer := by rfl
@[simp] theorem modTally_answer : (s.modTally fTally).answer = s.answer := rfl
@[simp] theorem modAccess_answer : (s.modAccess fAccess).answer = s.answer := by rfl
@[simp] theorem modUpdate_answer : (s.modUpdate fUpdate).answer = s.answer := rfl
@[simp] theorem send_answer : (s.send x).answer = s.answer := by rfl
@[simp] theorem draw_answer : (s.draw.2).answer = s.answer := rfl
@[simp] theorem open_answer : (s.open_.2).answer = s.answer := by rfl
@[simp] theorem keep_answer : (s.keep t).answer = t.answer := rfl

/-! ### out -/

@[simp] theorem wr_out : (s.wr i j v).out = s.out := by rfl
@[simp] theorem modCell_out : (s.modCell n fCell).out = s.out := rfl
@[simp] theorem modBank_out : (s.modBank b fBank).out = s.out := by rfl
@[simp] theorem modGang_out : (s.modGang g fGang).out = s.out := rfl
@[simp] theorem modSource_out : (s.modSource n fSource).out = s.out := by rfl
@[simp] theorem modSession_out : (s.modSession k fSession).out = s.out := rfl
@[simp] theorem modTeller_out : (s.modTeller fTeller).out = s.out := by rfl
@[simp] theorem modCtx_out : (s.modCtx c fCtx).out = s.out := rfl
@[simp] theorem modEng_out : (s.modEng e fEng).out = s.out := by rfl
@[simp] theorem modCoil_out : (s.modCoil e k fCoil).out = s.out := rfl
@[simp] theorem modLoop_out : (s.modLoop e fLoop).out = s.out := by rfl
@[simp] theorem modInput_out : (s.modInput n fInput).out = s.out := rfl
@[simp] theorem modCos_out : (s.modCos k fCos).out = s.out := by rfl
@[simp] theorem modPort_out : (s.modPort p fPort).out = s.out := rfl
@[simp] theorem modStream_out : (s.modStream k fStream).out = s.out := by rfl
@[simp] theorem modCan_out : (s.modCan k fCan).out = s.out := rfl
@[simp] theorem modLin_out : (s.modLin k fLin).out = s.out := by rfl
@[simp] theorem modT1s_out : (s.modT1s k fT1s).out = s.out := rfl
@[simp] theorem modIso_out : (s.modIso k fIso).out = s.out := by rfl
@[simp] theorem modTally_out : (s.modTally fTally).out = s.out := rfl
@[simp] theorem modAccess_out : (s.modAccess fAccess).out = s.out := by rfl
@[simp] theorem modUpdate_out : (s.modUpdate fUpdate).out = s.out := rfl
@[simp] theorem draw_out : (s.draw.2).out = s.out := by rfl
@[simp] theorem open_out : (s.open_.2).out = s.out := rfl
@[simp] theorem keep_out : (s.keep t).out = t.out := by rfl

/-! ### rng -/

@[simp] theorem wr_rng : (s.wr i j v).rng = s.rng := by rfl
@[simp] theorem modCell_rng : (s.modCell n fCell).rng = s.rng := rfl
@[simp] theorem modBank_rng : (s.modBank b fBank).rng = s.rng := by rfl
@[simp] theorem modGang_rng : (s.modGang g fGang).rng = s.rng := rfl
@[simp] theorem modSource_rng : (s.modSource n fSource).rng = s.rng := by rfl
@[simp] theorem modSession_rng : (s.modSession k fSession).rng = s.rng := rfl
@[simp] theorem modTeller_rng : (s.modTeller fTeller).rng = s.rng := by rfl
@[simp] theorem modCtx_rng : (s.modCtx c fCtx).rng = s.rng := rfl
@[simp] theorem modEng_rng : (s.modEng e fEng).rng = s.rng := by rfl
@[simp] theorem modCoil_rng : (s.modCoil e k fCoil).rng = s.rng := rfl
@[simp] theorem modLoop_rng : (s.modLoop e fLoop).rng = s.rng := by rfl
@[simp] theorem modInput_rng : (s.modInput n fInput).rng = s.rng := rfl
@[simp] theorem modCos_rng : (s.modCos k fCos).rng = s.rng := by rfl
@[simp] theorem modPort_rng : (s.modPort p fPort).rng = s.rng := rfl
@[simp] theorem modStream_rng : (s.modStream k fStream).rng = s.rng := by rfl
@[simp] theorem modCan_rng : (s.modCan k fCan).rng = s.rng := rfl
@[simp] theorem modLin_rng : (s.modLin k fLin).rng = s.rng := by rfl
@[simp] theorem modT1s_rng : (s.modT1s k fT1s).rng = s.rng := rfl
@[simp] theorem modIso_rng : (s.modIso k fIso).rng = s.rng := by rfl
@[simp] theorem modTally_rng : (s.modTally fTally).rng = s.rng := rfl
@[simp] theorem modAccess_rng : (s.modAccess fAccess).rng = s.rng := by rfl
@[simp] theorem modUpdate_rng : (s.modUpdate fUpdate).rng = s.rng := rfl
@[simp] theorem send_rng : (s.send x).rng = s.rng := by rfl
@[simp] theorem open_rng : (s.open_.2).rng = s.rng := rfl
@[simp] theorem keep_rng : (s.keep t).rng = t.rng := by rfl

/-! ### free -/

@[simp] theorem wr_free : (s.wr i j v).free = s.free := by rfl
@[simp] theorem modCell_free : (s.modCell n fCell).free = s.free := rfl
@[simp] theorem modBank_free : (s.modBank b fBank).free = s.free := by rfl
@[simp] theorem modGang_free : (s.modGang g fGang).free = s.free := rfl
@[simp] theorem modSource_free : (s.modSource n fSource).free = s.free := by rfl
@[simp] theorem modSession_free : (s.modSession k fSession).free = s.free := rfl
@[simp] theorem modTeller_free : (s.modTeller fTeller).free = s.free := by rfl
@[simp] theorem modCtx_free : (s.modCtx c fCtx).free = s.free := rfl
@[simp] theorem modEng_free : (s.modEng e fEng).free = s.free := by rfl
@[simp] theorem modCoil_free : (s.modCoil e k fCoil).free = s.free := rfl
@[simp] theorem modLoop_free : (s.modLoop e fLoop).free = s.free := by rfl
@[simp] theorem modInput_free : (s.modInput n fInput).free = s.free := rfl
@[simp] theorem modCos_free : (s.modCos k fCos).free = s.free := by rfl
@[simp] theorem modPort_free : (s.modPort p fPort).free = s.free := rfl
@[simp] theorem modStream_free : (s.modStream k fStream).free = s.free := by rfl
@[simp] theorem modCan_free : (s.modCan k fCan).free = s.free := rfl
@[simp] theorem modLin_free : (s.modLin k fLin).free = s.free := by rfl
@[simp] theorem modT1s_free : (s.modT1s k fT1s).free = s.free := rfl
@[simp] theorem modIso_free : (s.modIso k fIso).free = s.free := by rfl
@[simp] theorem modTally_free : (s.modTally fTally).free = s.free := rfl
@[simp] theorem modAccess_free : (s.modAccess fAccess).free = s.free := by rfl
@[simp] theorem modUpdate_free : (s.modUpdate fUpdate).free = s.free := rfl
@[simp] theorem send_free : (s.send x).free = s.free := by rfl
@[simp] theorem draw_free : (s.draw.2).free = s.free := rfl
@[simp] theorem keep_free : (s.keep t).free = t.free := by rfl

/-! ### power -/

@[simp] theorem wr_power : (s.wr i j v).power = s.power := by rfl
@[simp] theorem modCell_power : (s.modCell n fCell).power = s.power := rfl
@[simp] theorem modBank_power : (s.modBank b fBank).power = s.power := by rfl
@[simp] theorem modGang_power : (s.modGang g fGang).power = s.power := rfl
@[simp] theorem modSource_power : (s.modSource n fSource).power = s.power := by rfl
@[simp] theorem modSession_power : (s.modSession k fSession).power = s.power := rfl
@[simp] theorem modTeller_power : (s.modTeller fTeller).power = s.power := by rfl
@[simp] theorem modCtx_power : (s.modCtx c fCtx).power = s.power := rfl
@[simp] theorem modEng_power : (s.modEng e fEng).power = s.power := by rfl
@[simp] theorem modCoil_power : (s.modCoil e k fCoil).power = s.power := rfl
@[simp] theorem modLoop_power : (s.modLoop e fLoop).power = s.power := by rfl
@[simp] theorem modInput_power : (s.modInput n fInput).power = s.power := rfl
@[simp] theorem modCos_power : (s.modCos k fCos).power = s.power := by rfl
@[simp] theorem modPort_power : (s.modPort p fPort).power = s.power := rfl
@[simp] theorem modStream_power : (s.modStream k fStream).power = s.power := by rfl
@[simp] theorem modCan_power : (s.modCan k fCan).power = s.power := rfl
@[simp] theorem modLin_power : (s.modLin k fLin).power = s.power := by rfl
@[simp] theorem modT1s_power : (s.modT1s k fT1s).power = s.power := rfl
@[simp] theorem modIso_power : (s.modIso k fIso).power = s.power := by rfl
@[simp] theorem modTally_power : (s.modTally fTally).power = s.power := rfl
@[simp] theorem modAccess_power : (s.modAccess fAccess).power = s.power := by rfl
@[simp] theorem modUpdate_power : (s.modUpdate fUpdate).power = s.power := rfl
@[simp] theorem send_power : (s.send x).power = s.power := by rfl
@[simp] theorem draw_power : (s.draw.2).power = s.power := rfl
@[simp] theorem open_power : (s.open_.2).power = s.power := by rfl
@[simp] theorem keep_power : (s.keep t).power = t.power := rfl

/-! ### escrowFirst -/

@[simp] theorem wr_escrowFirst : (s.wr i j v).escrowFirst = s.escrowFirst := by rfl
@[simp] theorem modCell_escrowFirst : (s.modCell n fCell).escrowFirst = s.escrowFirst := rfl
@[simp] theorem modBank_escrowFirst : (s.modBank b fBank).escrowFirst = s.escrowFirst := by rfl
@[simp] theorem modGang_escrowFirst : (s.modGang g fGang).escrowFirst = s.escrowFirst := rfl
@[simp] theorem modSource_escrowFirst : (s.modSource n fSource).escrowFirst = s.escrowFirst := by rfl
@[simp] theorem modSession_escrowFirst : (s.modSession k fSession).escrowFirst = s.escrowFirst := rfl
@[simp] theorem modTeller_escrowFirst : (s.modTeller fTeller).escrowFirst = s.escrowFirst := by rfl
@[simp] theorem modCtx_escrowFirst : (s.modCtx c fCtx).escrowFirst = s.escrowFirst := rfl
@[simp] theorem modEng_escrowFirst : (s.modEng e fEng).escrowFirst = s.escrowFirst := by rfl
@[simp] theorem modCoil_escrowFirst : (s.modCoil e k fCoil).escrowFirst = s.escrowFirst := rfl
@[simp] theorem modLoop_escrowFirst : (s.modLoop e fLoop).escrowFirst = s.escrowFirst := by rfl
@[simp] theorem modInput_escrowFirst : (s.modInput n fInput).escrowFirst = s.escrowFirst := rfl
@[simp] theorem modCos_escrowFirst : (s.modCos k fCos).escrowFirst = s.escrowFirst := by rfl
@[simp] theorem modPort_escrowFirst : (s.modPort p fPort).escrowFirst = s.escrowFirst := rfl
@[simp] theorem modStream_escrowFirst : (s.modStream k fStream).escrowFirst = s.escrowFirst := by rfl
@[simp] theorem modCan_escrowFirst : (s.modCan k fCan).escrowFirst = s.escrowFirst := rfl
@[simp] theorem modLin_escrowFirst : (s.modLin k fLin).escrowFirst = s.escrowFirst := by rfl
@[simp] theorem modT1s_escrowFirst : (s.modT1s k fT1s).escrowFirst = s.escrowFirst := rfl
@[simp] theorem modIso_escrowFirst : (s.modIso k fIso).escrowFirst = s.escrowFirst := by rfl
@[simp] theorem modTally_escrowFirst : (s.modTally fTally).escrowFirst = s.escrowFirst := rfl
@[simp] theorem modAccess_escrowFirst : (s.modAccess fAccess).escrowFirst = s.escrowFirst := by rfl
@[simp] theorem modUpdate_escrowFirst : (s.modUpdate fUpdate).escrowFirst = s.escrowFirst := rfl
@[simp] theorem send_escrowFirst : (s.send x).escrowFirst = s.escrowFirst := by rfl
@[simp] theorem draw_escrowFirst : (s.draw.2).escrowFirst = s.escrowFirst := rfl
@[simp] theorem open_escrowFirst : (s.open_.2).escrowFirst = s.escrowFirst := by rfl
@[simp] theorem keep_escrowFirst : (s.keep t).escrowFirst = t.escrowFirst := rfl

/-! ### coils -/

@[simp] theorem wr_coils : (s.wr i j v).coils = s.coils := by rfl
@[simp] theorem modCell_coils : (s.modCell n fCell).coils = s.coils := rfl
@[simp] theorem modBank_coils : (s.modBank b fBank).coils = s.coils := by rfl
@[simp] theorem modGang_coils : (s.modGang g fGang).coils = s.coils := rfl
@[simp] theorem modSource_coils : (s.modSource n fSource).coils = s.coils := by rfl
@[simp] theorem modSession_coils : (s.modSession k fSession).coils = s.coils := rfl
@[simp] theorem modTeller_coils : (s.modTeller fTeller).coils = s.coils := by rfl
@[simp] theorem modCtx_coils : (s.modCtx c fCtx).coils = s.coils := rfl
@[simp] theorem modEng_coils : (s.modEng e fEng).coils = s.coils := by rfl
@[simp] theorem modLoop_coils : (s.modLoop e fLoop).coils = s.coils := rfl
@[simp] theorem modInput_coils : (s.modInput n fInput).coils = s.coils := by rfl
@[simp] theorem modCos_coils : (s.modCos k fCos).coils = s.coils := rfl
@[simp] theorem modPort_coils : (s.modPort p fPort).coils = s.coils := by rfl
@[simp] theorem modStream_coils : (s.modStream k fStream).coils = s.coils := rfl
@[simp] theorem modCan_coils : (s.modCan k fCan).coils = s.coils := by rfl
@[simp] theorem modLin_coils : (s.modLin k fLin).coils = s.coils := rfl
@[simp] theorem modT1s_coils : (s.modT1s k fT1s).coils = s.coils := by rfl
@[simp] theorem modIso_coils : (s.modIso k fIso).coils = s.coils := rfl
@[simp] theorem modTally_coils : (s.modTally fTally).coils = s.coils := by rfl
@[simp] theorem modAccess_coils : (s.modAccess fAccess).coils = s.coils := rfl
@[simp] theorem modUpdate_coils : (s.modUpdate fUpdate).coils = s.coils := by rfl
@[simp] theorem send_coils : (s.send x).coils = s.coils := rfl
@[simp] theorem draw_coils : (s.draw.2).coils = s.coils := by rfl
@[simp] theorem open_coils : (s.open_.2).coils = s.coils := rfl
@[simp] theorem keep_coils : (s.keep t).coils = t.coils := by rfl

/-! ### coilTrigs -/

@[simp] theorem wr_coilTrigs : (s.wr i j v).coilTrigs = s.coilTrigs := by rfl
@[simp] theorem modCell_coilTrigs : (s.modCell n fCell).coilTrigs = s.coilTrigs := rfl
@[simp] theorem modBank_coilTrigs : (s.modBank b fBank).coilTrigs = s.coilTrigs := by rfl
@[simp] theorem modGang_coilTrigs : (s.modGang g fGang).coilTrigs = s.coilTrigs := rfl
@[simp] theorem modSource_coilTrigs : (s.modSource n fSource).coilTrigs = s.coilTrigs := by rfl
@[simp] theorem modSession_coilTrigs : (s.modSession k fSession).coilTrigs = s.coilTrigs := rfl
@[simp] theorem modTeller_coilTrigs : (s.modTeller fTeller).coilTrigs = s.coilTrigs := by rfl
@[simp] theorem modCtx_coilTrigs : (s.modCtx c fCtx).coilTrigs = s.coilTrigs := rfl
@[simp] theorem modEng_coilTrigs : (s.modEng e fEng).coilTrigs = s.coilTrigs := by rfl
@[simp] theorem modCoil_coilTrigs : (s.modCoil e k fCoil).coilTrigs = s.coilTrigs := rfl
@[simp] theorem modLoop_coilTrigs : (s.modLoop e fLoop).coilTrigs = s.coilTrigs := by rfl
@[simp] theorem modInput_coilTrigs : (s.modInput n fInput).coilTrigs = s.coilTrigs := rfl
@[simp] theorem modCos_coilTrigs : (s.modCos k fCos).coilTrigs = s.coilTrigs := by rfl
@[simp] theorem modPort_coilTrigs : (s.modPort p fPort).coilTrigs = s.coilTrigs := rfl
@[simp] theorem modStream_coilTrigs : (s.modStream k fStream).coilTrigs = s.coilTrigs := by rfl
@[simp] theorem modCan_coilTrigs : (s.modCan k fCan).coilTrigs = s.coilTrigs := rfl
@[simp] theorem modLin_coilTrigs : (s.modLin k fLin).coilTrigs = s.coilTrigs := by rfl
@[simp] theorem modT1s_coilTrigs : (s.modT1s k fT1s).coilTrigs = s.coilTrigs := rfl
@[simp] theorem modIso_coilTrigs : (s.modIso k fIso).coilTrigs = s.coilTrigs := by rfl
@[simp] theorem modTally_coilTrigs : (s.modTally fTally).coilTrigs = s.coilTrigs := rfl
@[simp] theorem modAccess_coilTrigs : (s.modAccess fAccess).coilTrigs = s.coilTrigs := by rfl
@[simp] theorem modUpdate_coilTrigs : (s.modUpdate fUpdate).coilTrigs = s.coilTrigs := rfl
@[simp] theorem send_coilTrigs : (s.send x).coilTrigs = s.coilTrigs := by rfl
@[simp] theorem draw_coilTrigs : (s.draw.2).coilTrigs = s.coilTrigs := rfl
@[simp] theorem open_coilTrigs : (s.open_.2).coilTrigs = s.coilTrigs := by rfl
@[simp] theorem keep_coilTrigs : (s.keep t).coilTrigs = t.coilTrigs := rfl

/-! ### loops -/

@[simp] theorem wr_loops : (s.wr i j v).loops = s.loops := by rfl
@[simp] theorem modCell_loops : (s.modCell n fCell).loops = s.loops := rfl
@[simp] theorem modBank_loops : (s.modBank b fBank).loops = s.loops := by rfl
@[simp] theorem modGang_loops : (s.modGang g fGang).loops = s.loops := rfl
@[simp] theorem modSource_loops : (s.modSource n fSource).loops = s.loops := by rfl
@[simp] theorem modSession_loops : (s.modSession k fSession).loops = s.loops := rfl
@[simp] theorem modTeller_loops : (s.modTeller fTeller).loops = s.loops := by rfl
@[simp] theorem modCtx_loops : (s.modCtx c fCtx).loops = s.loops := rfl
@[simp] theorem modEng_loops : (s.modEng e fEng).loops = s.loops := by rfl
@[simp] theorem modCoil_loops : (s.modCoil e k fCoil).loops = s.loops := rfl
@[simp] theorem modInput_loops : (s.modInput n fInput).loops = s.loops := by rfl
@[simp] theorem modCos_loops : (s.modCos k fCos).loops = s.loops := rfl
@[simp] theorem modPort_loops : (s.modPort p fPort).loops = s.loops := by rfl
@[simp] theorem modStream_loops : (s.modStream k fStream).loops = s.loops := rfl
@[simp] theorem modCan_loops : (s.modCan k fCan).loops = s.loops := by rfl
@[simp] theorem modLin_loops : (s.modLin k fLin).loops = s.loops := rfl
@[simp] theorem modT1s_loops : (s.modT1s k fT1s).loops = s.loops := by rfl
@[simp] theorem modIso_loops : (s.modIso k fIso).loops = s.loops := rfl
@[simp] theorem modTally_loops : (s.modTally fTally).loops = s.loops := by rfl
@[simp] theorem modAccess_loops : (s.modAccess fAccess).loops = s.loops := rfl
@[simp] theorem modUpdate_loops : (s.modUpdate fUpdate).loops = s.loops := by rfl
@[simp] theorem send_loops : (s.send x).loops = s.loops := rfl
@[simp] theorem draw_loops : (s.draw.2).loops = s.loops := by rfl
@[simp] theorem open_loops : (s.open_.2).loops = s.loops := rfl
@[simp] theorem keep_loops : (s.keep t).loops = t.loops := by rfl

/-! ### inputs -/

@[simp] theorem wr_inputs : (s.wr i j v).inputs = s.inputs := by rfl
@[simp] theorem modCell_inputs : (s.modCell n fCell).inputs = s.inputs := rfl
@[simp] theorem modBank_inputs : (s.modBank b fBank).inputs = s.inputs := by rfl
@[simp] theorem modGang_inputs : (s.modGang g fGang).inputs = s.inputs := rfl
@[simp] theorem modSource_inputs : (s.modSource n fSource).inputs = s.inputs := by rfl
@[simp] theorem modSession_inputs : (s.modSession k fSession).inputs = s.inputs := rfl
@[simp] theorem modTeller_inputs : (s.modTeller fTeller).inputs = s.inputs := by rfl
@[simp] theorem modCtx_inputs : (s.modCtx c fCtx).inputs = s.inputs := rfl
@[simp] theorem modEng_inputs : (s.modEng e fEng).inputs = s.inputs := by rfl
@[simp] theorem modCoil_inputs : (s.modCoil e k fCoil).inputs = s.inputs := rfl
@[simp] theorem modLoop_inputs : (s.modLoop e fLoop).inputs = s.inputs := by rfl
@[simp] theorem modCos_inputs : (s.modCos k fCos).inputs = s.inputs := rfl
@[simp] theorem modPort_inputs : (s.modPort p fPort).inputs = s.inputs := by rfl
@[simp] theorem modStream_inputs : (s.modStream k fStream).inputs = s.inputs := rfl
@[simp] theorem modCan_inputs : (s.modCan k fCan).inputs = s.inputs := by rfl
@[simp] theorem modLin_inputs : (s.modLin k fLin).inputs = s.inputs := rfl
@[simp] theorem modT1s_inputs : (s.modT1s k fT1s).inputs = s.inputs := by rfl
@[simp] theorem modIso_inputs : (s.modIso k fIso).inputs = s.inputs := rfl
@[simp] theorem modTally_inputs : (s.modTally fTally).inputs = s.inputs := by rfl
@[simp] theorem modAccess_inputs : (s.modAccess fAccess).inputs = s.inputs := rfl
@[simp] theorem modUpdate_inputs : (s.modUpdate fUpdate).inputs = s.inputs := by rfl
@[simp] theorem send_inputs : (s.send x).inputs = s.inputs := rfl
@[simp] theorem draw_inputs : (s.draw.2).inputs = s.inputs := by rfl
@[simp] theorem open_inputs : (s.open_.2).inputs = s.inputs := rfl
@[simp] theorem keep_inputs : (s.keep t).inputs = t.inputs := by rfl

/-! ### cos -/

@[simp] theorem wr_cos : (s.wr i j v).cos = s.cos := by rfl
@[simp] theorem modCell_cos : (s.modCell n fCell).cos = s.cos := rfl
@[simp] theorem modBank_cos : (s.modBank b fBank).cos = s.cos := by rfl
@[simp] theorem modGang_cos : (s.modGang g fGang).cos = s.cos := rfl
@[simp] theorem modSource_cos : (s.modSource n fSource).cos = s.cos := by rfl
@[simp] theorem modSession_cos : (s.modSession k fSession).cos = s.cos := rfl
@[simp] theorem modTeller_cos : (s.modTeller fTeller).cos = s.cos := by rfl
@[simp] theorem modCtx_cos : (s.modCtx c fCtx).cos = s.cos := rfl
@[simp] theorem modEng_cos : (s.modEng e fEng).cos = s.cos := by rfl
@[simp] theorem modCoil_cos : (s.modCoil e k fCoil).cos = s.cos := rfl
@[simp] theorem modLoop_cos : (s.modLoop e fLoop).cos = s.cos := by rfl
@[simp] theorem modInput_cos : (s.modInput n fInput).cos = s.cos := rfl
@[simp] theorem modPort_cos : (s.modPort p fPort).cos = s.cos := by rfl
@[simp] theorem modStream_cos : (s.modStream k fStream).cos = s.cos := rfl
@[simp] theorem modCan_cos : (s.modCan k fCan).cos = s.cos := by rfl
@[simp] theorem modLin_cos : (s.modLin k fLin).cos = s.cos := rfl
@[simp] theorem modT1s_cos : (s.modT1s k fT1s).cos = s.cos := by rfl
@[simp] theorem modIso_cos : (s.modIso k fIso).cos = s.cos := rfl
@[simp] theorem modTally_cos : (s.modTally fTally).cos = s.cos := by rfl
@[simp] theorem modAccess_cos : (s.modAccess fAccess).cos = s.cos := rfl
@[simp] theorem modUpdate_cos : (s.modUpdate fUpdate).cos = s.cos := by rfl
@[simp] theorem send_cos : (s.send x).cos = s.cos := rfl
@[simp] theorem draw_cos : (s.draw.2).cos = s.cos := by rfl
@[simp] theorem open_cos : (s.open_.2).cos = s.cos := rfl
@[simp] theorem keep_cos : (s.keep t).cos = t.cos := by rfl

/-! ### ctxs -/

@[simp] theorem wr_ctxs : (s.wr i j v).ctxs = s.ctxs := by rfl
@[simp] theorem modCell_ctxs : (s.modCell n fCell).ctxs = s.ctxs := rfl
@[simp] theorem modBank_ctxs : (s.modBank b fBank).ctxs = s.ctxs := by rfl
@[simp] theorem modGang_ctxs : (s.modGang g fGang).ctxs = s.ctxs := rfl
@[simp] theorem modSource_ctxs : (s.modSource n fSource).ctxs = s.ctxs := by rfl
@[simp] theorem modSession_ctxs : (s.modSession k fSession).ctxs = s.ctxs := rfl
@[simp] theorem modTeller_ctxs : (s.modTeller fTeller).ctxs = s.ctxs := by rfl
@[simp] theorem modEng_ctxs : (s.modEng e fEng).ctxs = s.ctxs := rfl
@[simp] theorem modCoil_ctxs : (s.modCoil e k fCoil).ctxs = s.ctxs := by rfl
@[simp] theorem modLoop_ctxs : (s.modLoop e fLoop).ctxs = s.ctxs := rfl
@[simp] theorem modInput_ctxs : (s.modInput n fInput).ctxs = s.ctxs := by rfl
@[simp] theorem modCos_ctxs : (s.modCos k fCos).ctxs = s.ctxs := rfl
@[simp] theorem modPort_ctxs : (s.modPort p fPort).ctxs = s.ctxs := by rfl
@[simp] theorem modStream_ctxs : (s.modStream k fStream).ctxs = s.ctxs := rfl
@[simp] theorem modCan_ctxs : (s.modCan k fCan).ctxs = s.ctxs := by rfl
@[simp] theorem modLin_ctxs : (s.modLin k fLin).ctxs = s.ctxs := rfl
@[simp] theorem modT1s_ctxs : (s.modT1s k fT1s).ctxs = s.ctxs := by rfl
@[simp] theorem modIso_ctxs : (s.modIso k fIso).ctxs = s.ctxs := rfl
@[simp] theorem modTally_ctxs : (s.modTally fTally).ctxs = s.ctxs := by rfl
@[simp] theorem modAccess_ctxs : (s.modAccess fAccess).ctxs = s.ctxs := rfl
@[simp] theorem modUpdate_ctxs : (s.modUpdate fUpdate).ctxs = s.ctxs := by rfl
@[simp] theorem send_ctxs : (s.send x).ctxs = s.ctxs := rfl
@[simp] theorem draw_ctxs : (s.draw.2).ctxs = s.ctxs := by rfl
@[simp] theorem open_ctxs : (s.open_.2).ctxs = s.ctxs := rfl
@[simp] theorem keep_ctxs : (s.keep t).ctxs = t.ctxs := by rfl

/-! ### engines -/

@[simp] theorem wr_engines : (s.wr i j v).engines = s.engines := by rfl
@[simp] theorem modCell_engines : (s.modCell n fCell).engines = s.engines := rfl
@[simp] theorem modBank_engines : (s.modBank b fBank).engines = s.engines := by rfl
@[simp] theorem modGang_engines : (s.modGang g fGang).engines = s.engines := rfl
@[simp] theorem modSource_engines : (s.modSource n fSource).engines = s.engines := by rfl
@[simp] theorem modSession_engines : (s.modSession k fSession).engines = s.engines := rfl
@[simp] theorem modTeller_engines : (s.modTeller fTeller).engines = s.engines := by rfl
@[simp] theorem modCtx_engines : (s.modCtx c fCtx).engines = s.engines := rfl
@[simp] theorem modCoil_engines : (s.modCoil e k fCoil).engines = s.engines := by rfl
@[simp] theorem modLoop_engines : (s.modLoop e fLoop).engines = s.engines := rfl
@[simp] theorem modInput_engines : (s.modInput n fInput).engines = s.engines := by rfl
@[simp] theorem modCos_engines : (s.modCos k fCos).engines = s.engines := rfl
@[simp] theorem modPort_engines : (s.modPort p fPort).engines = s.engines := by rfl
@[simp] theorem modStream_engines : (s.modStream k fStream).engines = s.engines := rfl
@[simp] theorem modCan_engines : (s.modCan k fCan).engines = s.engines := by rfl
@[simp] theorem modLin_engines : (s.modLin k fLin).engines = s.engines := rfl
@[simp] theorem modT1s_engines : (s.modT1s k fT1s).engines = s.engines := by rfl
@[simp] theorem modIso_engines : (s.modIso k fIso).engines = s.engines := rfl
@[simp] theorem modTally_engines : (s.modTally fTally).engines = s.engines := by rfl
@[simp] theorem modAccess_engines : (s.modAccess fAccess).engines = s.engines := rfl
@[simp] theorem modUpdate_engines : (s.modUpdate fUpdate).engines = s.engines := by rfl
@[simp] theorem send_engines : (s.send x).engines = s.engines := rfl
@[simp] theorem draw_engines : (s.draw.2).engines = s.engines := by rfl
@[simp] theorem open_engines : (s.open_.2).engines = s.engines := rfl
@[simp] theorem keep_engines : (s.keep t).engines = t.engines := by rfl

/-! ### dmem -/

@[simp] theorem wr_dmem : (s.wr i j v).dmem = s.dmem := by rfl
@[simp] theorem modCell_dmem : (s.modCell n fCell).dmem = s.dmem := rfl
@[simp] theorem modBank_dmem : (s.modBank b fBank).dmem = s.dmem := by rfl
@[simp] theorem modGang_dmem : (s.modGang g fGang).dmem = s.dmem := rfl
@[simp] theorem modSource_dmem : (s.modSource n fSource).dmem = s.dmem := by rfl
@[simp] theorem modSession_dmem : (s.modSession k fSession).dmem = s.dmem := rfl
@[simp] theorem modTeller_dmem : (s.modTeller fTeller).dmem = s.dmem := by rfl
@[simp] theorem modCtx_dmem : (s.modCtx c fCtx).dmem = s.dmem := rfl
@[simp] theorem modEng_dmem : (s.modEng e fEng).dmem = s.dmem := by rfl
@[simp] theorem modCoil_dmem : (s.modCoil e k fCoil).dmem = s.dmem := rfl
@[simp] theorem modLoop_dmem : (s.modLoop e fLoop).dmem = s.dmem := by rfl
@[simp] theorem modInput_dmem : (s.modInput n fInput).dmem = s.dmem := rfl
@[simp] theorem modCos_dmem : (s.modCos k fCos).dmem = s.dmem := by rfl
@[simp] theorem modPort_dmem : (s.modPort p fPort).dmem = s.dmem := rfl
@[simp] theorem modStream_dmem : (s.modStream k fStream).dmem = s.dmem := by rfl
@[simp] theorem modCan_dmem : (s.modCan k fCan).dmem = s.dmem := rfl
@[simp] theorem modLin_dmem : (s.modLin k fLin).dmem = s.dmem := by rfl
@[simp] theorem modT1s_dmem : (s.modT1s k fT1s).dmem = s.dmem := rfl
@[simp] theorem modIso_dmem : (s.modIso k fIso).dmem = s.dmem := by rfl
@[simp] theorem modTally_dmem : (s.modTally fTally).dmem = s.dmem := rfl
@[simp] theorem modAccess_dmem : (s.modAccess fAccess).dmem = s.dmem := by rfl
@[simp] theorem modUpdate_dmem : (s.modUpdate fUpdate).dmem = s.dmem := rfl
@[simp] theorem send_dmem : (s.send x).dmem = s.dmem := by rfl
@[simp] theorem draw_dmem : (s.draw.2).dmem = s.dmem := rfl
@[simp] theorem open_dmem : (s.open_.2).dmem = s.dmem := by rfl
@[simp] theorem keep_dmem : (s.keep t).dmem = t.dmem := rfl

/-! ### smem -/

@[simp] theorem wr_smem : (s.wr i j v).smem = s.smem := by rfl
@[simp] theorem modCell_smem : (s.modCell n fCell).smem = s.smem := rfl
@[simp] theorem modBank_smem : (s.modBank b fBank).smem = s.smem := by rfl
@[simp] theorem modGang_smem : (s.modGang g fGang).smem = s.smem := rfl
@[simp] theorem modSource_smem : (s.modSource n fSource).smem = s.smem := by rfl
@[simp] theorem modSession_smem : (s.modSession k fSession).smem = s.smem := rfl
@[simp] theorem modTeller_smem : (s.modTeller fTeller).smem = s.smem := by rfl
@[simp] theorem modCtx_smem : (s.modCtx c fCtx).smem = s.smem := rfl
@[simp] theorem modEng_smem : (s.modEng e fEng).smem = s.smem := by rfl
@[simp] theorem modCoil_smem : (s.modCoil e k fCoil).smem = s.smem := rfl
@[simp] theorem modLoop_smem : (s.modLoop e fLoop).smem = s.smem := by rfl
@[simp] theorem modInput_smem : (s.modInput n fInput).smem = s.smem := rfl
@[simp] theorem modCos_smem : (s.modCos k fCos).smem = s.smem := by rfl
@[simp] theorem modPort_smem : (s.modPort p fPort).smem = s.smem := rfl
@[simp] theorem modStream_smem : (s.modStream k fStream).smem = s.smem := by rfl
@[simp] theorem modCan_smem : (s.modCan k fCan).smem = s.smem := rfl
@[simp] theorem modLin_smem : (s.modLin k fLin).smem = s.smem := by rfl
@[simp] theorem modT1s_smem : (s.modT1s k fT1s).smem = s.smem := rfl
@[simp] theorem modIso_smem : (s.modIso k fIso).smem = s.smem := by rfl
@[simp] theorem modTally_smem : (s.modTally fTally).smem = s.smem := rfl
@[simp] theorem modAccess_smem : (s.modAccess fAccess).smem = s.smem := by rfl
@[simp] theorem modUpdate_smem : (s.modUpdate fUpdate).smem = s.smem := rfl
@[simp] theorem send_smem : (s.send x).smem = s.smem := by rfl
@[simp] theorem draw_smem : (s.draw.2).smem = s.smem := rfl
@[simp] theorem open_smem : (s.open_.2).smem = s.smem := by rfl
@[simp] theorem keep_smem : (s.keep t).smem = t.smem := rfl

/-! ### pmem -/

@[simp] theorem wr_pmem : (s.wr i j v).pmem = s.pmem := by rfl
@[simp] theorem modCell_pmem : (s.modCell n fCell).pmem = s.pmem := rfl
@[simp] theorem modBank_pmem : (s.modBank b fBank).pmem = s.pmem := by rfl
@[simp] theorem modGang_pmem : (s.modGang g fGang).pmem = s.pmem := rfl
@[simp] theorem modSource_pmem : (s.modSource n fSource).pmem = s.pmem := by rfl
@[simp] theorem modSession_pmem : (s.modSession k fSession).pmem = s.pmem := rfl
@[simp] theorem modTeller_pmem : (s.modTeller fTeller).pmem = s.pmem := by rfl
@[simp] theorem modCtx_pmem : (s.modCtx c fCtx).pmem = s.pmem := rfl
@[simp] theorem modEng_pmem : (s.modEng e fEng).pmem = s.pmem := by rfl
@[simp] theorem modCoil_pmem : (s.modCoil e k fCoil).pmem = s.pmem := rfl
@[simp] theorem modLoop_pmem : (s.modLoop e fLoop).pmem = s.pmem := by rfl
@[simp] theorem modInput_pmem : (s.modInput n fInput).pmem = s.pmem := rfl
@[simp] theorem modCos_pmem : (s.modCos k fCos).pmem = s.pmem := by rfl
@[simp] theorem modPort_pmem : (s.modPort p fPort).pmem = s.pmem := rfl
@[simp] theorem modStream_pmem : (s.modStream k fStream).pmem = s.pmem := by rfl
@[simp] theorem modCan_pmem : (s.modCan k fCan).pmem = s.pmem := rfl
@[simp] theorem modLin_pmem : (s.modLin k fLin).pmem = s.pmem := by rfl
@[simp] theorem modT1s_pmem : (s.modT1s k fT1s).pmem = s.pmem := rfl
@[simp] theorem modIso_pmem : (s.modIso k fIso).pmem = s.pmem := by rfl
@[simp] theorem modTally_pmem : (s.modTally fTally).pmem = s.pmem := rfl
@[simp] theorem modAccess_pmem : (s.modAccess fAccess).pmem = s.pmem := by rfl
@[simp] theorem modUpdate_pmem : (s.modUpdate fUpdate).pmem = s.pmem := rfl
@[simp] theorem send_pmem : (s.send x).pmem = s.pmem := by rfl
@[simp] theorem draw_pmem : (s.draw.2).pmem = s.pmem := rfl
@[simp] theorem open_pmem : (s.open_.2).pmem = s.pmem := by rfl
@[simp] theorem keep_pmem : (s.keep t).pmem = t.pmem := rfl

/-! ### storedImages -/

@[simp] theorem wr_storedImages : (s.wr i j v).storedImages = s.storedImages := by rfl
@[simp] theorem modCell_storedImages : (s.modCell n fCell).storedImages = s.storedImages := rfl
@[simp] theorem modBank_storedImages : (s.modBank b fBank).storedImages = s.storedImages := by rfl
@[simp] theorem modGang_storedImages : (s.modGang g fGang).storedImages = s.storedImages := rfl
@[simp] theorem modSource_storedImages : (s.modSource n fSource).storedImages = s.storedImages := by rfl
@[simp] theorem modSession_storedImages : (s.modSession k fSession).storedImages = s.storedImages := rfl
@[simp] theorem modTeller_storedImages : (s.modTeller fTeller).storedImages = s.storedImages := by rfl
@[simp] theorem modCtx_storedImages : (s.modCtx c fCtx).storedImages = s.storedImages := rfl
@[simp] theorem modEng_storedImages : (s.modEng e fEng).storedImages = s.storedImages := by rfl
@[simp] theorem modCoil_storedImages : (s.modCoil e k fCoil).storedImages = s.storedImages := rfl
@[simp] theorem modLoop_storedImages : (s.modLoop e fLoop).storedImages = s.storedImages := by rfl
@[simp] theorem modInput_storedImages : (s.modInput n fInput).storedImages = s.storedImages := rfl
@[simp] theorem modCos_storedImages : (s.modCos k fCos).storedImages = s.storedImages := by rfl
@[simp] theorem modPort_storedImages : (s.modPort p fPort).storedImages = s.storedImages := rfl
@[simp] theorem modStream_storedImages : (s.modStream k fStream).storedImages = s.storedImages := by rfl
@[simp] theorem modCan_storedImages : (s.modCan k fCan).storedImages = s.storedImages := rfl
@[simp] theorem modLin_storedImages : (s.modLin k fLin).storedImages = s.storedImages := by rfl
@[simp] theorem modT1s_storedImages : (s.modT1s k fT1s).storedImages = s.storedImages := rfl
@[simp] theorem modIso_storedImages : (s.modIso k fIso).storedImages = s.storedImages := by rfl
@[simp] theorem modTally_storedImages : (s.modTally fTally).storedImages = s.storedImages := rfl
@[simp] theorem modAccess_storedImages : (s.modAccess fAccess).storedImages = s.storedImages := by rfl
@[simp] theorem modUpdate_storedImages : (s.modUpdate fUpdate).storedImages = s.storedImages := rfl
@[simp] theorem send_storedImages : (s.send x).storedImages = s.storedImages := by rfl
@[simp] theorem draw_storedImages : (s.draw.2).storedImages = s.storedImages := rfl
@[simp] theorem open_storedImages : (s.open_.2).storedImages = s.storedImages := by rfl
@[simp] theorem keep_storedImages : (s.keep t).storedImages = t.storedImages := rfl

/-! ### locks -/

@[simp] theorem wr_locks : (s.wr i j v).locks = s.locks := by rfl
@[simp] theorem modCell_locks : (s.modCell n fCell).locks = s.locks := rfl
@[simp] theorem modBank_locks : (s.modBank b fBank).locks = s.locks := by rfl
@[simp] theorem modGang_locks : (s.modGang g fGang).locks = s.locks := rfl
@[simp] theorem modSource_locks : (s.modSource n fSource).locks = s.locks := by rfl
@[simp] theorem modSession_locks : (s.modSession k fSession).locks = s.locks := rfl
@[simp] theorem modTeller_locks : (s.modTeller fTeller).locks = s.locks := by rfl
@[simp] theorem modCtx_locks : (s.modCtx c fCtx).locks = s.locks := rfl
@[simp] theorem modEng_locks : (s.modEng e fEng).locks = s.locks := by rfl
@[simp] theorem modCoil_locks : (s.modCoil e k fCoil).locks = s.locks := rfl
@[simp] theorem modLoop_locks : (s.modLoop e fLoop).locks = s.locks := by rfl
@[simp] theorem modInput_locks : (s.modInput n fInput).locks = s.locks := rfl
@[simp] theorem modCos_locks : (s.modCos k fCos).locks = s.locks := by rfl
@[simp] theorem modPort_locks : (s.modPort p fPort).locks = s.locks := rfl
@[simp] theorem modStream_locks : (s.modStream k fStream).locks = s.locks := by rfl
@[simp] theorem modCan_locks : (s.modCan k fCan).locks = s.locks := rfl
@[simp] theorem modLin_locks : (s.modLin k fLin).locks = s.locks := by rfl
@[simp] theorem modT1s_locks : (s.modT1s k fT1s).locks = s.locks := rfl
@[simp] theorem modIso_locks : (s.modIso k fIso).locks = s.locks := by rfl
@[simp] theorem modTally_locks : (s.modTally fTally).locks = s.locks := rfl
@[simp] theorem modAccess_locks : (s.modAccess fAccess).locks = s.locks := by rfl
@[simp] theorem modUpdate_locks : (s.modUpdate fUpdate).locks = s.locks := rfl
@[simp] theorem send_locks : (s.send x).locks = s.locks := by rfl
@[simp] theorem draw_locks : (s.draw.2).locks = s.locks := rfl
@[simp] theorem open_locks : (s.open_.2).locks = s.locks := by rfl
@[simp] theorem keep_locks : (s.keep t).locks = t.locks := rfl

/-! ### load -/

@[simp] theorem wr_load : (s.wr i j v).load = s.load := by rfl
@[simp] theorem modCell_load : (s.modCell n fCell).load = s.load := rfl
@[simp] theorem modBank_load : (s.modBank b fBank).load = s.load := by rfl
@[simp] theorem modGang_load : (s.modGang g fGang).load = s.load := rfl
@[simp] theorem modSource_load : (s.modSource n fSource).load = s.load := by rfl
@[simp] theorem modSession_load : (s.modSession k fSession).load = s.load := rfl
@[simp] theorem modTeller_load : (s.modTeller fTeller).load = s.load := by rfl
@[simp] theorem modCtx_load : (s.modCtx c fCtx).load = s.load := rfl
@[simp] theorem modEng_load : (s.modEng e fEng).load = s.load := by rfl
@[simp] theorem modCoil_load : (s.modCoil e k fCoil).load = s.load := rfl
@[simp] theorem modLoop_load : (s.modLoop e fLoop).load = s.load := by rfl
@[simp] theorem modInput_load : (s.modInput n fInput).load = s.load := rfl
@[simp] theorem modCos_load : (s.modCos k fCos).load = s.load := by rfl
@[simp] theorem modPort_load : (s.modPort p fPort).load = s.load := rfl
@[simp] theorem modStream_load : (s.modStream k fStream).load = s.load := by rfl
@[simp] theorem modCan_load : (s.modCan k fCan).load = s.load := rfl
@[simp] theorem modLin_load : (s.modLin k fLin).load = s.load := by rfl
@[simp] theorem modT1s_load : (s.modT1s k fT1s).load = s.load := rfl
@[simp] theorem modIso_load : (s.modIso k fIso).load = s.load := by rfl
@[simp] theorem modTally_load : (s.modTally fTally).load = s.load := rfl
@[simp] theorem modAccess_load : (s.modAccess fAccess).load = s.load := by rfl
@[simp] theorem modUpdate_load : (s.modUpdate fUpdate).load = s.load := rfl
@[simp] theorem send_load : (s.send x).load = s.load := by rfl
@[simp] theorem draw_load : (s.draw.2).load = s.load := rfl
@[simp] theorem open_load : (s.open_.2).load = s.load := by rfl
@[simp] theorem keep_load : (s.keep t).load = t.load := rfl

/-! ### loadOk -/

@[simp] theorem wr_loadOk : (s.wr i j v).loadOk = s.loadOk := by rfl
@[simp] theorem modCell_loadOk : (s.modCell n fCell).loadOk = s.loadOk := rfl
@[simp] theorem modBank_loadOk : (s.modBank b fBank).loadOk = s.loadOk := by rfl
@[simp] theorem modGang_loadOk : (s.modGang g fGang).loadOk = s.loadOk := rfl
@[simp] theorem modSource_loadOk : (s.modSource n fSource).loadOk = s.loadOk := by rfl
@[simp] theorem modSession_loadOk : (s.modSession k fSession).loadOk = s.loadOk := rfl
@[simp] theorem modTeller_loadOk : (s.modTeller fTeller).loadOk = s.loadOk := by rfl
@[simp] theorem modCtx_loadOk : (s.modCtx c fCtx).loadOk = s.loadOk := rfl
@[simp] theorem modEng_loadOk : (s.modEng e fEng).loadOk = s.loadOk := by rfl
@[simp] theorem modCoil_loadOk : (s.modCoil e k fCoil).loadOk = s.loadOk := rfl
@[simp] theorem modLoop_loadOk : (s.modLoop e fLoop).loadOk = s.loadOk := by rfl
@[simp] theorem modInput_loadOk : (s.modInput n fInput).loadOk = s.loadOk := rfl
@[simp] theorem modCos_loadOk : (s.modCos k fCos).loadOk = s.loadOk := by rfl
@[simp] theorem modPort_loadOk : (s.modPort p fPort).loadOk = s.loadOk := rfl
@[simp] theorem modStream_loadOk : (s.modStream k fStream).loadOk = s.loadOk := by rfl
@[simp] theorem modCan_loadOk : (s.modCan k fCan).loadOk = s.loadOk := rfl
@[simp] theorem modLin_loadOk : (s.modLin k fLin).loadOk = s.loadOk := by rfl
@[simp] theorem modT1s_loadOk : (s.modT1s k fT1s).loadOk = s.loadOk := rfl
@[simp] theorem modIso_loadOk : (s.modIso k fIso).loadOk = s.loadOk := by rfl
@[simp] theorem modTally_loadOk : (s.modTally fTally).loadOk = s.loadOk := rfl
@[simp] theorem modAccess_loadOk : (s.modAccess fAccess).loadOk = s.loadOk := by rfl
@[simp] theorem modUpdate_loadOk : (s.modUpdate fUpdate).loadOk = s.loadOk := rfl
@[simp] theorem send_loadOk : (s.send x).loadOk = s.loadOk := by rfl
@[simp] theorem draw_loadOk : (s.draw.2).loadOk = s.loadOk := rfl
@[simp] theorem open_loadOk : (s.open_.2).loadOk = s.loadOk := by rfl
@[simp] theorem keep_loadOk : (s.keep t).loadOk = t.loadOk := rfl

/-! ### vault -/

@[simp] theorem wr_vault : (s.wr i j v).vault = s.vault := by rfl
@[simp] theorem modCell_vault : (s.modCell n fCell).vault = s.vault := rfl
@[simp] theorem modBank_vault : (s.modBank b fBank).vault = s.vault := by rfl
@[simp] theorem modGang_vault : (s.modGang g fGang).vault = s.vault := rfl
@[simp] theorem modSource_vault : (s.modSource n fSource).vault = s.vault := by rfl
@[simp] theorem modSession_vault : (s.modSession k fSession).vault = s.vault := rfl
@[simp] theorem modTeller_vault : (s.modTeller fTeller).vault = s.vault := by rfl
@[simp] theorem modCtx_vault : (s.modCtx c fCtx).vault = s.vault := rfl
@[simp] theorem modEng_vault : (s.modEng e fEng).vault = s.vault := by rfl
@[simp] theorem modCoil_vault : (s.modCoil e k fCoil).vault = s.vault := rfl
@[simp] theorem modLoop_vault : (s.modLoop e fLoop).vault = s.vault := by rfl
@[simp] theorem modInput_vault : (s.modInput n fInput).vault = s.vault := rfl
@[simp] theorem modCos_vault : (s.modCos k fCos).vault = s.vault := by rfl
@[simp] theorem modPort_vault : (s.modPort p fPort).vault = s.vault := rfl
@[simp] theorem modStream_vault : (s.modStream k fStream).vault = s.vault := by rfl
@[simp] theorem modCan_vault : (s.modCan k fCan).vault = s.vault := rfl
@[simp] theorem modLin_vault : (s.modLin k fLin).vault = s.vault := by rfl
@[simp] theorem modT1s_vault : (s.modT1s k fT1s).vault = s.vault := rfl
@[simp] theorem modIso_vault : (s.modIso k fIso).vault = s.vault := by rfl
@[simp] theorem modTally_vault : (s.modTally fTally).vault = s.vault := rfl
@[simp] theorem modAccess_vault : (s.modAccess fAccess).vault = s.vault := by rfl
@[simp] theorem modUpdate_vault : (s.modUpdate fUpdate).vault = s.vault := rfl
@[simp] theorem send_vault : (s.send x).vault = s.vault := by rfl
@[simp] theorem draw_vault : (s.draw.2).vault = s.vault := rfl
@[simp] theorem open_vault : (s.open_.2).vault = s.vault := by rfl
@[simp] theorem keep_vault : (s.keep t).vault = t.vault := rfl

/-! ### vaultNext -/

@[simp] theorem wr_vaultNext : (s.wr i j v).vaultNext = s.vaultNext := by rfl
@[simp] theorem modCell_vaultNext : (s.modCell n fCell).vaultNext = s.vaultNext := rfl
@[simp] theorem modBank_vaultNext : (s.modBank b fBank).vaultNext = s.vaultNext := by rfl
@[simp] theorem modGang_vaultNext : (s.modGang g fGang).vaultNext = s.vaultNext := rfl
@[simp] theorem modSource_vaultNext : (s.modSource n fSource).vaultNext = s.vaultNext := by rfl
@[simp] theorem modSession_vaultNext : (s.modSession k fSession).vaultNext = s.vaultNext := rfl
@[simp] theorem modTeller_vaultNext : (s.modTeller fTeller).vaultNext = s.vaultNext := by rfl
@[simp] theorem modCtx_vaultNext : (s.modCtx c fCtx).vaultNext = s.vaultNext := rfl
@[simp] theorem modEng_vaultNext : (s.modEng e fEng).vaultNext = s.vaultNext := by rfl
@[simp] theorem modCoil_vaultNext : (s.modCoil e k fCoil).vaultNext = s.vaultNext := rfl
@[simp] theorem modLoop_vaultNext : (s.modLoop e fLoop).vaultNext = s.vaultNext := by rfl
@[simp] theorem modInput_vaultNext : (s.modInput n fInput).vaultNext = s.vaultNext := rfl
@[simp] theorem modCos_vaultNext : (s.modCos k fCos).vaultNext = s.vaultNext := by rfl
@[simp] theorem modPort_vaultNext : (s.modPort p fPort).vaultNext = s.vaultNext := rfl
@[simp] theorem modStream_vaultNext : (s.modStream k fStream).vaultNext = s.vaultNext := by rfl
@[simp] theorem modCan_vaultNext : (s.modCan k fCan).vaultNext = s.vaultNext := rfl
@[simp] theorem modLin_vaultNext : (s.modLin k fLin).vaultNext = s.vaultNext := by rfl
@[simp] theorem modT1s_vaultNext : (s.modT1s k fT1s).vaultNext = s.vaultNext := rfl
@[simp] theorem modIso_vaultNext : (s.modIso k fIso).vaultNext = s.vaultNext := by rfl
@[simp] theorem modTally_vaultNext : (s.modTally fTally).vaultNext = s.vaultNext := rfl
@[simp] theorem modAccess_vaultNext : (s.modAccess fAccess).vaultNext = s.vaultNext := by rfl
@[simp] theorem modUpdate_vaultNext : (s.modUpdate fUpdate).vaultNext = s.vaultNext := rfl
@[simp] theorem send_vaultNext : (s.send x).vaultNext = s.vaultNext := by rfl
@[simp] theorem draw_vaultNext : (s.draw.2).vaultNext = s.vaultNext := rfl
@[simp] theorem open_vaultNext : (s.open_.2).vaultNext = s.vaultNext := by rfl
@[simp] theorem keep_vaultNext : (s.keep t).vaultNext = t.vaultNext := rfl

/-! ### poolDrawn -/

@[simp] theorem wr_poolDrawn : (s.wr i j v).poolDrawn = s.poolDrawn := by rfl
@[simp] theorem modCell_poolDrawn : (s.modCell n fCell).poolDrawn = s.poolDrawn := rfl
@[simp] theorem modBank_poolDrawn : (s.modBank b fBank).poolDrawn = s.poolDrawn := by rfl
@[simp] theorem modGang_poolDrawn : (s.modGang g fGang).poolDrawn = s.poolDrawn := rfl
@[simp] theorem modSource_poolDrawn : (s.modSource n fSource).poolDrawn = s.poolDrawn := by rfl
@[simp] theorem modSession_poolDrawn : (s.modSession k fSession).poolDrawn = s.poolDrawn := rfl
@[simp] theorem modTeller_poolDrawn : (s.modTeller fTeller).poolDrawn = s.poolDrawn := by rfl
@[simp] theorem modCtx_poolDrawn : (s.modCtx c fCtx).poolDrawn = s.poolDrawn := rfl
@[simp] theorem modEng_poolDrawn : (s.modEng e fEng).poolDrawn = s.poolDrawn := by rfl
@[simp] theorem modCoil_poolDrawn : (s.modCoil e k fCoil).poolDrawn = s.poolDrawn := rfl
@[simp] theorem modLoop_poolDrawn : (s.modLoop e fLoop).poolDrawn = s.poolDrawn := by rfl
@[simp] theorem modInput_poolDrawn : (s.modInput n fInput).poolDrawn = s.poolDrawn := rfl
@[simp] theorem modCos_poolDrawn : (s.modCos k fCos).poolDrawn = s.poolDrawn := by rfl
@[simp] theorem modPort_poolDrawn : (s.modPort p fPort).poolDrawn = s.poolDrawn := rfl
@[simp] theorem modStream_poolDrawn : (s.modStream k fStream).poolDrawn = s.poolDrawn := by rfl
@[simp] theorem modCan_poolDrawn : (s.modCan k fCan).poolDrawn = s.poolDrawn := rfl
@[simp] theorem modLin_poolDrawn : (s.modLin k fLin).poolDrawn = s.poolDrawn := by rfl
@[simp] theorem modT1s_poolDrawn : (s.modT1s k fT1s).poolDrawn = s.poolDrawn := rfl
@[simp] theorem modIso_poolDrawn : (s.modIso k fIso).poolDrawn = s.poolDrawn := by rfl
@[simp] theorem modTally_poolDrawn : (s.modTally fTally).poolDrawn = s.poolDrawn := rfl
@[simp] theorem modAccess_poolDrawn : (s.modAccess fAccess).poolDrawn = s.poolDrawn := by rfl
@[simp] theorem modUpdate_poolDrawn : (s.modUpdate fUpdate).poolDrawn = s.poolDrawn := rfl
@[simp] theorem send_poolDrawn : (s.send x).poolDrawn = s.poolDrawn := by rfl
@[simp] theorem draw_poolDrawn : (s.draw.2).poolDrawn = s.poolDrawn := rfl
@[simp] theorem open_poolDrawn : (s.open_.2).poolDrawn = s.poolDrawn := by rfl
@[simp] theorem keep_poolDrawn : (s.keep t).poolDrawn = t.poolDrawn := rfl

/-! ### classPool -/

@[simp] theorem wr_classPool : (s.wr i j v).classPool = s.classPool := by rfl
@[simp] theorem modCell_classPool : (s.modCell n fCell).classPool = s.classPool := rfl
@[simp] theorem modBank_classPool : (s.modBank b fBank).classPool = s.classPool := by rfl
@[simp] theorem modGang_classPool : (s.modGang g fGang).classPool = s.classPool := rfl
@[simp] theorem modSource_classPool : (s.modSource n fSource).classPool = s.classPool := by rfl
@[simp] theorem modSession_classPool : (s.modSession k fSession).classPool = s.classPool := rfl
@[simp] theorem modTeller_classPool : (s.modTeller fTeller).classPool = s.classPool := by rfl
@[simp] theorem modCtx_classPool : (s.modCtx c fCtx).classPool = s.classPool := rfl
@[simp] theorem modEng_classPool : (s.modEng e fEng).classPool = s.classPool := by rfl
@[simp] theorem modCoil_classPool : (s.modCoil e k fCoil).classPool = s.classPool := rfl
@[simp] theorem modLoop_classPool : (s.modLoop e fLoop).classPool = s.classPool := by rfl
@[simp] theorem modInput_classPool : (s.modInput n fInput).classPool = s.classPool := rfl
@[simp] theorem modCos_classPool : (s.modCos k fCos).classPool = s.classPool := by rfl
@[simp] theorem modPort_classPool : (s.modPort p fPort).classPool = s.classPool := rfl
@[simp] theorem modStream_classPool : (s.modStream k fStream).classPool = s.classPool := by rfl
@[simp] theorem modCan_classPool : (s.modCan k fCan).classPool = s.classPool := rfl
@[simp] theorem modLin_classPool : (s.modLin k fLin).classPool = s.classPool := by rfl
@[simp] theorem modT1s_classPool : (s.modT1s k fT1s).classPool = s.classPool := rfl
@[simp] theorem modIso_classPool : (s.modIso k fIso).classPool = s.classPool := by rfl
@[simp] theorem modTally_classPool : (s.modTally fTally).classPool = s.classPool := rfl
@[simp] theorem modAccess_classPool : (s.modAccess fAccess).classPool = s.classPool := by rfl
@[simp] theorem modUpdate_classPool : (s.modUpdate fUpdate).classPool = s.classPool := rfl
@[simp] theorem send_classPool : (s.send x).classPool = s.classPool := by rfl
@[simp] theorem draw_classPool : (s.draw.2).classPool = s.classPool := rfl
@[simp] theorem open_classPool : (s.open_.2).classPool = s.classPool := by rfl
@[simp] theorem keep_classPool : (s.keep t).classPool = t.classPool := rfl

/-! ### ports -/

@[simp] theorem wr_ports : (s.wr i j v).ports = s.ports := by rfl
@[simp] theorem modCell_ports : (s.modCell n fCell).ports = s.ports := rfl
@[simp] theorem modBank_ports : (s.modBank b fBank).ports = s.ports := by rfl
@[simp] theorem modGang_ports : (s.modGang g fGang).ports = s.ports := rfl
@[simp] theorem modSource_ports : (s.modSource n fSource).ports = s.ports := by rfl
@[simp] theorem modSession_ports : (s.modSession k fSession).ports = s.ports := rfl
@[simp] theorem modTeller_ports : (s.modTeller fTeller).ports = s.ports := by rfl
@[simp] theorem modCtx_ports : (s.modCtx c fCtx).ports = s.ports := rfl
@[simp] theorem modEng_ports : (s.modEng e fEng).ports = s.ports := by rfl
@[simp] theorem modCoil_ports : (s.modCoil e k fCoil).ports = s.ports := rfl
@[simp] theorem modLoop_ports : (s.modLoop e fLoop).ports = s.ports := by rfl
@[simp] theorem modInput_ports : (s.modInput n fInput).ports = s.ports := rfl
@[simp] theorem modCos_ports : (s.modCos k fCos).ports = s.ports := by rfl
@[simp] theorem modStream_ports : (s.modStream k fStream).ports = s.ports := rfl
@[simp] theorem modCan_ports : (s.modCan k fCan).ports = s.ports := by rfl
@[simp] theorem modLin_ports : (s.modLin k fLin).ports = s.ports := rfl
@[simp] theorem modT1s_ports : (s.modT1s k fT1s).ports = s.ports := by rfl
@[simp] theorem modIso_ports : (s.modIso k fIso).ports = s.ports := rfl
@[simp] theorem modTally_ports : (s.modTally fTally).ports = s.ports := by rfl
@[simp] theorem modAccess_ports : (s.modAccess fAccess).ports = s.ports := rfl
@[simp] theorem modUpdate_ports : (s.modUpdate fUpdate).ports = s.ports := by rfl
@[simp] theorem send_ports : (s.send x).ports = s.ports := rfl
@[simp] theorem draw_ports : (s.draw.2).ports = s.ports := by rfl
@[simp] theorem open_ports : (s.open_.2).ports = s.ports := rfl
@[simp] theorem keep_ports : (s.keep t).ports = t.ports := by rfl

/-! ### fdb -/

@[simp] theorem wr_fdb : (s.wr i j v).fdb = s.fdb := by rfl
@[simp] theorem modCell_fdb : (s.modCell n fCell).fdb = s.fdb := rfl
@[simp] theorem modBank_fdb : (s.modBank b fBank).fdb = s.fdb := by rfl
@[simp] theorem modGang_fdb : (s.modGang g fGang).fdb = s.fdb := rfl
@[simp] theorem modSource_fdb : (s.modSource n fSource).fdb = s.fdb := by rfl
@[simp] theorem modSession_fdb : (s.modSession k fSession).fdb = s.fdb := rfl
@[simp] theorem modTeller_fdb : (s.modTeller fTeller).fdb = s.fdb := by rfl
@[simp] theorem modCtx_fdb : (s.modCtx c fCtx).fdb = s.fdb := rfl
@[simp] theorem modEng_fdb : (s.modEng e fEng).fdb = s.fdb := by rfl
@[simp] theorem modCoil_fdb : (s.modCoil e k fCoil).fdb = s.fdb := rfl
@[simp] theorem modLoop_fdb : (s.modLoop e fLoop).fdb = s.fdb := by rfl
@[simp] theorem modInput_fdb : (s.modInput n fInput).fdb = s.fdb := rfl
@[simp] theorem modCos_fdb : (s.modCos k fCos).fdb = s.fdb := by rfl
@[simp] theorem modPort_fdb : (s.modPort p fPort).fdb = s.fdb := rfl
@[simp] theorem modStream_fdb : (s.modStream k fStream).fdb = s.fdb := by rfl
@[simp] theorem modCan_fdb : (s.modCan k fCan).fdb = s.fdb := rfl
@[simp] theorem modLin_fdb : (s.modLin k fLin).fdb = s.fdb := by rfl
@[simp] theorem modT1s_fdb : (s.modT1s k fT1s).fdb = s.fdb := rfl
@[simp] theorem modIso_fdb : (s.modIso k fIso).fdb = s.fdb := by rfl
@[simp] theorem modTally_fdb : (s.modTally fTally).fdb = s.fdb := rfl
@[simp] theorem modAccess_fdb : (s.modAccess fAccess).fdb = s.fdb := by rfl
@[simp] theorem modUpdate_fdb : (s.modUpdate fUpdate).fdb = s.fdb := rfl
@[simp] theorem send_fdb : (s.send x).fdb = s.fdb := by rfl
@[simp] theorem draw_fdb : (s.draw.2).fdb = s.fdb := rfl
@[simp] theorem open_fdb : (s.open_.2).fdb = s.fdb := by rfl
@[simp] theorem keep_fdb : (s.keep t).fdb = t.fdb := rfl

/-! ### streams -/

@[simp] theorem wr_streams : (s.wr i j v).streams = s.streams := by rfl
@[simp] theorem modCell_streams : (s.modCell n fCell).streams = s.streams := rfl
@[simp] theorem modBank_streams : (s.modBank b fBank).streams = s.streams := by rfl
@[simp] theorem modGang_streams : (s.modGang g fGang).streams = s.streams := rfl
@[simp] theorem modSource_streams : (s.modSource n fSource).streams = s.streams := by rfl
@[simp] theorem modSession_streams : (s.modSession k fSession).streams = s.streams := rfl
@[simp] theorem modTeller_streams : (s.modTeller fTeller).streams = s.streams := by rfl
@[simp] theorem modCtx_streams : (s.modCtx c fCtx).streams = s.streams := rfl
@[simp] theorem modEng_streams : (s.modEng e fEng).streams = s.streams := by rfl
@[simp] theorem modCoil_streams : (s.modCoil e k fCoil).streams = s.streams := rfl
@[simp] theorem modLoop_streams : (s.modLoop e fLoop).streams = s.streams := by rfl
@[simp] theorem modInput_streams : (s.modInput n fInput).streams = s.streams := rfl
@[simp] theorem modCos_streams : (s.modCos k fCos).streams = s.streams := by rfl
@[simp] theorem modPort_streams : (s.modPort p fPort).streams = s.streams := rfl
@[simp] theorem modCan_streams : (s.modCan k fCan).streams = s.streams := by rfl
@[simp] theorem modLin_streams : (s.modLin k fLin).streams = s.streams := rfl
@[simp] theorem modT1s_streams : (s.modT1s k fT1s).streams = s.streams := by rfl
@[simp] theorem modIso_streams : (s.modIso k fIso).streams = s.streams := rfl
@[simp] theorem modTally_streams : (s.modTally fTally).streams = s.streams := by rfl
@[simp] theorem modAccess_streams : (s.modAccess fAccess).streams = s.streams := rfl
@[simp] theorem modUpdate_streams : (s.modUpdate fUpdate).streams = s.streams := by rfl
@[simp] theorem send_streams : (s.send x).streams = s.streams := rfl
@[simp] theorem draw_streams : (s.draw.2).streams = s.streams := by rfl
@[simp] theorem open_streams : (s.open_.2).streams = s.streams := rfl
@[simp] theorem keep_streams : (s.keep t).streams = t.streams := by rfl

/-! ### gateway -/

@[simp] theorem wr_gateway : (s.wr i j v).gateway = s.gateway := by rfl
@[simp] theorem modCell_gateway : (s.modCell n fCell).gateway = s.gateway := rfl
@[simp] theorem modBank_gateway : (s.modBank b fBank).gateway = s.gateway := by rfl
@[simp] theorem modGang_gateway : (s.modGang g fGang).gateway = s.gateway := rfl
@[simp] theorem modSource_gateway : (s.modSource n fSource).gateway = s.gateway := by rfl
@[simp] theorem modSession_gateway : (s.modSession k fSession).gateway = s.gateway := rfl
@[simp] theorem modTeller_gateway : (s.modTeller fTeller).gateway = s.gateway := by rfl
@[simp] theorem modCtx_gateway : (s.modCtx c fCtx).gateway = s.gateway := rfl
@[simp] theorem modEng_gateway : (s.modEng e fEng).gateway = s.gateway := by rfl
@[simp] theorem modCoil_gateway : (s.modCoil e k fCoil).gateway = s.gateway := rfl
@[simp] theorem modLoop_gateway : (s.modLoop e fLoop).gateway = s.gateway := by rfl
@[simp] theorem modInput_gateway : (s.modInput n fInput).gateway = s.gateway := rfl
@[simp] theorem modCos_gateway : (s.modCos k fCos).gateway = s.gateway := by rfl
@[simp] theorem modPort_gateway : (s.modPort p fPort).gateway = s.gateway := rfl
@[simp] theorem modStream_gateway : (s.modStream k fStream).gateway = s.gateway := by rfl
@[simp] theorem modCan_gateway : (s.modCan k fCan).gateway = s.gateway := rfl
@[simp] theorem modLin_gateway : (s.modLin k fLin).gateway = s.gateway := by rfl
@[simp] theorem modT1s_gateway : (s.modT1s k fT1s).gateway = s.gateway := rfl
@[simp] theorem modIso_gateway : (s.modIso k fIso).gateway = s.gateway := by rfl
@[simp] theorem modTally_gateway : (s.modTally fTally).gateway = s.gateway := rfl
@[simp] theorem modAccess_gateway : (s.modAccess fAccess).gateway = s.gateway := by rfl
@[simp] theorem modUpdate_gateway : (s.modUpdate fUpdate).gateway = s.gateway := rfl
@[simp] theorem send_gateway : (s.send x).gateway = s.gateway := by rfl
@[simp] theorem draw_gateway : (s.draw.2).gateway = s.gateway := rfl
@[simp] theorem open_gateway : (s.open_.2).gateway = s.gateway := by rfl
@[simp] theorem keep_gateway : (s.keep t).gateway = t.gateway := rfl

/-! ### readOwed -/

@[simp] theorem wr_readOwed : (s.wr i j v).readOwed = s.readOwed := by rfl
@[simp] theorem modCell_readOwed : (s.modCell n fCell).readOwed = s.readOwed := rfl
@[simp] theorem modBank_readOwed : (s.modBank b fBank).readOwed = s.readOwed := by rfl
@[simp] theorem modGang_readOwed : (s.modGang g fGang).readOwed = s.readOwed := rfl
@[simp] theorem modSource_readOwed : (s.modSource n fSource).readOwed = s.readOwed := by rfl
@[simp] theorem modSession_readOwed : (s.modSession k fSession).readOwed = s.readOwed := rfl
@[simp] theorem modTeller_readOwed : (s.modTeller fTeller).readOwed = s.readOwed := by rfl
@[simp] theorem modCtx_readOwed : (s.modCtx c fCtx).readOwed = s.readOwed := rfl
@[simp] theorem modEng_readOwed : (s.modEng e fEng).readOwed = s.readOwed := by rfl
@[simp] theorem modCoil_readOwed : (s.modCoil e k fCoil).readOwed = s.readOwed := rfl
@[simp] theorem modLoop_readOwed : (s.modLoop e fLoop).readOwed = s.readOwed := by rfl
@[simp] theorem modInput_readOwed : (s.modInput n fInput).readOwed = s.readOwed := rfl
@[simp] theorem modCos_readOwed : (s.modCos k fCos).readOwed = s.readOwed := by rfl
@[simp] theorem modPort_readOwed : (s.modPort p fPort).readOwed = s.readOwed := rfl
@[simp] theorem modStream_readOwed : (s.modStream k fStream).readOwed = s.readOwed := by rfl
@[simp] theorem modCan_readOwed : (s.modCan k fCan).readOwed = s.readOwed := rfl
@[simp] theorem modLin_readOwed : (s.modLin k fLin).readOwed = s.readOwed := by rfl
@[simp] theorem modT1s_readOwed : (s.modT1s k fT1s).readOwed = s.readOwed := rfl
@[simp] theorem modIso_readOwed : (s.modIso k fIso).readOwed = s.readOwed := by rfl
@[simp] theorem modTally_readOwed : (s.modTally fTally).readOwed = s.readOwed := rfl
@[simp] theorem modAccess_readOwed : (s.modAccess fAccess).readOwed = s.readOwed := by rfl
@[simp] theorem modUpdate_readOwed : (s.modUpdate fUpdate).readOwed = s.readOwed := rfl
@[simp] theorem send_readOwed : (s.send x).readOwed = s.readOwed := by rfl
@[simp] theorem draw_readOwed : (s.draw.2).readOwed = s.readOwed := rfl
@[simp] theorem open_readOwed : (s.open_.2).readOwed = s.readOwed := by rfl
@[simp] theorem keep_readOwed : (s.keep t).readOwed = t.readOwed := rfl

/-! ### readAt -/

@[simp] theorem wr_readAt : (s.wr i j v).readAt = s.readAt := by rfl
@[simp] theorem modCell_readAt : (s.modCell n fCell).readAt = s.readAt := rfl
@[simp] theorem modBank_readAt : (s.modBank b fBank).readAt = s.readAt := by rfl
@[simp] theorem modGang_readAt : (s.modGang g fGang).readAt = s.readAt := rfl
@[simp] theorem modSource_readAt : (s.modSource n fSource).readAt = s.readAt := by rfl
@[simp] theorem modSession_readAt : (s.modSession k fSession).readAt = s.readAt := rfl
@[simp] theorem modTeller_readAt : (s.modTeller fTeller).readAt = s.readAt := by rfl
@[simp] theorem modCtx_readAt : (s.modCtx c fCtx).readAt = s.readAt := rfl
@[simp] theorem modEng_readAt : (s.modEng e fEng).readAt = s.readAt := by rfl
@[simp] theorem modCoil_readAt : (s.modCoil e k fCoil).readAt = s.readAt := rfl
@[simp] theorem modLoop_readAt : (s.modLoop e fLoop).readAt = s.readAt := by rfl
@[simp] theorem modInput_readAt : (s.modInput n fInput).readAt = s.readAt := rfl
@[simp] theorem modCos_readAt : (s.modCos k fCos).readAt = s.readAt := by rfl
@[simp] theorem modPort_readAt : (s.modPort p fPort).readAt = s.readAt := rfl
@[simp] theorem modStream_readAt : (s.modStream k fStream).readAt = s.readAt := by rfl
@[simp] theorem modCan_readAt : (s.modCan k fCan).readAt = s.readAt := rfl
@[simp] theorem modLin_readAt : (s.modLin k fLin).readAt = s.readAt := by rfl
@[simp] theorem modT1s_readAt : (s.modT1s k fT1s).readAt = s.readAt := rfl
@[simp] theorem modIso_readAt : (s.modIso k fIso).readAt = s.readAt := by rfl
@[simp] theorem modTally_readAt : (s.modTally fTally).readAt = s.readAt := rfl
@[simp] theorem modAccess_readAt : (s.modAccess fAccess).readAt = s.readAt := by rfl
@[simp] theorem modUpdate_readAt : (s.modUpdate fUpdate).readAt = s.readAt := rfl
@[simp] theorem send_readAt : (s.send x).readAt = s.readAt := by rfl
@[simp] theorem draw_readAt : (s.draw.2).readAt = s.readAt := rfl
@[simp] theorem open_readAt : (s.open_.2).readAt = s.readAt := by rfl
@[simp] theorem keep_readAt : (s.keep t).readAt = t.readAt := rfl

/-! ### readTurn -/

@[simp] theorem wr_readTurn : (s.wr i j v).readTurn = s.readTurn := by rfl
@[simp] theorem modCell_readTurn : (s.modCell n fCell).readTurn = s.readTurn := rfl
@[simp] theorem modBank_readTurn : (s.modBank b fBank).readTurn = s.readTurn := by rfl
@[simp] theorem modGang_readTurn : (s.modGang g fGang).readTurn = s.readTurn := rfl
@[simp] theorem modSource_readTurn : (s.modSource n fSource).readTurn = s.readTurn := by rfl
@[simp] theorem modSession_readTurn : (s.modSession k fSession).readTurn = s.readTurn := rfl
@[simp] theorem modTeller_readTurn : (s.modTeller fTeller).readTurn = s.readTurn := by rfl
@[simp] theorem modCtx_readTurn : (s.modCtx c fCtx).readTurn = s.readTurn := rfl
@[simp] theorem modEng_readTurn : (s.modEng e fEng).readTurn = s.readTurn := by rfl
@[simp] theorem modCoil_readTurn : (s.modCoil e k fCoil).readTurn = s.readTurn := rfl
@[simp] theorem modLoop_readTurn : (s.modLoop e fLoop).readTurn = s.readTurn := by rfl
@[simp] theorem modInput_readTurn : (s.modInput n fInput).readTurn = s.readTurn := rfl
@[simp] theorem modCos_readTurn : (s.modCos k fCos).readTurn = s.readTurn := by rfl
@[simp] theorem modPort_readTurn : (s.modPort p fPort).readTurn = s.readTurn := rfl
@[simp] theorem modStream_readTurn : (s.modStream k fStream).readTurn = s.readTurn := by rfl
@[simp] theorem modCan_readTurn : (s.modCan k fCan).readTurn = s.readTurn := rfl
@[simp] theorem modLin_readTurn : (s.modLin k fLin).readTurn = s.readTurn := by rfl
@[simp] theorem modT1s_readTurn : (s.modT1s k fT1s).readTurn = s.readTurn := rfl
@[simp] theorem modIso_readTurn : (s.modIso k fIso).readTurn = s.readTurn := by rfl
@[simp] theorem modTally_readTurn : (s.modTally fTally).readTurn = s.readTurn := rfl
@[simp] theorem modAccess_readTurn : (s.modAccess fAccess).readTurn = s.readTurn := by rfl
@[simp] theorem modUpdate_readTurn : (s.modUpdate fUpdate).readTurn = s.readTurn := rfl
@[simp] theorem send_readTurn : (s.send x).readTurn = s.readTurn := by rfl
@[simp] theorem draw_readTurn : (s.draw.2).readTurn = s.readTurn := rfl
@[simp] theorem open_readTurn : (s.open_.2).readTurn = s.readTurn := by rfl
@[simp] theorem keep_readTurn : (s.keep t).readTurn = t.readTurn := rfl

/-! ### slew -/

@[simp] theorem wr_slew : (s.wr i j v).slew = s.slew := by rfl
@[simp] theorem modCell_slew : (s.modCell n fCell).slew = s.slew := rfl
@[simp] theorem modBank_slew : (s.modBank b fBank).slew = s.slew := by rfl
@[simp] theorem modGang_slew : (s.modGang g fGang).slew = s.slew := rfl
@[simp] theorem modSource_slew : (s.modSource n fSource).slew = s.slew := by rfl
@[simp] theorem modSession_slew : (s.modSession k fSession).slew = s.slew := rfl
@[simp] theorem modTeller_slew : (s.modTeller fTeller).slew = s.slew := by rfl
@[simp] theorem modCtx_slew : (s.modCtx c fCtx).slew = s.slew := rfl
@[simp] theorem modEng_slew : (s.modEng e fEng).slew = s.slew := by rfl
@[simp] theorem modCoil_slew : (s.modCoil e k fCoil).slew = s.slew := rfl
@[simp] theorem modLoop_slew : (s.modLoop e fLoop).slew = s.slew := by rfl
@[simp] theorem modInput_slew : (s.modInput n fInput).slew = s.slew := rfl
@[simp] theorem modCos_slew : (s.modCos k fCos).slew = s.slew := by rfl
@[simp] theorem modPort_slew : (s.modPort p fPort).slew = s.slew := rfl
@[simp] theorem modStream_slew : (s.modStream k fStream).slew = s.slew := by rfl
@[simp] theorem modCan_slew : (s.modCan k fCan).slew = s.slew := rfl
@[simp] theorem modLin_slew : (s.modLin k fLin).slew = s.slew := by rfl
@[simp] theorem modT1s_slew : (s.modT1s k fT1s).slew = s.slew := rfl
@[simp] theorem modIso_slew : (s.modIso k fIso).slew = s.slew := by rfl
@[simp] theorem modTally_slew : (s.modTally fTally).slew = s.slew := rfl
@[simp] theorem modAccess_slew : (s.modAccess fAccess).slew = s.slew := by rfl
@[simp] theorem modUpdate_slew : (s.modUpdate fUpdate).slew = s.slew := rfl
@[simp] theorem send_slew : (s.send x).slew = s.slew := by rfl
@[simp] theorem draw_slew : (s.draw.2).slew = s.slew := rfl
@[simp] theorem open_slew : (s.open_.2).slew = s.slew := by rfl
@[simp] theorem keep_slew : (s.keep t).slew = t.slew := rfl

/-! ### syncGood -/

@[simp] theorem wr_syncGood : (s.wr i j v).syncGood = s.syncGood := by rfl
@[simp] theorem modCell_syncGood : (s.modCell n fCell).syncGood = s.syncGood := rfl
@[simp] theorem modBank_syncGood : (s.modBank b fBank).syncGood = s.syncGood := by rfl
@[simp] theorem modGang_syncGood : (s.modGang g fGang).syncGood = s.syncGood := rfl
@[simp] theorem modSource_syncGood : (s.modSource n fSource).syncGood = s.syncGood := by rfl
@[simp] theorem modSession_syncGood : (s.modSession k fSession).syncGood = s.syncGood := rfl
@[simp] theorem modTeller_syncGood : (s.modTeller fTeller).syncGood = s.syncGood := by rfl
@[simp] theorem modCtx_syncGood : (s.modCtx c fCtx).syncGood = s.syncGood := rfl
@[simp] theorem modEng_syncGood : (s.modEng e fEng).syncGood = s.syncGood := by rfl
@[simp] theorem modCoil_syncGood : (s.modCoil e k fCoil).syncGood = s.syncGood := rfl
@[simp] theorem modLoop_syncGood : (s.modLoop e fLoop).syncGood = s.syncGood := by rfl
@[simp] theorem modInput_syncGood : (s.modInput n fInput).syncGood = s.syncGood := rfl
@[simp] theorem modCos_syncGood : (s.modCos k fCos).syncGood = s.syncGood := by rfl
@[simp] theorem modPort_syncGood : (s.modPort p fPort).syncGood = s.syncGood := rfl
@[simp] theorem modStream_syncGood : (s.modStream k fStream).syncGood = s.syncGood := by rfl
@[simp] theorem modCan_syncGood : (s.modCan k fCan).syncGood = s.syncGood := rfl
@[simp] theorem modLin_syncGood : (s.modLin k fLin).syncGood = s.syncGood := by rfl
@[simp] theorem modT1s_syncGood : (s.modT1s k fT1s).syncGood = s.syncGood := rfl
@[simp] theorem modIso_syncGood : (s.modIso k fIso).syncGood = s.syncGood := by rfl
@[simp] theorem modTally_syncGood : (s.modTally fTally).syncGood = s.syncGood := rfl
@[simp] theorem modAccess_syncGood : (s.modAccess fAccess).syncGood = s.syncGood := by rfl
@[simp] theorem modUpdate_syncGood : (s.modUpdate fUpdate).syncGood = s.syncGood := rfl
@[simp] theorem send_syncGood : (s.send x).syncGood = s.syncGood := by rfl
@[simp] theorem draw_syncGood : (s.draw.2).syncGood = s.syncGood := rfl
@[simp] theorem open_syncGood : (s.open_.2).syncGood = s.syncGood := by rfl
@[simp] theorem keep_syncGood : (s.keep t).syncGood = t.syncGood := rfl

/-! ### syncAt -/

@[simp] theorem wr_syncAt : (s.wr i j v).syncAt = s.syncAt := by rfl
@[simp] theorem modCell_syncAt : (s.modCell n fCell).syncAt = s.syncAt := rfl
@[simp] theorem modBank_syncAt : (s.modBank b fBank).syncAt = s.syncAt := by rfl
@[simp] theorem modGang_syncAt : (s.modGang g fGang).syncAt = s.syncAt := rfl
@[simp] theorem modSource_syncAt : (s.modSource n fSource).syncAt = s.syncAt := by rfl
@[simp] theorem modSession_syncAt : (s.modSession k fSession).syncAt = s.syncAt := rfl
@[simp] theorem modTeller_syncAt : (s.modTeller fTeller).syncAt = s.syncAt := by rfl
@[simp] theorem modCtx_syncAt : (s.modCtx c fCtx).syncAt = s.syncAt := rfl
@[simp] theorem modEng_syncAt : (s.modEng e fEng).syncAt = s.syncAt := by rfl
@[simp] theorem modCoil_syncAt : (s.modCoil e k fCoil).syncAt = s.syncAt := rfl
@[simp] theorem modLoop_syncAt : (s.modLoop e fLoop).syncAt = s.syncAt := by rfl
@[simp] theorem modInput_syncAt : (s.modInput n fInput).syncAt = s.syncAt := rfl
@[simp] theorem modCos_syncAt : (s.modCos k fCos).syncAt = s.syncAt := by rfl
@[simp] theorem modPort_syncAt : (s.modPort p fPort).syncAt = s.syncAt := rfl
@[simp] theorem modStream_syncAt : (s.modStream k fStream).syncAt = s.syncAt := by rfl
@[simp] theorem modCan_syncAt : (s.modCan k fCan).syncAt = s.syncAt := rfl
@[simp] theorem modLin_syncAt : (s.modLin k fLin).syncAt = s.syncAt := by rfl
@[simp] theorem modT1s_syncAt : (s.modT1s k fT1s).syncAt = s.syncAt := rfl
@[simp] theorem modIso_syncAt : (s.modIso k fIso).syncAt = s.syncAt := by rfl
@[simp] theorem modTally_syncAt : (s.modTally fTally).syncAt = s.syncAt := rfl
@[simp] theorem modAccess_syncAt : (s.modAccess fAccess).syncAt = s.syncAt := by rfl
@[simp] theorem modUpdate_syncAt : (s.modUpdate fUpdate).syncAt = s.syncAt := rfl
@[simp] theorem send_syncAt : (s.send x).syncAt = s.syncAt := by rfl
@[simp] theorem draw_syncAt : (s.draw.2).syncAt = s.syncAt := rfl
@[simp] theorem open_syncAt : (s.open_.2).syncAt = s.syncAt := by rfl
@[simp] theorem keep_syncAt : (s.keep t).syncAt = t.syncAt := rfl

/-! ### cans -/

@[simp] theorem wr_cans : (s.wr i j v).cans = s.cans := by rfl
@[simp] theorem modCell_cans : (s.modCell n fCell).cans = s.cans := rfl
@[simp] theorem modBank_cans : (s.modBank b fBank).cans = s.cans := by rfl
@[simp] theorem modGang_cans : (s.modGang g fGang).cans = s.cans := rfl
@[simp] theorem modSource_cans : (s.modSource n fSource).cans = s.cans := by rfl
@[simp] theorem modSession_cans : (s.modSession k fSession).cans = s.cans := rfl
@[simp] theorem modTeller_cans : (s.modTeller fTeller).cans = s.cans := by rfl
@[simp] theorem modCtx_cans : (s.modCtx c fCtx).cans = s.cans := rfl
@[simp] theorem modEng_cans : (s.modEng e fEng).cans = s.cans := by rfl
@[simp] theorem modCoil_cans : (s.modCoil e k fCoil).cans = s.cans := rfl
@[simp] theorem modLoop_cans : (s.modLoop e fLoop).cans = s.cans := by rfl
@[simp] theorem modInput_cans : (s.modInput n fInput).cans = s.cans := rfl
@[simp] theorem modCos_cans : (s.modCos k fCos).cans = s.cans := by rfl
@[simp] theorem modPort_cans : (s.modPort p fPort).cans = s.cans := rfl
@[simp] theorem modStream_cans : (s.modStream k fStream).cans = s.cans := by rfl
@[simp] theorem modLin_cans : (s.modLin k fLin).cans = s.cans := rfl
@[simp] theorem modT1s_cans : (s.modT1s k fT1s).cans = s.cans := by rfl
@[simp] theorem modIso_cans : (s.modIso k fIso).cans = s.cans := rfl
@[simp] theorem modTally_cans : (s.modTally fTally).cans = s.cans := by rfl
@[simp] theorem modAccess_cans : (s.modAccess fAccess).cans = s.cans := rfl
@[simp] theorem modUpdate_cans : (s.modUpdate fUpdate).cans = s.cans := by rfl
@[simp] theorem send_cans : (s.send x).cans = s.cans := rfl
@[simp] theorem draw_cans : (s.draw.2).cans = s.cans := by rfl
@[simp] theorem open_cans : (s.open_.2).cans = s.cans := rfl
@[simp] theorem keep_cans : (s.keep t).cans = t.cans := by rfl

/-! ### lins -/

@[simp] theorem wr_lins : (s.wr i j v).lins = s.lins := by rfl
@[simp] theorem modCell_lins : (s.modCell n fCell).lins = s.lins := rfl
@[simp] theorem modBank_lins : (s.modBank b fBank).lins = s.lins := by rfl
@[simp] theorem modGang_lins : (s.modGang g fGang).lins = s.lins := rfl
@[simp] theorem modSource_lins : (s.modSource n fSource).lins = s.lins := by rfl
@[simp] theorem modSession_lins : (s.modSession k fSession).lins = s.lins := rfl
@[simp] theorem modTeller_lins : (s.modTeller fTeller).lins = s.lins := by rfl
@[simp] theorem modCtx_lins : (s.modCtx c fCtx).lins = s.lins := rfl
@[simp] theorem modEng_lins : (s.modEng e fEng).lins = s.lins := by rfl
@[simp] theorem modCoil_lins : (s.modCoil e k fCoil).lins = s.lins := rfl
@[simp] theorem modLoop_lins : (s.modLoop e fLoop).lins = s.lins := by rfl
@[simp] theorem modInput_lins : (s.modInput n fInput).lins = s.lins := rfl
@[simp] theorem modCos_lins : (s.modCos k fCos).lins = s.lins := by rfl
@[simp] theorem modPort_lins : (s.modPort p fPort).lins = s.lins := rfl
@[simp] theorem modStream_lins : (s.modStream k fStream).lins = s.lins := by rfl
@[simp] theorem modCan_lins : (s.modCan k fCan).lins = s.lins := rfl
@[simp] theorem modT1s_lins : (s.modT1s k fT1s).lins = s.lins := by rfl
@[simp] theorem modIso_lins : (s.modIso k fIso).lins = s.lins := rfl
@[simp] theorem modTally_lins : (s.modTally fTally).lins = s.lins := by rfl
@[simp] theorem modAccess_lins : (s.modAccess fAccess).lins = s.lins := rfl
@[simp] theorem modUpdate_lins : (s.modUpdate fUpdate).lins = s.lins := by rfl
@[simp] theorem send_lins : (s.send x).lins = s.lins := rfl
@[simp] theorem draw_lins : (s.draw.2).lins = s.lins := by rfl
@[simp] theorem open_lins : (s.open_.2).lins = s.lins := rfl
@[simp] theorem keep_lins : (s.keep t).lins = t.lins := by rfl

/-! ### t1ss -/

@[simp] theorem wr_t1ss : (s.wr i j v).t1ss = s.t1ss := by rfl
@[simp] theorem modCell_t1ss : (s.modCell n fCell).t1ss = s.t1ss := rfl
@[simp] theorem modBank_t1ss : (s.modBank b fBank).t1ss = s.t1ss := by rfl
@[simp] theorem modGang_t1ss : (s.modGang g fGang).t1ss = s.t1ss := rfl
@[simp] theorem modSource_t1ss : (s.modSource n fSource).t1ss = s.t1ss := by rfl
@[simp] theorem modSession_t1ss : (s.modSession k fSession).t1ss = s.t1ss := rfl
@[simp] theorem modTeller_t1ss : (s.modTeller fTeller).t1ss = s.t1ss := by rfl
@[simp] theorem modCtx_t1ss : (s.modCtx c fCtx).t1ss = s.t1ss := rfl
@[simp] theorem modEng_t1ss : (s.modEng e fEng).t1ss = s.t1ss := by rfl
@[simp] theorem modCoil_t1ss : (s.modCoil e k fCoil).t1ss = s.t1ss := rfl
@[simp] theorem modLoop_t1ss : (s.modLoop e fLoop).t1ss = s.t1ss := by rfl
@[simp] theorem modInput_t1ss : (s.modInput n fInput).t1ss = s.t1ss := rfl
@[simp] theorem modCos_t1ss : (s.modCos k fCos).t1ss = s.t1ss := by rfl
@[simp] theorem modPort_t1ss : (s.modPort p fPort).t1ss = s.t1ss := rfl
@[simp] theorem modStream_t1ss : (s.modStream k fStream).t1ss = s.t1ss := by rfl
@[simp] theorem modCan_t1ss : (s.modCan k fCan).t1ss = s.t1ss := rfl
@[simp] theorem modLin_t1ss : (s.modLin k fLin).t1ss = s.t1ss := by rfl
@[simp] theorem modIso_t1ss : (s.modIso k fIso).t1ss = s.t1ss := rfl
@[simp] theorem modTally_t1ss : (s.modTally fTally).t1ss = s.t1ss := by rfl
@[simp] theorem modAccess_t1ss : (s.modAccess fAccess).t1ss = s.t1ss := rfl
@[simp] theorem modUpdate_t1ss : (s.modUpdate fUpdate).t1ss = s.t1ss := by rfl
@[simp] theorem send_t1ss : (s.send x).t1ss = s.t1ss := rfl
@[simp] theorem draw_t1ss : (s.draw.2).t1ss = s.t1ss := by rfl
@[simp] theorem open_t1ss : (s.open_.2).t1ss = s.t1ss := rfl
@[simp] theorem keep_t1ss : (s.keep t).t1ss = t.t1ss := by rfl

/-! ### iso -/

@[simp] theorem wr_iso : (s.wr i j v).iso = s.iso := by rfl
@[simp] theorem modCell_iso : (s.modCell n fCell).iso = s.iso := rfl
@[simp] theorem modBank_iso : (s.modBank b fBank).iso = s.iso := by rfl
@[simp] theorem modGang_iso : (s.modGang g fGang).iso = s.iso := rfl
@[simp] theorem modSource_iso : (s.modSource n fSource).iso = s.iso := by rfl
@[simp] theorem modSession_iso : (s.modSession k fSession).iso = s.iso := rfl
@[simp] theorem modTeller_iso : (s.modTeller fTeller).iso = s.iso := by rfl
@[simp] theorem modCtx_iso : (s.modCtx c fCtx).iso = s.iso := rfl
@[simp] theorem modEng_iso : (s.modEng e fEng).iso = s.iso := by rfl
@[simp] theorem modCoil_iso : (s.modCoil e k fCoil).iso = s.iso := rfl
@[simp] theorem modLoop_iso : (s.modLoop e fLoop).iso = s.iso := by rfl
@[simp] theorem modInput_iso : (s.modInput n fInput).iso = s.iso := rfl
@[simp] theorem modCos_iso : (s.modCos k fCos).iso = s.iso := by rfl
@[simp] theorem modPort_iso : (s.modPort p fPort).iso = s.iso := rfl
@[simp] theorem modStream_iso : (s.modStream k fStream).iso = s.iso := by rfl
@[simp] theorem modCan_iso : (s.modCan k fCan).iso = s.iso := rfl
@[simp] theorem modLin_iso : (s.modLin k fLin).iso = s.iso := by rfl
@[simp] theorem modT1s_iso : (s.modT1s k fT1s).iso = s.iso := rfl
@[simp] theorem modTally_iso : (s.modTally fTally).iso = s.iso := by rfl
@[simp] theorem modAccess_iso : (s.modAccess fAccess).iso = s.iso := rfl
@[simp] theorem modUpdate_iso : (s.modUpdate fUpdate).iso = s.iso := by rfl
@[simp] theorem send_iso : (s.send x).iso = s.iso := rfl
@[simp] theorem draw_iso : (s.draw.2).iso = s.iso := by rfl
@[simp] theorem open_iso : (s.open_.2).iso = s.iso := rfl
@[simp] theorem keep_iso : (s.keep t).iso = t.iso := by rfl

/-! ### relayTags -/

@[simp] theorem wr_relayTags : (s.wr i j v).relayTags = s.relayTags := by rfl
@[simp] theorem modCell_relayTags : (s.modCell n fCell).relayTags = s.relayTags := rfl
@[simp] theorem modBank_relayTags : (s.modBank b fBank).relayTags = s.relayTags := by rfl
@[simp] theorem modGang_relayTags : (s.modGang g fGang).relayTags = s.relayTags := rfl
@[simp] theorem modSource_relayTags : (s.modSource n fSource).relayTags = s.relayTags := by rfl
@[simp] theorem modSession_relayTags : (s.modSession k fSession).relayTags = s.relayTags := rfl
@[simp] theorem modTeller_relayTags : (s.modTeller fTeller).relayTags = s.relayTags := by rfl
@[simp] theorem modCtx_relayTags : (s.modCtx c fCtx).relayTags = s.relayTags := rfl
@[simp] theorem modEng_relayTags : (s.modEng e fEng).relayTags = s.relayTags := by rfl
@[simp] theorem modCoil_relayTags : (s.modCoil e k fCoil).relayTags = s.relayTags := rfl
@[simp] theorem modLoop_relayTags : (s.modLoop e fLoop).relayTags = s.relayTags := by rfl
@[simp] theorem modInput_relayTags : (s.modInput n fInput).relayTags = s.relayTags := rfl
@[simp] theorem modCos_relayTags : (s.modCos k fCos).relayTags = s.relayTags := by rfl
@[simp] theorem modPort_relayTags : (s.modPort p fPort).relayTags = s.relayTags := rfl
@[simp] theorem modStream_relayTags : (s.modStream k fStream).relayTags = s.relayTags := by rfl
@[simp] theorem modCan_relayTags : (s.modCan k fCan).relayTags = s.relayTags := rfl
@[simp] theorem modLin_relayTags : (s.modLin k fLin).relayTags = s.relayTags := by rfl
@[simp] theorem modT1s_relayTags : (s.modT1s k fT1s).relayTags = s.relayTags := rfl
@[simp] theorem modIso_relayTags : (s.modIso k fIso).relayTags = s.relayTags := by rfl
@[simp] theorem modTally_relayTags : (s.modTally fTally).relayTags = s.relayTags := rfl
@[simp] theorem modAccess_relayTags : (s.modAccess fAccess).relayTags = s.relayTags := by rfl
@[simp] theorem modUpdate_relayTags : (s.modUpdate fUpdate).relayTags = s.relayTags := rfl
@[simp] theorem send_relayTags : (s.send x).relayTags = s.relayTags := by rfl
@[simp] theorem draw_relayTags : (s.draw.2).relayTags = s.relayTags := rfl
@[simp] theorem open_relayTags : (s.open_.2).relayTags = s.relayTags := by rfl
@[simp] theorem keep_relayTags : (s.keep t).relayTags = t.relayTags := rfl

/-! ### tally -/

@[simp] theorem wr_tally : (s.wr i j v).tally = s.tally := by rfl
@[simp] theorem modCell_tally : (s.modCell n fCell).tally = s.tally := rfl
@[simp] theorem modBank_tally : (s.modBank b fBank).tally = s.tally := by rfl
@[simp] theorem modGang_tally : (s.modGang g fGang).tally = s.tally := rfl
@[simp] theorem modSource_tally : (s.modSource n fSource).tally = s.tally := by rfl
@[simp] theorem modSession_tally : (s.modSession k fSession).tally = s.tally := rfl
@[simp] theorem modTeller_tally : (s.modTeller fTeller).tally = s.tally := by rfl
@[simp] theorem modCtx_tally : (s.modCtx c fCtx).tally = s.tally := rfl
@[simp] theorem modEng_tally : (s.modEng e fEng).tally = s.tally := by rfl
@[simp] theorem modCoil_tally : (s.modCoil e k fCoil).tally = s.tally := rfl
@[simp] theorem modLoop_tally : (s.modLoop e fLoop).tally = s.tally := by rfl
@[simp] theorem modInput_tally : (s.modInput n fInput).tally = s.tally := rfl
@[simp] theorem modCos_tally : (s.modCos k fCos).tally = s.tally := by rfl
@[simp] theorem modPort_tally : (s.modPort p fPort).tally = s.tally := rfl
@[simp] theorem modStream_tally : (s.modStream k fStream).tally = s.tally := by rfl
@[simp] theorem modCan_tally : (s.modCan k fCan).tally = s.tally := rfl
@[simp] theorem modLin_tally : (s.modLin k fLin).tally = s.tally := by rfl
@[simp] theorem modT1s_tally : (s.modT1s k fT1s).tally = s.tally := rfl
@[simp] theorem modIso_tally : (s.modIso k fIso).tally = s.tally := by rfl
@[simp] theorem modAccess_tally : (s.modAccess fAccess).tally = s.tally := rfl
@[simp] theorem modUpdate_tally : (s.modUpdate fUpdate).tally = s.tally := by rfl
@[simp] theorem send_tally : (s.send x).tally = s.tally := rfl
@[simp] theorem draw_tally : (s.draw.2).tally = s.tally := by rfl
@[simp] theorem open_tally : (s.open_.2).tally = s.tally := rfl
@[simp] theorem keep_tally : (s.keep t).tally = t.tally := by rfl

/-! ### caps -/

@[simp] theorem wr_caps : (s.wr i j v).caps = s.caps := by rfl
@[simp] theorem modCell_caps : (s.modCell n fCell).caps = s.caps := rfl
@[simp] theorem modBank_caps : (s.modBank b fBank).caps = s.caps := by rfl
@[simp] theorem modGang_caps : (s.modGang g fGang).caps = s.caps := rfl
@[simp] theorem modSource_caps : (s.modSource n fSource).caps = s.caps := by rfl
@[simp] theorem modSession_caps : (s.modSession k fSession).caps = s.caps := rfl
@[simp] theorem modTeller_caps : (s.modTeller fTeller).caps = s.caps := by rfl
@[simp] theorem modCtx_caps : (s.modCtx c fCtx).caps = s.caps := rfl
@[simp] theorem modEng_caps : (s.modEng e fEng).caps = s.caps := by rfl
@[simp] theorem modCoil_caps : (s.modCoil e k fCoil).caps = s.caps := rfl
@[simp] theorem modLoop_caps : (s.modLoop e fLoop).caps = s.caps := by rfl
@[simp] theorem modInput_caps : (s.modInput n fInput).caps = s.caps := rfl
@[simp] theorem modCos_caps : (s.modCos k fCos).caps = s.caps := by rfl
@[simp] theorem modPort_caps : (s.modPort p fPort).caps = s.caps := rfl
@[simp] theorem modStream_caps : (s.modStream k fStream).caps = s.caps := by rfl
@[simp] theorem modCan_caps : (s.modCan k fCan).caps = s.caps := rfl
@[simp] theorem modLin_caps : (s.modLin k fLin).caps = s.caps := by rfl
@[simp] theorem modT1s_caps : (s.modT1s k fT1s).caps = s.caps := rfl
@[simp] theorem modIso_caps : (s.modIso k fIso).caps = s.caps := by rfl
@[simp] theorem modTally_caps : (s.modTally fTally).caps = s.caps := rfl
@[simp] theorem modAccess_caps : (s.modAccess fAccess).caps = s.caps := by rfl
@[simp] theorem modUpdate_caps : (s.modUpdate fUpdate).caps = s.caps := rfl
@[simp] theorem send_caps : (s.send x).caps = s.caps := by rfl
@[simp] theorem draw_caps : (s.draw.2).caps = s.caps := rfl
@[simp] theorem open_caps : (s.open_.2).caps = s.caps := by rfl
@[simp] theorem keep_caps : (s.keep t).caps = t.caps := rfl

/-! ### access -/

@[simp] theorem wr_access : (s.wr i j v).access = s.access := by rfl
@[simp] theorem modCell_access : (s.modCell n fCell).access = s.access := rfl
@[simp] theorem modBank_access : (s.modBank b fBank).access = s.access := by rfl
@[simp] theorem modGang_access : (s.modGang g fGang).access = s.access := rfl
@[simp] theorem modSource_access : (s.modSource n fSource).access = s.access := by rfl
@[simp] theorem modSession_access : (s.modSession k fSession).access = s.access := rfl
@[simp] theorem modTeller_access : (s.modTeller fTeller).access = s.access := by rfl
@[simp] theorem modCtx_access : (s.modCtx c fCtx).access = s.access := rfl
@[simp] theorem modEng_access : (s.modEng e fEng).access = s.access := by rfl
@[simp] theorem modCoil_access : (s.modCoil e k fCoil).access = s.access := rfl
@[simp] theorem modLoop_access : (s.modLoop e fLoop).access = s.access := by rfl
@[simp] theorem modInput_access : (s.modInput n fInput).access = s.access := rfl
@[simp] theorem modCos_access : (s.modCos k fCos).access = s.access := by rfl
@[simp] theorem modPort_access : (s.modPort p fPort).access = s.access := rfl
@[simp] theorem modStream_access : (s.modStream k fStream).access = s.access := by rfl
@[simp] theorem modCan_access : (s.modCan k fCan).access = s.access := rfl
@[simp] theorem modLin_access : (s.modLin k fLin).access = s.access := by rfl
@[simp] theorem modT1s_access : (s.modT1s k fT1s).access = s.access := rfl
@[simp] theorem modIso_access : (s.modIso k fIso).access = s.access := by rfl
@[simp] theorem modTally_access : (s.modTally fTally).access = s.access := rfl
@[simp] theorem modUpdate_access : (s.modUpdate fUpdate).access = s.access := by rfl
@[simp] theorem send_access : (s.send x).access = s.access := rfl
@[simp] theorem draw_access : (s.draw.2).access = s.access := by rfl
@[simp] theorem open_access : (s.open_.2).access = s.access := rfl
@[simp] theorem keep_access : (s.keep t).access = t.access := by rfl

/-! ### update -/

@[simp] theorem wr_update : (s.wr i j v).update = s.update := by rfl
@[simp] theorem modCell_update : (s.modCell n fCell).update = s.update := rfl
@[simp] theorem modBank_update : (s.modBank b fBank).update = s.update := by rfl
@[simp] theorem modGang_update : (s.modGang g fGang).update = s.update := rfl
@[simp] theorem modSource_update : (s.modSource n fSource).update = s.update := by rfl
@[simp] theorem modSession_update : (s.modSession k fSession).update = s.update := rfl
@[simp] theorem modTeller_update : (s.modTeller fTeller).update = s.update := by rfl
@[simp] theorem modCtx_update : (s.modCtx c fCtx).update = s.update := rfl
@[simp] theorem modEng_update : (s.modEng e fEng).update = s.update := by rfl
@[simp] theorem modCoil_update : (s.modCoil e k fCoil).update = s.update := rfl
@[simp] theorem modLoop_update : (s.modLoop e fLoop).update = s.update := by rfl
@[simp] theorem modInput_update : (s.modInput n fInput).update = s.update := rfl
@[simp] theorem modCos_update : (s.modCos k fCos).update = s.update := by rfl
@[simp] theorem modPort_update : (s.modPort p fPort).update = s.update := rfl
@[simp] theorem modStream_update : (s.modStream k fStream).update = s.update := by rfl
@[simp] theorem modCan_update : (s.modCan k fCan).update = s.update := rfl
@[simp] theorem modLin_update : (s.modLin k fLin).update = s.update := by rfl
@[simp] theorem modT1s_update : (s.modT1s k fT1s).update = s.update := rfl
@[simp] theorem modIso_update : (s.modIso k fIso).update = s.update := by rfl
@[simp] theorem modTally_update : (s.modTally fTally).update = s.update := rfl
@[simp] theorem modAccess_update : (s.modAccess fAccess).update = s.update := by rfl
@[simp] theorem send_update : (s.send x).update = s.update := rfl
@[simp] theorem draw_update : (s.draw.2).update = s.update := by rfl
@[simp] theorem open_update : (s.open_.2).update = s.update := rfl
@[simp] theorem keep_update : (s.keep t).update = t.update := by rfl

/-! ### supply -/

@[simp] theorem wr_supply : (s.wr i j v).supply = s.supply := by rfl
@[simp] theorem modCell_supply : (s.modCell n fCell).supply = s.supply := rfl
@[simp] theorem modBank_supply : (s.modBank b fBank).supply = s.supply := by rfl
@[simp] theorem modGang_supply : (s.modGang g fGang).supply = s.supply := rfl
@[simp] theorem modSource_supply : (s.modSource n fSource).supply = s.supply := by rfl
@[simp] theorem modSession_supply : (s.modSession k fSession).supply = s.supply := rfl
@[simp] theorem modTeller_supply : (s.modTeller fTeller).supply = s.supply := by rfl
@[simp] theorem modCtx_supply : (s.modCtx c fCtx).supply = s.supply := rfl
@[simp] theorem modEng_supply : (s.modEng e fEng).supply = s.supply := by rfl
@[simp] theorem modCoil_supply : (s.modCoil e k fCoil).supply = s.supply := rfl
@[simp] theorem modLoop_supply : (s.modLoop e fLoop).supply = s.supply := by rfl
@[simp] theorem modInput_supply : (s.modInput n fInput).supply = s.supply := rfl
@[simp] theorem modCos_supply : (s.modCos k fCos).supply = s.supply := by rfl
@[simp] theorem modPort_supply : (s.modPort p fPort).supply = s.supply := rfl
@[simp] theorem modStream_supply : (s.modStream k fStream).supply = s.supply := by rfl
@[simp] theorem modCan_supply : (s.modCan k fCan).supply = s.supply := rfl
@[simp] theorem modLin_supply : (s.modLin k fLin).supply = s.supply := by rfl
@[simp] theorem modT1s_supply : (s.modT1s k fT1s).supply = s.supply := rfl
@[simp] theorem modIso_supply : (s.modIso k fIso).supply = s.supply := by rfl
@[simp] theorem modTally_supply : (s.modTally fTally).supply = s.supply := rfl
@[simp] theorem modAccess_supply : (s.modAccess fAccess).supply = s.supply := by rfl
@[simp] theorem modUpdate_supply : (s.modUpdate fUpdate).supply = s.supply := rfl
@[simp] theorem send_supply : (s.send x).supply = s.supply := by rfl
@[simp] theorem draw_supply : (s.draw.2).supply = s.supply := rfl
@[simp] theorem open_supply : (s.open_.2).supply = s.supply := by rfl
@[simp] theorem keep_supply : (s.keep t).supply = t.supply := rfl

/-! ### pending -/

@[simp] theorem wr_pending : (s.wr i j v).pending = s.pending := by rfl
@[simp] theorem modCell_pending : (s.modCell n fCell).pending = s.pending := rfl
@[simp] theorem modBank_pending : (s.modBank b fBank).pending = s.pending := by rfl
@[simp] theorem modGang_pending : (s.modGang g fGang).pending = s.pending := rfl
@[simp] theorem modSource_pending : (s.modSource n fSource).pending = s.pending := by rfl
@[simp] theorem modSession_pending : (s.modSession k fSession).pending = s.pending := rfl
@[simp] theorem modTeller_pending : (s.modTeller fTeller).pending = s.pending := by rfl
@[simp] theorem modCtx_pending : (s.modCtx c fCtx).pending = s.pending := rfl
@[simp] theorem modEng_pending : (s.modEng e fEng).pending = s.pending := by rfl
@[simp] theorem modCoil_pending : (s.modCoil e k fCoil).pending = s.pending := rfl
@[simp] theorem modLoop_pending : (s.modLoop e fLoop).pending = s.pending := by rfl
@[simp] theorem modInput_pending : (s.modInput n fInput).pending = s.pending := rfl
@[simp] theorem modCos_pending : (s.modCos k fCos).pending = s.pending := by rfl
@[simp] theorem modPort_pending : (s.modPort p fPort).pending = s.pending := rfl
@[simp] theorem modStream_pending : (s.modStream k fStream).pending = s.pending := by rfl
@[simp] theorem modCan_pending : (s.modCan k fCan).pending = s.pending := rfl
@[simp] theorem modLin_pending : (s.modLin k fLin).pending = s.pending := by rfl
@[simp] theorem modT1s_pending : (s.modT1s k fT1s).pending = s.pending := rfl
@[simp] theorem modIso_pending : (s.modIso k fIso).pending = s.pending := by rfl
@[simp] theorem modTally_pending : (s.modTally fTally).pending = s.pending := rfl
@[simp] theorem modAccess_pending : (s.modAccess fAccess).pending = s.pending := by rfl
@[simp] theorem modUpdate_pending : (s.modUpdate fUpdate).pending = s.pending := rfl
@[simp] theorem send_pending : (s.send x).pending = s.pending := by rfl
@[simp] theorem draw_pending : (s.draw.2).pending = s.pending := rfl
@[simp] theorem open_pending : (s.open_.2).pending = s.pending := by rfl
@[simp] theorem keep_pending : (s.keep t).pending = s.pending := rfl

/-! ### Entries -/

/-- An entry just written holds the value. -/
@[simp] theorem rd_wr_same : (s.wr i j v).rd i j = v := Map.get_put_same ..

/-- A write leaves every other entry alone. -/
theorem rd_wr_ne {i j i' j' : Nat} (h : i' * 256 + j' ≠ i * 256 + j) : (s.wr i j v).rd i' j' = s.rd i' j' :=
  Map.get_put_ne _ _ _ _ h

/-- An entry reads from the Ledger alone. -/
theorem rd_congr {s t : State} (h : s.ledger = t.ledger) (i j : Nat) : s.rd i j = t.rd i j := by
  unfold rd; rw [h]

@[simp] theorem modCell_rd : (s.modCell n fCell).rd i j = s.rd i j := by rfl
@[simp] theorem modBank_rd : (s.modBank b fBank).rd i j = s.rd i j := rfl
@[simp] theorem modGang_rd : (s.modGang g fGang).rd i j = s.rd i j := by rfl
@[simp] theorem modSource_rd : (s.modSource n fSource).rd i j = s.rd i j := rfl
@[simp] theorem modSession_rd : (s.modSession k fSession).rd i j = s.rd i j := by rfl
@[simp] theorem modTeller_rd : (s.modTeller fTeller).rd i j = s.rd i j := rfl
@[simp] theorem modCtx_rd : (s.modCtx c fCtx).rd i j = s.rd i j := by rfl
@[simp] theorem modEng_rd : (s.modEng e fEng).rd i j = s.rd i j := rfl
@[simp] theorem modCoil_rd : (s.modCoil e k fCoil).rd i j = s.rd i j := by rfl
@[simp] theorem modLoop_rd : (s.modLoop e fLoop).rd i j = s.rd i j := rfl
@[simp] theorem modInput_rd : (s.modInput n fInput).rd i j = s.rd i j := by rfl
@[simp] theorem modCos_rd : (s.modCos k fCos).rd i j = s.rd i j := rfl
@[simp] theorem modPort_rd : (s.modPort p fPort).rd i j = s.rd i j := by rfl
@[simp] theorem modStream_rd : (s.modStream k fStream).rd i j = s.rd i j := rfl
@[simp] theorem modCan_rd : (s.modCan k fCan).rd i j = s.rd i j := by rfl
@[simp] theorem modLin_rd : (s.modLin k fLin).rd i j = s.rd i j := rfl
@[simp] theorem modT1s_rd : (s.modT1s k fT1s).rd i j = s.rd i j := by rfl
@[simp] theorem modIso_rd : (s.modIso k fIso).rd i j = s.rd i j := rfl
@[simp] theorem modTally_rd : (s.modTally fTally).rd i j = s.rd i j := by rfl
@[simp] theorem modAccess_rd : (s.modAccess fAccess).rd i j = s.rd i j := rfl
@[simp] theorem modUpdate_rd : (s.modUpdate fUpdate).rd i j = s.rd i j := by rfl
@[simp] theorem send_rd : (s.send x).rd i j = s.rd i j := rfl
@[simp] theorem draw_rd : (s.draw.2).rd i j = s.rd i j := by rfl
@[simp] theorem open_rd : (s.open_.2).rd i j = s.rd i j := rfl
@[simp] theorem keep_rd : (s.keep t).rd i j = t.rd i j := by rfl

/-! ### A record after its own update -/

@[simp] theorem cell_modCell_same : (s.modCell n fCell).cell n = fCell (s.cell n) := Map.get_modify_same ..

@[simp] theorem modCell_modCell (h : Cell → Cell) : (s.modCell n fCell).modCell n h = s.modCell n fun x => h (fCell x) := by
  simp only [modCell, Map.modify_modify]

theorem cell_modCell_ne {n m : Nat} (h : m ≠ n) : (s.modCell n fCell).cell m = s.cell m := Map.get_modify_ne _ _ _ h

@[simp] theorem bank_modBank_same : (s.modBank b fBank).bank b = fBank (s.bank b) := Map.get_modify_same ..

@[simp] theorem modBank_modBank (h : Bank → Bank) : (s.modBank b fBank).modBank b h = s.modBank b fun x => h (fBank x) := by
  simp only [modBank, Map.modify_modify]

theorem bank_modBank_ne {b m : Nat} (h : m ≠ b) : (s.modBank b fBank).bank m = s.bank m := Map.get_modify_ne _ _ _ h

@[simp] theorem gang_modGang_same : (s.modGang g fGang).gang g = fGang (s.gang g) := Map.get_modify_same ..

@[simp] theorem modGang_modGang (h : Gang → Gang) : (s.modGang g fGang).modGang g h = s.modGang g fun x => h (fGang x) := by
  simp only [modGang, Map.modify_modify]

theorem gang_modGang_ne {g m : Nat} (h : m ≠ g) : (s.modGang g fGang).gang m = s.gang m := Map.get_modify_ne _ _ _ h

@[simp] theorem source_modSource_same : (s.modSource n fSource).source n = fSource (s.source n) := Map.get_modify_same ..

@[simp] theorem modSource_modSource (h : Source → Source) : (s.modSource n fSource).modSource n h = s.modSource n fun x => h (fSource x) := by
  simp only [modSource, Map.modify_modify]

theorem source_modSource_ne {n m : Nat} (h : m ≠ n) : (s.modSource n fSource).source m = s.source m := Map.get_modify_ne _ _ _ h

@[simp] theorem session_modSession_same : (s.modSession k fSession).session k = fSession (s.session k) := Map.get_modify_same ..

@[simp] theorem modSession_modSession (h : Session → Session) : (s.modSession k fSession).modSession k h = s.modSession k fun x => h (fSession x) := by
  simp only [modSession, Map.modify_modify]

theorem session_modSession_ne {k m : Nat} (h : m ≠ k) : (s.modSession k fSession).session m = s.session m := Map.get_modify_ne _ _ _ h

@[simp] theorem ctx_modCtx_same : (s.modCtx c fCtx).ctx c = fCtx (s.ctx c) := Map.get_modify_same ..

@[simp] theorem modCtx_modCtx (h : Ctx → Ctx) : (s.modCtx c fCtx).modCtx c h = s.modCtx c fun x => h (fCtx x) := by
  simp only [modCtx, Map.modify_modify]

theorem ctx_modCtx_ne {c m : Nat} (h : m ≠ c) : (s.modCtx c fCtx).ctx m = s.ctx m := Map.get_modify_ne _ _ _ h

@[simp] theorem eng_modEng_same : (s.modEng e fEng).eng e = fEng (s.eng e) := Map.get_modify_same ..

@[simp] theorem modEng_modEng (h : Eng → Eng) : (s.modEng e fEng).modEng e h = s.modEng e fun x => h (fEng x) := by
  simp only [modEng, Map.modify_modify]

theorem eng_modEng_ne {e m : Nat} (h : m ≠ e) : (s.modEng e fEng).eng m = s.eng m := Map.get_modify_ne _ _ _ h

@[simp] theorem loop_modLoop_same : (s.modLoop e fLoop).loop e = fLoop (s.loop e) := Map.get_modify_same ..

@[simp] theorem modLoop_modLoop (h : Loop → Loop) : (s.modLoop e fLoop).modLoop e h = s.modLoop e fun x => h (fLoop x) := by
  simp only [modLoop, Map.modify_modify]

theorem loop_modLoop_ne {e m : Nat} (h : m ≠ e) : (s.modLoop e fLoop).loop m = s.loop m := Map.get_modify_ne _ _ _ h

@[simp] theorem input_modInput_same : (s.modInput n fInput).input n = fInput (s.input n) := Map.get_modify_same ..

@[simp] theorem modInput_modInput (h : Input → Input) : (s.modInput n fInput).modInput n h = s.modInput n fun x => h (fInput x) := by
  simp only [modInput, Map.modify_modify]

theorem input_modInput_ne {n m : Nat} (h : m ≠ n) : (s.modInput n fInput).input m = s.input m := Map.get_modify_ne _ _ _ h

@[simp] theorem cosOf_modCos_same : (s.modCos k fCos).cosOf k = fCos (s.cosOf k) := Map.get_modify_same ..

@[simp] theorem modCos_modCos (h : Cos → Cos) : (s.modCos k fCos).modCos k h = s.modCos k fun x => h (fCos x) := by
  simp only [modCos, Map.modify_modify]

theorem cosOf_modCos_ne {k m : Nat} (h : m ≠ k) : (s.modCos k fCos).cosOf m = s.cosOf m := Map.get_modify_ne _ _ _ h

@[simp] theorem port_modPort_same : (s.modPort p fPort).port p = fPort (s.port p) := Map.get_modify_same ..

@[simp] theorem modPort_modPort (h : Port → Port) : (s.modPort p fPort).modPort p h = s.modPort p fun x => h (fPort x) := by
  simp only [modPort, Map.modify_modify]

theorem port_modPort_ne {p m : Nat} (h : m ≠ p) : (s.modPort p fPort).port m = s.port m := Map.get_modify_ne _ _ _ h

@[simp] theorem stream_modStream_same : (s.modStream k fStream).stream k = fStream (s.stream k) := Map.get_modify_same ..

@[simp] theorem modStream_modStream (h : Stream → Stream) : (s.modStream k fStream).modStream k h = s.modStream k fun x => h (fStream x) := by
  simp only [modStream, Map.modify_modify]

theorem stream_modStream_ne {k m : Nat} (h : m ≠ k) : (s.modStream k fStream).stream m = s.stream m := Map.get_modify_ne _ _ _ h

@[simp] theorem can_modCan_same : (s.modCan k fCan).can k = fCan (s.can k) := Map.get_modify_same ..

@[simp] theorem modCan_modCan (h : Can → Can) : (s.modCan k fCan).modCan k h = s.modCan k fun x => h (fCan x) := by
  simp only [modCan, Map.modify_modify]

theorem can_modCan_ne {k m : Nat} (h : m ≠ k) : (s.modCan k fCan).can m = s.can m := Map.get_modify_ne _ _ _ h

@[simp] theorem lin_modLin_same : (s.modLin k fLin).lin k = fLin (s.lin k) := Map.get_modify_same ..

@[simp] theorem modLin_modLin (h : Lin → Lin) : (s.modLin k fLin).modLin k h = s.modLin k fun x => h (fLin x) := by
  simp only [modLin, Map.modify_modify]

theorem lin_modLin_ne {k m : Nat} (h : m ≠ k) : (s.modLin k fLin).lin m = s.lin m := Map.get_modify_ne _ _ _ h

@[simp] theorem t1s_modT1s_same : (s.modT1s k fT1s).t1s k = fT1s (s.t1s k) := Map.get_modify_same ..

@[simp] theorem modT1s_modT1s (h : T1s → T1s) : (s.modT1s k fT1s).modT1s k h = s.modT1s k fun x => h (fT1s x) := by
  simp only [modT1s, Map.modify_modify]

theorem t1s_modT1s_ne {k m : Nat} (h : m ≠ k) : (s.modT1s k fT1s).t1s m = s.t1s m := Map.get_modify_ne _ _ _ h

@[simp] theorem isoTp_modIso_same : (s.modIso k fIso).isoTp k = fIso (s.isoTp k) := Map.get_modify_same ..

@[simp] theorem modIso_modIso (h : IsoTp → IsoTp) : (s.modIso k fIso).modIso k h = s.modIso k fun x => h (fIso x) := by
  simp only [modIso, Map.modify_modify]

theorem isoTp_modIso_ne {k m : Nat} (h : m ≠ k) : (s.modIso k fIso).isoTp m = s.isoTp m := Map.get_modify_ne _ _ _ h

/-! ### port after what does not touch it -/

@[simp] theorem wr_port (m_ : Nat) : (s.wr i j v).port m_ = s.port m_ := by rfl
@[simp] theorem modCell_port (m_ : Nat) : (s.modCell n fCell).port m_ = s.port m_ := rfl
@[simp] theorem modBank_port (m_ : Nat) : (s.modBank b fBank).port m_ = s.port m_ := by rfl
@[simp] theorem modGang_port (m_ : Nat) : (s.modGang g fGang).port m_ = s.port m_ := rfl
@[simp] theorem modSource_port (m_ : Nat) : (s.modSource n fSource).port m_ = s.port m_ := by rfl
@[simp] theorem modSession_port (m_ : Nat) : (s.modSession k fSession).port m_ = s.port m_ := rfl
@[simp] theorem modTeller_port (m_ : Nat) : (s.modTeller fTeller).port m_ = s.port m_ := by rfl
@[simp] theorem modCtx_port (m_ : Nat) : (s.modCtx c fCtx).port m_ = s.port m_ := rfl
@[simp] theorem modEng_port (m_ : Nat) : (s.modEng e fEng).port m_ = s.port m_ := by rfl
@[simp] theorem modCoil_port (m_ : Nat) : (s.modCoil e k fCoil).port m_ = s.port m_ := rfl
@[simp] theorem modLoop_port (m_ : Nat) : (s.modLoop e fLoop).port m_ = s.port m_ := by rfl
@[simp] theorem modInput_port (m_ : Nat) : (s.modInput n fInput).port m_ = s.port m_ := rfl
@[simp] theorem modCos_port (m_ : Nat) : (s.modCos k fCos).port m_ = s.port m_ := by rfl
@[simp] theorem modStream_port (m_ : Nat) : (s.modStream k fStream).port m_ = s.port m_ := rfl
@[simp] theorem modCan_port (m_ : Nat) : (s.modCan k fCan).port m_ = s.port m_ := by rfl
@[simp] theorem modLin_port (m_ : Nat) : (s.modLin k fLin).port m_ = s.port m_ := rfl
@[simp] theorem modT1s_port (m_ : Nat) : (s.modT1s k fT1s).port m_ = s.port m_ := by rfl
@[simp] theorem modIso_port (m_ : Nat) : (s.modIso k fIso).port m_ = s.port m_ := rfl
@[simp] theorem modTally_port (m_ : Nat) : (s.modTally fTally).port m_ = s.port m_ := by rfl
@[simp] theorem modAccess_port (m_ : Nat) : (s.modAccess fAccess).port m_ = s.port m_ := rfl
@[simp] theorem modUpdate_port (m_ : Nat) : (s.modUpdate fUpdate).port m_ = s.port m_ := by rfl
@[simp] theorem send_port (m_ : Nat) : (s.send x).port m_ = s.port m_ := rfl
@[simp] theorem draw_port (m_ : Nat) : (s.draw.2).port m_ = s.port m_ := by rfl
@[simp] theorem open_port (m_ : Nat) : (s.open_.2).port m_ = s.port m_ := rfl
@[simp] theorem keep_port (m_ : Nat) : (s.keep t).port m_ = t.port m_ := by rfl

/-! ### stream after what does not touch it -/

@[simp] theorem wr_stream (m_ : Nat) : (s.wr i j v).stream m_ = s.stream m_ := by rfl
@[simp] theorem modCell_stream (m_ : Nat) : (s.modCell n fCell).stream m_ = s.stream m_ := rfl
@[simp] theorem modBank_stream (m_ : Nat) : (s.modBank b fBank).stream m_ = s.stream m_ := by rfl
@[simp] theorem modGang_stream (m_ : Nat) : (s.modGang g fGang).stream m_ = s.stream m_ := rfl
@[simp] theorem modSource_stream (m_ : Nat) : (s.modSource n fSource).stream m_ = s.stream m_ := by rfl
@[simp] theorem modSession_stream (m_ : Nat) : (s.modSession k fSession).stream m_ = s.stream m_ := rfl
@[simp] theorem modTeller_stream (m_ : Nat) : (s.modTeller fTeller).stream m_ = s.stream m_ := by rfl
@[simp] theorem modCtx_stream (m_ : Nat) : (s.modCtx c fCtx).stream m_ = s.stream m_ := rfl
@[simp] theorem modEng_stream (m_ : Nat) : (s.modEng e fEng).stream m_ = s.stream m_ := by rfl
@[simp] theorem modCoil_stream (m_ : Nat) : (s.modCoil e k fCoil).stream m_ = s.stream m_ := rfl
@[simp] theorem modLoop_stream (m_ : Nat) : (s.modLoop e fLoop).stream m_ = s.stream m_ := by rfl
@[simp] theorem modInput_stream (m_ : Nat) : (s.modInput n fInput).stream m_ = s.stream m_ := rfl
@[simp] theorem modCos_stream (m_ : Nat) : (s.modCos k fCos).stream m_ = s.stream m_ := by rfl
@[simp] theorem modPort_stream (m_ : Nat) : (s.modPort p fPort).stream m_ = s.stream m_ := rfl
@[simp] theorem modCan_stream (m_ : Nat) : (s.modCan k fCan).stream m_ = s.stream m_ := by rfl
@[simp] theorem modLin_stream (m_ : Nat) : (s.modLin k fLin).stream m_ = s.stream m_ := rfl
@[simp] theorem modT1s_stream (m_ : Nat) : (s.modT1s k fT1s).stream m_ = s.stream m_ := by rfl
@[simp] theorem modIso_stream (m_ : Nat) : (s.modIso k fIso).stream m_ = s.stream m_ := rfl
@[simp] theorem modTally_stream (m_ : Nat) : (s.modTally fTally).stream m_ = s.stream m_ := by rfl
@[simp] theorem modAccess_stream (m_ : Nat) : (s.modAccess fAccess).stream m_ = s.stream m_ := rfl
@[simp] theorem modUpdate_stream (m_ : Nat) : (s.modUpdate fUpdate).stream m_ = s.stream m_ := by rfl
@[simp] theorem send_stream (m_ : Nat) : (s.send x).stream m_ = s.stream m_ := rfl
@[simp] theorem draw_stream (m_ : Nat) : (s.draw.2).stream m_ = s.stream m_ := by rfl
@[simp] theorem open_stream (m_ : Nat) : (s.open_.2).stream m_ = s.stream m_ := rfl
@[simp] theorem keep_stream (m_ : Nat) : (s.keep t).stream m_ = t.stream m_ := by rfl

/-! ### can after what does not touch it -/

@[simp] theorem wr_can (m_ : Nat) : (s.wr i j v).can m_ = s.can m_ := by rfl
@[simp] theorem modCell_can (m_ : Nat) : (s.modCell n fCell).can m_ = s.can m_ := rfl
@[simp] theorem modBank_can (m_ : Nat) : (s.modBank b fBank).can m_ = s.can m_ := by rfl
@[simp] theorem modGang_can (m_ : Nat) : (s.modGang g fGang).can m_ = s.can m_ := rfl
@[simp] theorem modSource_can (m_ : Nat) : (s.modSource n fSource).can m_ = s.can m_ := by rfl
@[simp] theorem modSession_can (m_ : Nat) : (s.modSession k fSession).can m_ = s.can m_ := rfl
@[simp] theorem modTeller_can (m_ : Nat) : (s.modTeller fTeller).can m_ = s.can m_ := by rfl
@[simp] theorem modCtx_can (m_ : Nat) : (s.modCtx c fCtx).can m_ = s.can m_ := rfl
@[simp] theorem modEng_can (m_ : Nat) : (s.modEng e fEng).can m_ = s.can m_ := by rfl
@[simp] theorem modCoil_can (m_ : Nat) : (s.modCoil e k fCoil).can m_ = s.can m_ := rfl
@[simp] theorem modLoop_can (m_ : Nat) : (s.modLoop e fLoop).can m_ = s.can m_ := by rfl
@[simp] theorem modInput_can (m_ : Nat) : (s.modInput n fInput).can m_ = s.can m_ := rfl
@[simp] theorem modCos_can (m_ : Nat) : (s.modCos k fCos).can m_ = s.can m_ := by rfl
@[simp] theorem modPort_can (m_ : Nat) : (s.modPort p fPort).can m_ = s.can m_ := rfl
@[simp] theorem modStream_can (m_ : Nat) : (s.modStream k fStream).can m_ = s.can m_ := by rfl
@[simp] theorem modLin_can (m_ : Nat) : (s.modLin k fLin).can m_ = s.can m_ := rfl
@[simp] theorem modT1s_can (m_ : Nat) : (s.modT1s k fT1s).can m_ = s.can m_ := by rfl
@[simp] theorem modIso_can (m_ : Nat) : (s.modIso k fIso).can m_ = s.can m_ := rfl
@[simp] theorem modTally_can (m_ : Nat) : (s.modTally fTally).can m_ = s.can m_ := by rfl
@[simp] theorem modAccess_can (m_ : Nat) : (s.modAccess fAccess).can m_ = s.can m_ := rfl
@[simp] theorem modUpdate_can (m_ : Nat) : (s.modUpdate fUpdate).can m_ = s.can m_ := by rfl
@[simp] theorem send_can (m_ : Nat) : (s.send x).can m_ = s.can m_ := rfl
@[simp] theorem draw_can (m_ : Nat) : (s.draw.2).can m_ = s.can m_ := by rfl
@[simp] theorem open_can (m_ : Nat) : (s.open_.2).can m_ = s.can m_ := rfl
@[simp] theorem keep_can (m_ : Nat) : (s.keep t).can m_ = t.can m_ := by rfl

/-! ### isoTp after what does not touch it -/

@[simp] theorem wr_isoTp (m_ : Nat) : (s.wr i j v).isoTp m_ = s.isoTp m_ := by rfl
@[simp] theorem modCell_isoTp (m_ : Nat) : (s.modCell n fCell).isoTp m_ = s.isoTp m_ := rfl
@[simp] theorem modBank_isoTp (m_ : Nat) : (s.modBank b fBank).isoTp m_ = s.isoTp m_ := by rfl
@[simp] theorem modGang_isoTp (m_ : Nat) : (s.modGang g fGang).isoTp m_ = s.isoTp m_ := rfl
@[simp] theorem modSource_isoTp (m_ : Nat) : (s.modSource n fSource).isoTp m_ = s.isoTp m_ := by rfl
@[simp] theorem modSession_isoTp (m_ : Nat) : (s.modSession k fSession).isoTp m_ = s.isoTp m_ := rfl
@[simp] theorem modTeller_isoTp (m_ : Nat) : (s.modTeller fTeller).isoTp m_ = s.isoTp m_ := by rfl
@[simp] theorem modCtx_isoTp (m_ : Nat) : (s.modCtx c fCtx).isoTp m_ = s.isoTp m_ := rfl
@[simp] theorem modEng_isoTp (m_ : Nat) : (s.modEng e fEng).isoTp m_ = s.isoTp m_ := by rfl
@[simp] theorem modCoil_isoTp (m_ : Nat) : (s.modCoil e k fCoil).isoTp m_ = s.isoTp m_ := rfl
@[simp] theorem modLoop_isoTp (m_ : Nat) : (s.modLoop e fLoop).isoTp m_ = s.isoTp m_ := by rfl
@[simp] theorem modInput_isoTp (m_ : Nat) : (s.modInput n fInput).isoTp m_ = s.isoTp m_ := rfl
@[simp] theorem modCos_isoTp (m_ : Nat) : (s.modCos k fCos).isoTp m_ = s.isoTp m_ := by rfl
@[simp] theorem modPort_isoTp (m_ : Nat) : (s.modPort p fPort).isoTp m_ = s.isoTp m_ := rfl
@[simp] theorem modStream_isoTp (m_ : Nat) : (s.modStream k fStream).isoTp m_ = s.isoTp m_ := by rfl
@[simp] theorem modCan_isoTp (m_ : Nat) : (s.modCan k fCan).isoTp m_ = s.isoTp m_ := rfl
@[simp] theorem modLin_isoTp (m_ : Nat) : (s.modLin k fLin).isoTp m_ = s.isoTp m_ := by rfl
@[simp] theorem modT1s_isoTp (m_ : Nat) : (s.modT1s k fT1s).isoTp m_ = s.isoTp m_ := rfl
@[simp] theorem modTally_isoTp (m_ : Nat) : (s.modTally fTally).isoTp m_ = s.isoTp m_ := by rfl
@[simp] theorem modAccess_isoTp (m_ : Nat) : (s.modAccess fAccess).isoTp m_ = s.isoTp m_ := rfl
@[simp] theorem modUpdate_isoTp (m_ : Nat) : (s.modUpdate fUpdate).isoTp m_ = s.isoTp m_ := by rfl
@[simp] theorem send_isoTp (m_ : Nat) : (s.send x).isoTp m_ = s.isoTp m_ := rfl
@[simp] theorem draw_isoTp (m_ : Nat) : (s.draw.2).isoTp m_ = s.isoTp m_ := by rfl
@[simp] theorem open_isoTp (m_ : Nat) : (s.open_.2).isoTp m_ = s.isoTp m_ := rfl
@[simp] theorem keep_isoTp (m_ : Nat) : (s.keep t).isoTp m_ = t.isoTp m_ := by rfl

/-! ### cell after what does not touch it -/

@[simp] theorem wr_cell (m_ : Nat) : (s.wr i j v).cell m_ = s.cell m_ := by rfl
@[simp] theorem modBank_cell (m_ : Nat) : (s.modBank b fBank).cell m_ = s.cell m_ := rfl
@[simp] theorem modGang_cell (m_ : Nat) : (s.modGang g fGang).cell m_ = s.cell m_ := by rfl
@[simp] theorem modSource_cell (m_ : Nat) : (s.modSource n fSource).cell m_ = s.cell m_ := rfl
@[simp] theorem modSession_cell (m_ : Nat) : (s.modSession k fSession).cell m_ = s.cell m_ := by rfl
@[simp] theorem modTeller_cell (m_ : Nat) : (s.modTeller fTeller).cell m_ = s.cell m_ := rfl
@[simp] theorem modCtx_cell (m_ : Nat) : (s.modCtx c fCtx).cell m_ = s.cell m_ := by rfl
@[simp] theorem modEng_cell (m_ : Nat) : (s.modEng e fEng).cell m_ = s.cell m_ := rfl
@[simp] theorem modCoil_cell (m_ : Nat) : (s.modCoil e k fCoil).cell m_ = s.cell m_ := by rfl
@[simp] theorem modLoop_cell (m_ : Nat) : (s.modLoop e fLoop).cell m_ = s.cell m_ := rfl
@[simp] theorem modInput_cell (m_ : Nat) : (s.modInput n fInput).cell m_ = s.cell m_ := by rfl
@[simp] theorem modCos_cell (m_ : Nat) : (s.modCos k fCos).cell m_ = s.cell m_ := rfl
@[simp] theorem modPort_cell (m_ : Nat) : (s.modPort p fPort).cell m_ = s.cell m_ := by rfl
@[simp] theorem modStream_cell (m_ : Nat) : (s.modStream k fStream).cell m_ = s.cell m_ := rfl
@[simp] theorem modCan_cell (m_ : Nat) : (s.modCan k fCan).cell m_ = s.cell m_ := by rfl
@[simp] theorem modLin_cell (m_ : Nat) : (s.modLin k fLin).cell m_ = s.cell m_ := rfl
@[simp] theorem modT1s_cell (m_ : Nat) : (s.modT1s k fT1s).cell m_ = s.cell m_ := by rfl
@[simp] theorem modIso_cell (m_ : Nat) : (s.modIso k fIso).cell m_ = s.cell m_ := rfl
@[simp] theorem modTally_cell (m_ : Nat) : (s.modTally fTally).cell m_ = s.cell m_ := by rfl
@[simp] theorem modAccess_cell (m_ : Nat) : (s.modAccess fAccess).cell m_ = s.cell m_ := rfl
@[simp] theorem modUpdate_cell (m_ : Nat) : (s.modUpdate fUpdate).cell m_ = s.cell m_ := by rfl
@[simp] theorem send_cell (m_ : Nat) : (s.send x).cell m_ = s.cell m_ := rfl
@[simp] theorem draw_cell (m_ : Nat) : (s.draw.2).cell m_ = s.cell m_ := by rfl
@[simp] theorem open_cell (m_ : Nat) : (s.open_.2).cell m_ = s.cell m_ := rfl
@[simp] theorem keep_cell (m_ : Nat) : (s.keep t).cell m_ = t.cell m_ := by rfl

/-! ### bank after what does not touch it -/

@[simp] theorem wr_bank (m_ : Nat) : (s.wr i j v).bank m_ = s.bank m_ := by rfl
@[simp] theorem modCell_bank (m_ : Nat) : (s.modCell n fCell).bank m_ = s.bank m_ := rfl
@[simp] theorem modGang_bank (m_ : Nat) : (s.modGang g fGang).bank m_ = s.bank m_ := by rfl
@[simp] theorem modSource_bank (m_ : Nat) : (s.modSource n fSource).bank m_ = s.bank m_ := rfl
@[simp] theorem modSession_bank (m_ : Nat) : (s.modSession k fSession).bank m_ = s.bank m_ := by rfl
@[simp] theorem modTeller_bank (m_ : Nat) : (s.modTeller fTeller).bank m_ = s.bank m_ := rfl
@[simp] theorem modCtx_bank (m_ : Nat) : (s.modCtx c fCtx).bank m_ = s.bank m_ := by rfl
@[simp] theorem modEng_bank (m_ : Nat) : (s.modEng e fEng).bank m_ = s.bank m_ := rfl
@[simp] theorem modCoil_bank (m_ : Nat) : (s.modCoil e k fCoil).bank m_ = s.bank m_ := by rfl
@[simp] theorem modLoop_bank (m_ : Nat) : (s.modLoop e fLoop).bank m_ = s.bank m_ := rfl
@[simp] theorem modInput_bank (m_ : Nat) : (s.modInput n fInput).bank m_ = s.bank m_ := by rfl
@[simp] theorem modCos_bank (m_ : Nat) : (s.modCos k fCos).bank m_ = s.bank m_ := rfl
@[simp] theorem modPort_bank (m_ : Nat) : (s.modPort p fPort).bank m_ = s.bank m_ := by rfl
@[simp] theorem modStream_bank (m_ : Nat) : (s.modStream k fStream).bank m_ = s.bank m_ := rfl
@[simp] theorem modCan_bank (m_ : Nat) : (s.modCan k fCan).bank m_ = s.bank m_ := by rfl
@[simp] theorem modLin_bank (m_ : Nat) : (s.modLin k fLin).bank m_ = s.bank m_ := rfl
@[simp] theorem modT1s_bank (m_ : Nat) : (s.modT1s k fT1s).bank m_ = s.bank m_ := by rfl
@[simp] theorem modIso_bank (m_ : Nat) : (s.modIso k fIso).bank m_ = s.bank m_ := rfl
@[simp] theorem modTally_bank (m_ : Nat) : (s.modTally fTally).bank m_ = s.bank m_ := by rfl
@[simp] theorem modAccess_bank (m_ : Nat) : (s.modAccess fAccess).bank m_ = s.bank m_ := rfl
@[simp] theorem modUpdate_bank (m_ : Nat) : (s.modUpdate fUpdate).bank m_ = s.bank m_ := by rfl
@[simp] theorem send_bank (m_ : Nat) : (s.send x).bank m_ = s.bank m_ := rfl
@[simp] theorem draw_bank (m_ : Nat) : (s.draw.2).bank m_ = s.bank m_ := by rfl
@[simp] theorem open_bank (m_ : Nat) : (s.open_.2).bank m_ = s.bank m_ := rfl
@[simp] theorem keep_bank (m_ : Nat) : (s.keep t).bank m_ = t.bank m_ := by rfl

/-! ### gang after what does not touch it -/

@[simp] theorem wr_gang (m_ : Nat) : (s.wr i j v).gang m_ = s.gang m_ := by rfl
@[simp] theorem modCell_gang (m_ : Nat) : (s.modCell n fCell).gang m_ = s.gang m_ := rfl
@[simp] theorem modBank_gang (m_ : Nat) : (s.modBank b fBank).gang m_ = s.gang m_ := by rfl
@[simp] theorem modSource_gang (m_ : Nat) : (s.modSource n fSource).gang m_ = s.gang m_ := rfl
@[simp] theorem modSession_gang (m_ : Nat) : (s.modSession k fSession).gang m_ = s.gang m_ := by rfl
@[simp] theorem modTeller_gang (m_ : Nat) : (s.modTeller fTeller).gang m_ = s.gang m_ := rfl
@[simp] theorem modCtx_gang (m_ : Nat) : (s.modCtx c fCtx).gang m_ = s.gang m_ := by rfl
@[simp] theorem modEng_gang (m_ : Nat) : (s.modEng e fEng).gang m_ = s.gang m_ := rfl
@[simp] theorem modCoil_gang (m_ : Nat) : (s.modCoil e k fCoil).gang m_ = s.gang m_ := by rfl
@[simp] theorem modLoop_gang (m_ : Nat) : (s.modLoop e fLoop).gang m_ = s.gang m_ := rfl
@[simp] theorem modInput_gang (m_ : Nat) : (s.modInput n fInput).gang m_ = s.gang m_ := by rfl
@[simp] theorem modCos_gang (m_ : Nat) : (s.modCos k fCos).gang m_ = s.gang m_ := rfl
@[simp] theorem modPort_gang (m_ : Nat) : (s.modPort p fPort).gang m_ = s.gang m_ := by rfl
@[simp] theorem modStream_gang (m_ : Nat) : (s.modStream k fStream).gang m_ = s.gang m_ := rfl
@[simp] theorem modCan_gang (m_ : Nat) : (s.modCan k fCan).gang m_ = s.gang m_ := by rfl
@[simp] theorem modLin_gang (m_ : Nat) : (s.modLin k fLin).gang m_ = s.gang m_ := rfl
@[simp] theorem modT1s_gang (m_ : Nat) : (s.modT1s k fT1s).gang m_ = s.gang m_ := by rfl
@[simp] theorem modIso_gang (m_ : Nat) : (s.modIso k fIso).gang m_ = s.gang m_ := rfl
@[simp] theorem modTally_gang (m_ : Nat) : (s.modTally fTally).gang m_ = s.gang m_ := by rfl
@[simp] theorem modAccess_gang (m_ : Nat) : (s.modAccess fAccess).gang m_ = s.gang m_ := rfl
@[simp] theorem modUpdate_gang (m_ : Nat) : (s.modUpdate fUpdate).gang m_ = s.gang m_ := by rfl
@[simp] theorem send_gang (m_ : Nat) : (s.send x).gang m_ = s.gang m_ := rfl
@[simp] theorem draw_gang (m_ : Nat) : (s.draw.2).gang m_ = s.gang m_ := by rfl
@[simp] theorem open_gang (m_ : Nat) : (s.open_.2).gang m_ = s.gang m_ := rfl
@[simp] theorem keep_gang (m_ : Nat) : (s.keep t).gang m_ = t.gang m_ := by rfl

/-! ### source after what does not touch it -/

@[simp] theorem wr_source (m_ : Nat) : (s.wr i j v).source m_ = s.source m_ := by rfl
@[simp] theorem modCell_source (m_ : Nat) : (s.modCell n fCell).source m_ = s.source m_ := rfl
@[simp] theorem modBank_source (m_ : Nat) : (s.modBank b fBank).source m_ = s.source m_ := by rfl
@[simp] theorem modGang_source (m_ : Nat) : (s.modGang g fGang).source m_ = s.source m_ := rfl
@[simp] theorem modSession_source (m_ : Nat) : (s.modSession k fSession).source m_ = s.source m_ := by rfl
@[simp] theorem modTeller_source (m_ : Nat) : (s.modTeller fTeller).source m_ = s.source m_ := rfl
@[simp] theorem modCtx_source (m_ : Nat) : (s.modCtx c fCtx).source m_ = s.source m_ := by rfl
@[simp] theorem modEng_source (m_ : Nat) : (s.modEng e fEng).source m_ = s.source m_ := rfl
@[simp] theorem modCoil_source (m_ : Nat) : (s.modCoil e k fCoil).source m_ = s.source m_ := by rfl
@[simp] theorem modLoop_source (m_ : Nat) : (s.modLoop e fLoop).source m_ = s.source m_ := rfl
@[simp] theorem modInput_source (m_ : Nat) : (s.modInput n fInput).source m_ = s.source m_ := by rfl
@[simp] theorem modCos_source (m_ : Nat) : (s.modCos k fCos).source m_ = s.source m_ := rfl
@[simp] theorem modPort_source (m_ : Nat) : (s.modPort p fPort).source m_ = s.source m_ := by rfl
@[simp] theorem modStream_source (m_ : Nat) : (s.modStream k fStream).source m_ = s.source m_ := rfl
@[simp] theorem modCan_source (m_ : Nat) : (s.modCan k fCan).source m_ = s.source m_ := by rfl
@[simp] theorem modLin_source (m_ : Nat) : (s.modLin k fLin).source m_ = s.source m_ := rfl
@[simp] theorem modT1s_source (m_ : Nat) : (s.modT1s k fT1s).source m_ = s.source m_ := by rfl
@[simp] theorem modIso_source (m_ : Nat) : (s.modIso k fIso).source m_ = s.source m_ := rfl
@[simp] theorem modTally_source (m_ : Nat) : (s.modTally fTally).source m_ = s.source m_ := by rfl
@[simp] theorem modAccess_source (m_ : Nat) : (s.modAccess fAccess).source m_ = s.source m_ := rfl
@[simp] theorem modUpdate_source (m_ : Nat) : (s.modUpdate fUpdate).source m_ = s.source m_ := by rfl
@[simp] theorem send_source (m_ : Nat) : (s.send x).source m_ = s.source m_ := rfl
@[simp] theorem draw_source (m_ : Nat) : (s.draw.2).source m_ = s.source m_ := by rfl
@[simp] theorem open_source (m_ : Nat) : (s.open_.2).source m_ = s.source m_ := rfl
@[simp] theorem keep_source (m_ : Nat) : (s.keep t).source m_ = t.source m_ := by rfl

/-! ### session after what does not touch it -/

@[simp] theorem wr_session (m_ : Nat) : (s.wr i j v).session m_ = s.session m_ := by rfl
@[simp] theorem modCell_session (m_ : Nat) : (s.modCell n fCell).session m_ = s.session m_ := rfl
@[simp] theorem modBank_session (m_ : Nat) : (s.modBank b fBank).session m_ = s.session m_ := by rfl
@[simp] theorem modGang_session (m_ : Nat) : (s.modGang g fGang).session m_ = s.session m_ := rfl
@[simp] theorem modSource_session (m_ : Nat) : (s.modSource n fSource).session m_ = s.session m_ := by rfl
@[simp] theorem modTeller_session (m_ : Nat) : (s.modTeller fTeller).session m_ = s.session m_ := rfl
@[simp] theorem modCtx_session (m_ : Nat) : (s.modCtx c fCtx).session m_ = s.session m_ := by rfl
@[simp] theorem modEng_session (m_ : Nat) : (s.modEng e fEng).session m_ = s.session m_ := rfl
@[simp] theorem modCoil_session (m_ : Nat) : (s.modCoil e k fCoil).session m_ = s.session m_ := by rfl
@[simp] theorem modLoop_session (m_ : Nat) : (s.modLoop e fLoop).session m_ = s.session m_ := rfl
@[simp] theorem modInput_session (m_ : Nat) : (s.modInput n fInput).session m_ = s.session m_ := by rfl
@[simp] theorem modCos_session (m_ : Nat) : (s.modCos k fCos).session m_ = s.session m_ := rfl
@[simp] theorem modPort_session (m_ : Nat) : (s.modPort p fPort).session m_ = s.session m_ := by rfl
@[simp] theorem modStream_session (m_ : Nat) : (s.modStream k fStream).session m_ = s.session m_ := rfl
@[simp] theorem modCan_session (m_ : Nat) : (s.modCan k fCan).session m_ = s.session m_ := by rfl
@[simp] theorem modLin_session (m_ : Nat) : (s.modLin k fLin).session m_ = s.session m_ := rfl
@[simp] theorem modT1s_session (m_ : Nat) : (s.modT1s k fT1s).session m_ = s.session m_ := by rfl
@[simp] theorem modIso_session (m_ : Nat) : (s.modIso k fIso).session m_ = s.session m_ := rfl
@[simp] theorem modTally_session (m_ : Nat) : (s.modTally fTally).session m_ = s.session m_ := by rfl
@[simp] theorem modAccess_session (m_ : Nat) : (s.modAccess fAccess).session m_ = s.session m_ := rfl
@[simp] theorem modUpdate_session (m_ : Nat) : (s.modUpdate fUpdate).session m_ = s.session m_ := by rfl
@[simp] theorem send_session (m_ : Nat) : (s.send x).session m_ = s.session m_ := rfl
@[simp] theorem draw_session (m_ : Nat) : (s.draw.2).session m_ = s.session m_ := by rfl
@[simp] theorem open_session (m_ : Nat) : (s.open_.2).session m_ = s.session m_ := rfl
@[simp] theorem keep_session (m_ : Nat) : (s.keep t).session m_ = t.session m_ := by rfl

/-! ### lin after what does not touch it -/

@[simp] theorem wr_lin (m_ : Nat) : (s.wr i j v).lin m_ = s.lin m_ := by rfl
@[simp] theorem modCell_lin (m_ : Nat) : (s.modCell n fCell).lin m_ = s.lin m_ := rfl
@[simp] theorem modBank_lin (m_ : Nat) : (s.modBank b fBank).lin m_ = s.lin m_ := by rfl
@[simp] theorem modGang_lin (m_ : Nat) : (s.modGang g fGang).lin m_ = s.lin m_ := rfl
@[simp] theorem modSource_lin (m_ : Nat) : (s.modSource n fSource).lin m_ = s.lin m_ := by rfl
@[simp] theorem modSession_lin (m_ : Nat) : (s.modSession k fSession).lin m_ = s.lin m_ := rfl
@[simp] theorem modTeller_lin (m_ : Nat) : (s.modTeller fTeller).lin m_ = s.lin m_ := by rfl
@[simp] theorem modCtx_lin (m_ : Nat) : (s.modCtx c fCtx).lin m_ = s.lin m_ := rfl
@[simp] theorem modEng_lin (m_ : Nat) : (s.modEng e fEng).lin m_ = s.lin m_ := by rfl
@[simp] theorem modCoil_lin (m_ : Nat) : (s.modCoil e k fCoil).lin m_ = s.lin m_ := rfl
@[simp] theorem modLoop_lin (m_ : Nat) : (s.modLoop e fLoop).lin m_ = s.lin m_ := by rfl
@[simp] theorem modInput_lin (m_ : Nat) : (s.modInput n fInput).lin m_ = s.lin m_ := rfl
@[simp] theorem modCos_lin (m_ : Nat) : (s.modCos k fCos).lin m_ = s.lin m_ := by rfl
@[simp] theorem modPort_lin (m_ : Nat) : (s.modPort p fPort).lin m_ = s.lin m_ := rfl
@[simp] theorem modStream_lin (m_ : Nat) : (s.modStream k fStream).lin m_ = s.lin m_ := by rfl
@[simp] theorem modCan_lin (m_ : Nat) : (s.modCan k fCan).lin m_ = s.lin m_ := rfl
@[simp] theorem modT1s_lin (m_ : Nat) : (s.modT1s k fT1s).lin m_ = s.lin m_ := by rfl
@[simp] theorem modIso_lin (m_ : Nat) : (s.modIso k fIso).lin m_ = s.lin m_ := rfl
@[simp] theorem modTally_lin (m_ : Nat) : (s.modTally fTally).lin m_ = s.lin m_ := by rfl
@[simp] theorem modAccess_lin (m_ : Nat) : (s.modAccess fAccess).lin m_ = s.lin m_ := rfl
@[simp] theorem modUpdate_lin (m_ : Nat) : (s.modUpdate fUpdate).lin m_ = s.lin m_ := by rfl
@[simp] theorem send_lin (m_ : Nat) : (s.send x).lin m_ = s.lin m_ := rfl
@[simp] theorem draw_lin (m_ : Nat) : (s.draw.2).lin m_ = s.lin m_ := by rfl
@[simp] theorem open_lin (m_ : Nat) : (s.open_.2).lin m_ = s.lin m_ := rfl
@[simp] theorem keep_lin (m_ : Nat) : (s.keep t).lin m_ = t.lin m_ := by rfl

/-! ### t1s after what does not touch it -/

@[simp] theorem wr_t1s (m_ : Nat) : (s.wr i j v).t1s m_ = s.t1s m_ := by rfl
@[simp] theorem modCell_t1s (m_ : Nat) : (s.modCell n fCell).t1s m_ = s.t1s m_ := rfl
@[simp] theorem modBank_t1s (m_ : Nat) : (s.modBank b fBank).t1s m_ = s.t1s m_ := by rfl
@[simp] theorem modGang_t1s (m_ : Nat) : (s.modGang g fGang).t1s m_ = s.t1s m_ := rfl
@[simp] theorem modSource_t1s (m_ : Nat) : (s.modSource n fSource).t1s m_ = s.t1s m_ := by rfl
@[simp] theorem modSession_t1s (m_ : Nat) : (s.modSession k fSession).t1s m_ = s.t1s m_ := rfl
@[simp] theorem modTeller_t1s (m_ : Nat) : (s.modTeller fTeller).t1s m_ = s.t1s m_ := by rfl
@[simp] theorem modCtx_t1s (m_ : Nat) : (s.modCtx c fCtx).t1s m_ = s.t1s m_ := rfl
@[simp] theorem modEng_t1s (m_ : Nat) : (s.modEng e fEng).t1s m_ = s.t1s m_ := by rfl
@[simp] theorem modCoil_t1s (m_ : Nat) : (s.modCoil e k fCoil).t1s m_ = s.t1s m_ := rfl
@[simp] theorem modLoop_t1s (m_ : Nat) : (s.modLoop e fLoop).t1s m_ = s.t1s m_ := by rfl
@[simp] theorem modInput_t1s (m_ : Nat) : (s.modInput n fInput).t1s m_ = s.t1s m_ := rfl
@[simp] theorem modCos_t1s (m_ : Nat) : (s.modCos k fCos).t1s m_ = s.t1s m_ := by rfl
@[simp] theorem modPort_t1s (m_ : Nat) : (s.modPort p fPort).t1s m_ = s.t1s m_ := rfl
@[simp] theorem modStream_t1s (m_ : Nat) : (s.modStream k fStream).t1s m_ = s.t1s m_ := by rfl
@[simp] theorem modCan_t1s (m_ : Nat) : (s.modCan k fCan).t1s m_ = s.t1s m_ := rfl
@[simp] theorem modLin_t1s (m_ : Nat) : (s.modLin k fLin).t1s m_ = s.t1s m_ := by rfl
@[simp] theorem modIso_t1s (m_ : Nat) : (s.modIso k fIso).t1s m_ = s.t1s m_ := rfl
@[simp] theorem modTally_t1s (m_ : Nat) : (s.modTally fTally).t1s m_ = s.t1s m_ := by rfl
@[simp] theorem modAccess_t1s (m_ : Nat) : (s.modAccess fAccess).t1s m_ = s.t1s m_ := rfl
@[simp] theorem modUpdate_t1s (m_ : Nat) : (s.modUpdate fUpdate).t1s m_ = s.t1s m_ := by rfl
@[simp] theorem send_t1s (m_ : Nat) : (s.send x).t1s m_ = s.t1s m_ := rfl
@[simp] theorem draw_t1s (m_ : Nat) : (s.draw.2).t1s m_ = s.t1s m_ := by rfl
@[simp] theorem open_t1s (m_ : Nat) : (s.open_.2).t1s m_ = s.t1s m_ := rfl
@[simp] theorem keep_t1s (m_ : Nat) : (s.keep t).t1s m_ = t.t1s m_ := by rfl

/-! ### cosOf after what does not touch it -/

@[simp] theorem wr_cosOf (m_ : Nat) : (s.wr i j v).cosOf m_ = s.cosOf m_ := by rfl
@[simp] theorem modCell_cosOf (m_ : Nat) : (s.modCell n fCell).cosOf m_ = s.cosOf m_ := rfl
@[simp] theorem modBank_cosOf (m_ : Nat) : (s.modBank b fBank).cosOf m_ = s.cosOf m_ := by rfl
@[simp] theorem modGang_cosOf (m_ : Nat) : (s.modGang g fGang).cosOf m_ = s.cosOf m_ := rfl
@[simp] theorem modSource_cosOf (m_ : Nat) : (s.modSource n fSource).cosOf m_ = s.cosOf m_ := by rfl
@[simp] theorem modSession_cosOf (m_ : Nat) : (s.modSession k fSession).cosOf m_ = s.cosOf m_ := rfl
@[simp] theorem modTeller_cosOf (m_ : Nat) : (s.modTeller fTeller).cosOf m_ = s.cosOf m_ := by rfl
@[simp] theorem modCtx_cosOf (m_ : Nat) : (s.modCtx c fCtx).cosOf m_ = s.cosOf m_ := rfl
@[simp] theorem modEng_cosOf (m_ : Nat) : (s.modEng e fEng).cosOf m_ = s.cosOf m_ := by rfl
@[simp] theorem modCoil_cosOf (m_ : Nat) : (s.modCoil e k fCoil).cosOf m_ = s.cosOf m_ := rfl
@[simp] theorem modLoop_cosOf (m_ : Nat) : (s.modLoop e fLoop).cosOf m_ = s.cosOf m_ := by rfl
@[simp] theorem modInput_cosOf (m_ : Nat) : (s.modInput n fInput).cosOf m_ = s.cosOf m_ := rfl
@[simp] theorem modPort_cosOf (m_ : Nat) : (s.modPort p fPort).cosOf m_ = s.cosOf m_ := by rfl
@[simp] theorem modStream_cosOf (m_ : Nat) : (s.modStream k fStream).cosOf m_ = s.cosOf m_ := rfl
@[simp] theorem modCan_cosOf (m_ : Nat) : (s.modCan k fCan).cosOf m_ = s.cosOf m_ := by rfl
@[simp] theorem modLin_cosOf (m_ : Nat) : (s.modLin k fLin).cosOf m_ = s.cosOf m_ := rfl
@[simp] theorem modT1s_cosOf (m_ : Nat) : (s.modT1s k fT1s).cosOf m_ = s.cosOf m_ := by rfl
@[simp] theorem modIso_cosOf (m_ : Nat) : (s.modIso k fIso).cosOf m_ = s.cosOf m_ := rfl
@[simp] theorem modTally_cosOf (m_ : Nat) : (s.modTally fTally).cosOf m_ = s.cosOf m_ := by rfl
@[simp] theorem modAccess_cosOf (m_ : Nat) : (s.modAccess fAccess).cosOf m_ = s.cosOf m_ := rfl
@[simp] theorem modUpdate_cosOf (m_ : Nat) : (s.modUpdate fUpdate).cosOf m_ = s.cosOf m_ := by rfl
@[simp] theorem send_cosOf (m_ : Nat) : (s.send x).cosOf m_ = s.cosOf m_ := rfl
@[simp] theorem draw_cosOf (m_ : Nat) : (s.draw.2).cosOf m_ = s.cosOf m_ := by rfl
@[simp] theorem open_cosOf (m_ : Nat) : (s.open_.2).cosOf m_ = s.cosOf m_ := rfl
@[simp] theorem keep_cosOf (m_ : Nat) : (s.keep t).cosOf m_ = t.cosOf m_ := by rfl

/-! ### loop after what does not touch it -/

@[simp] theorem wr_loop (m_ : Nat) : (s.wr i j v).loop m_ = s.loop m_ := by rfl
@[simp] theorem modCell_loop (m_ : Nat) : (s.modCell n fCell).loop m_ = s.loop m_ := rfl
@[simp] theorem modBank_loop (m_ : Nat) : (s.modBank b fBank).loop m_ = s.loop m_ := by rfl
@[simp] theorem modGang_loop (m_ : Nat) : (s.modGang g fGang).loop m_ = s.loop m_ := rfl
@[simp] theorem modSource_loop (m_ : Nat) : (s.modSource n fSource).loop m_ = s.loop m_ := by rfl
@[simp] theorem modSession_loop (m_ : Nat) : (s.modSession k fSession).loop m_ = s.loop m_ := rfl
@[simp] theorem modTeller_loop (m_ : Nat) : (s.modTeller fTeller).loop m_ = s.loop m_ := by rfl
@[simp] theorem modCtx_loop (m_ : Nat) : (s.modCtx c fCtx).loop m_ = s.loop m_ := rfl
@[simp] theorem modEng_loop (m_ : Nat) : (s.modEng e fEng).loop m_ = s.loop m_ := by rfl
@[simp] theorem modCoil_loop (m_ : Nat) : (s.modCoil e k fCoil).loop m_ = s.loop m_ := rfl
@[simp] theorem modInput_loop (m_ : Nat) : (s.modInput n fInput).loop m_ = s.loop m_ := by rfl
@[simp] theorem modCos_loop (m_ : Nat) : (s.modCos k fCos).loop m_ = s.loop m_ := rfl
@[simp] theorem modPort_loop (m_ : Nat) : (s.modPort p fPort).loop m_ = s.loop m_ := by rfl
@[simp] theorem modStream_loop (m_ : Nat) : (s.modStream k fStream).loop m_ = s.loop m_ := rfl
@[simp] theorem modCan_loop (m_ : Nat) : (s.modCan k fCan).loop m_ = s.loop m_ := by rfl
@[simp] theorem modLin_loop (m_ : Nat) : (s.modLin k fLin).loop m_ = s.loop m_ := rfl
@[simp] theorem modT1s_loop (m_ : Nat) : (s.modT1s k fT1s).loop m_ = s.loop m_ := by rfl
@[simp] theorem modIso_loop (m_ : Nat) : (s.modIso k fIso).loop m_ = s.loop m_ := rfl
@[simp] theorem modTally_loop (m_ : Nat) : (s.modTally fTally).loop m_ = s.loop m_ := by rfl
@[simp] theorem modAccess_loop (m_ : Nat) : (s.modAccess fAccess).loop m_ = s.loop m_ := rfl
@[simp] theorem modUpdate_loop (m_ : Nat) : (s.modUpdate fUpdate).loop m_ = s.loop m_ := by rfl
@[simp] theorem send_loop (m_ : Nat) : (s.send x).loop m_ = s.loop m_ := rfl
@[simp] theorem draw_loop (m_ : Nat) : (s.draw.2).loop m_ = s.loop m_ := by rfl
@[simp] theorem open_loop (m_ : Nat) : (s.open_.2).loop m_ = s.loop m_ := rfl
@[simp] theorem keep_loop (m_ : Nat) : (s.keep t).loop m_ = t.loop m_ := by rfl

/-! ### input after what does not touch it -/

@[simp] theorem wr_input (m_ : Nat) : (s.wr i j v).input m_ = s.input m_ := by rfl
@[simp] theorem modCell_input (m_ : Nat) : (s.modCell n fCell).input m_ = s.input m_ := rfl
@[simp] theorem modBank_input (m_ : Nat) : (s.modBank b fBank).input m_ = s.input m_ := by rfl
@[simp] theorem modGang_input (m_ : Nat) : (s.modGang g fGang).input m_ = s.input m_ := rfl
@[simp] theorem modSource_input (m_ : Nat) : (s.modSource n fSource).input m_ = s.input m_ := by rfl
@[simp] theorem modSession_input (m_ : Nat) : (s.modSession k fSession).input m_ = s.input m_ := rfl
@[simp] theorem modTeller_input (m_ : Nat) : (s.modTeller fTeller).input m_ = s.input m_ := by rfl
@[simp] theorem modCtx_input (m_ : Nat) : (s.modCtx c fCtx).input m_ = s.input m_ := rfl
@[simp] theorem modEng_input (m_ : Nat) : (s.modEng e fEng).input m_ = s.input m_ := by rfl
@[simp] theorem modCoil_input (m_ : Nat) : (s.modCoil e k fCoil).input m_ = s.input m_ := rfl
@[simp] theorem modLoop_input (m_ : Nat) : (s.modLoop e fLoop).input m_ = s.input m_ := by rfl
@[simp] theorem modCos_input (m_ : Nat) : (s.modCos k fCos).input m_ = s.input m_ := rfl
@[simp] theorem modPort_input (m_ : Nat) : (s.modPort p fPort).input m_ = s.input m_ := by rfl
@[simp] theorem modStream_input (m_ : Nat) : (s.modStream k fStream).input m_ = s.input m_ := rfl
@[simp] theorem modCan_input (m_ : Nat) : (s.modCan k fCan).input m_ = s.input m_ := by rfl
@[simp] theorem modLin_input (m_ : Nat) : (s.modLin k fLin).input m_ = s.input m_ := rfl
@[simp] theorem modT1s_input (m_ : Nat) : (s.modT1s k fT1s).input m_ = s.input m_ := by rfl
@[simp] theorem modIso_input (m_ : Nat) : (s.modIso k fIso).input m_ = s.input m_ := rfl
@[simp] theorem modTally_input (m_ : Nat) : (s.modTally fTally).input m_ = s.input m_ := by rfl
@[simp] theorem modAccess_input (m_ : Nat) : (s.modAccess fAccess).input m_ = s.input m_ := rfl
@[simp] theorem modUpdate_input (m_ : Nat) : (s.modUpdate fUpdate).input m_ = s.input m_ := by rfl
@[simp] theorem send_input (m_ : Nat) : (s.send x).input m_ = s.input m_ := rfl
@[simp] theorem draw_input (m_ : Nat) : (s.draw.2).input m_ = s.input m_ := by rfl
@[simp] theorem open_input (m_ : Nat) : (s.open_.2).input m_ = s.input m_ := rfl
@[simp] theorem keep_input (m_ : Nat) : (s.keep t).input m_ = t.input m_ := by rfl

/-! ### ctx after what does not touch it -/

@[simp] theorem wr_ctx (m_ : Nat) : (s.wr i j v).ctx m_ = s.ctx m_ := by rfl
@[simp] theorem modCell_ctx (m_ : Nat) : (s.modCell n fCell).ctx m_ = s.ctx m_ := rfl
@[simp] theorem modBank_ctx (m_ : Nat) : (s.modBank b fBank).ctx m_ = s.ctx m_ := by rfl
@[simp] theorem modGang_ctx (m_ : Nat) : (s.modGang g fGang).ctx m_ = s.ctx m_ := rfl
@[simp] theorem modSource_ctx (m_ : Nat) : (s.modSource n fSource).ctx m_ = s.ctx m_ := by rfl
@[simp] theorem modSession_ctx (m_ : Nat) : (s.modSession k fSession).ctx m_ = s.ctx m_ := rfl
@[simp] theorem modTeller_ctx (m_ : Nat) : (s.modTeller fTeller).ctx m_ = s.ctx m_ := by rfl
@[simp] theorem modEng_ctx (m_ : Nat) : (s.modEng e fEng).ctx m_ = s.ctx m_ := rfl
@[simp] theorem modCoil_ctx (m_ : Nat) : (s.modCoil e k fCoil).ctx m_ = s.ctx m_ := by rfl
@[simp] theorem modLoop_ctx (m_ : Nat) : (s.modLoop e fLoop).ctx m_ = s.ctx m_ := rfl
@[simp] theorem modInput_ctx (m_ : Nat) : (s.modInput n fInput).ctx m_ = s.ctx m_ := by rfl
@[simp] theorem modCos_ctx (m_ : Nat) : (s.modCos k fCos).ctx m_ = s.ctx m_ := rfl
@[simp] theorem modPort_ctx (m_ : Nat) : (s.modPort p fPort).ctx m_ = s.ctx m_ := by rfl
@[simp] theorem modStream_ctx (m_ : Nat) : (s.modStream k fStream).ctx m_ = s.ctx m_ := rfl
@[simp] theorem modCan_ctx (m_ : Nat) : (s.modCan k fCan).ctx m_ = s.ctx m_ := by rfl
@[simp] theorem modLin_ctx (m_ : Nat) : (s.modLin k fLin).ctx m_ = s.ctx m_ := rfl
@[simp] theorem modT1s_ctx (m_ : Nat) : (s.modT1s k fT1s).ctx m_ = s.ctx m_ := by rfl
@[simp] theorem modIso_ctx (m_ : Nat) : (s.modIso k fIso).ctx m_ = s.ctx m_ := rfl
@[simp] theorem modTally_ctx (m_ : Nat) : (s.modTally fTally).ctx m_ = s.ctx m_ := by rfl
@[simp] theorem modAccess_ctx (m_ : Nat) : (s.modAccess fAccess).ctx m_ = s.ctx m_ := rfl
@[simp] theorem modUpdate_ctx (m_ : Nat) : (s.modUpdate fUpdate).ctx m_ = s.ctx m_ := by rfl
@[simp] theorem send_ctx (m_ : Nat) : (s.send x).ctx m_ = s.ctx m_ := rfl
@[simp] theorem draw_ctx (m_ : Nat) : (s.draw.2).ctx m_ = s.ctx m_ := by rfl
@[simp] theorem open_ctx (m_ : Nat) : (s.open_.2).ctx m_ = s.ctx m_ := rfl
@[simp] theorem keep_ctx (m_ : Nat) : (s.keep t).ctx m_ = t.ctx m_ := by rfl

/-! ### eng after what does not touch it -/

@[simp] theorem wr_eng (m_ : Nat) : (s.wr i j v).eng m_ = s.eng m_ := by rfl
@[simp] theorem modCell_eng (m_ : Nat) : (s.modCell n fCell).eng m_ = s.eng m_ := rfl
@[simp] theorem modBank_eng (m_ : Nat) : (s.modBank b fBank).eng m_ = s.eng m_ := by rfl
@[simp] theorem modGang_eng (m_ : Nat) : (s.modGang g fGang).eng m_ = s.eng m_ := rfl
@[simp] theorem modSource_eng (m_ : Nat) : (s.modSource n fSource).eng m_ = s.eng m_ := by rfl
@[simp] theorem modSession_eng (m_ : Nat) : (s.modSession k fSession).eng m_ = s.eng m_ := rfl
@[simp] theorem modTeller_eng (m_ : Nat) : (s.modTeller fTeller).eng m_ = s.eng m_ := by rfl
@[simp] theorem modCtx_eng (m_ : Nat) : (s.modCtx c fCtx).eng m_ = s.eng m_ := rfl
@[simp] theorem modCoil_eng (m_ : Nat) : (s.modCoil e k fCoil).eng m_ = s.eng m_ := by rfl
@[simp] theorem modLoop_eng (m_ : Nat) : (s.modLoop e fLoop).eng m_ = s.eng m_ := rfl
@[simp] theorem modInput_eng (m_ : Nat) : (s.modInput n fInput).eng m_ = s.eng m_ := by rfl
@[simp] theorem modCos_eng (m_ : Nat) : (s.modCos k fCos).eng m_ = s.eng m_ := rfl
@[simp] theorem modPort_eng (m_ : Nat) : (s.modPort p fPort).eng m_ = s.eng m_ := by rfl
@[simp] theorem modStream_eng (m_ : Nat) : (s.modStream k fStream).eng m_ = s.eng m_ := rfl
@[simp] theorem modCan_eng (m_ : Nat) : (s.modCan k fCan).eng m_ = s.eng m_ := by rfl
@[simp] theorem modLin_eng (m_ : Nat) : (s.modLin k fLin).eng m_ = s.eng m_ := rfl
@[simp] theorem modT1s_eng (m_ : Nat) : (s.modT1s k fT1s).eng m_ = s.eng m_ := by rfl
@[simp] theorem modIso_eng (m_ : Nat) : (s.modIso k fIso).eng m_ = s.eng m_ := rfl
@[simp] theorem modTally_eng (m_ : Nat) : (s.modTally fTally).eng m_ = s.eng m_ := by rfl
@[simp] theorem modAccess_eng (m_ : Nat) : (s.modAccess fAccess).eng m_ = s.eng m_ := rfl
@[simp] theorem modUpdate_eng (m_ : Nat) : (s.modUpdate fUpdate).eng m_ = s.eng m_ := by rfl
@[simp] theorem send_eng (m_ : Nat) : (s.send x).eng m_ = s.eng m_ := rfl
@[simp] theorem draw_eng (m_ : Nat) : (s.draw.2).eng m_ = s.eng m_ := by rfl
@[simp] theorem open_eng (m_ : Nat) : (s.open_.2).eng m_ = s.eng m_ := rfl
@[simp] theorem keep_eng (m_ : Nat) : (s.keep t).eng m_ = t.eng m_ := by rfl

end Sys2Proof.Machine.State
end

