-- ==== Sys2Proof/Laws/Seq.lean ====
section
/-! SUPPORT. The Fororn contexts: what counting an instruction changes, and what an issued instruction leaves. -/

namespace Sys2Proof.CountersOnly

open Machine

variable {e : Nat} {s t u : State}

theorem refl (e : Nat) (s : State) : CountersOnly e s s := ⟨rfl, fun _ _ _ _ => rfl, fun _ => rfl⟩

theorem trans (h : CountersOnly e s t) (k : CountersOnly e t u) : CountersOnly e s u := by
  refine ⟨?_, fun i j hj hi => (k.entries i j hj hi).trans (h.entries i j hj hi), fun x => (k.engines x).trans (h.engines x)⟩
  rw [k.rest, h.rest]

/-- An entry of the performance group. -/
theorem wr (e j v : Nat) (s : State) (hj : j < 256) : CountersOnly e s (s.wr (0x5400 + e) j v) :=
  ⟨rfl, fun i k hk hi => s.rd_wr_ne v (by omega), fun _ => rfl⟩

/-- A change of an engine's counting alone. -/
theorem modEng (e k : Nat) (f : Eng → Eng) (s : State)
    (h : ∀ r, (f r).uncounted = r.uncounted) : CountersOnly e s (s.modEng k f) := by
  refine ⟨rfl, fun _ _ _ _ => rfl, fun x => ?_⟩
  obtain rfl | hx := Decidable.em (x = k)
  · rw [State.eng_modEng_same]; exact h _
  · rw [State.eng_modEng_ne s f hx]

theorem open_ (e : Nat) (s : State) : CountersOnly e s s.open_.2 := ⟨rfl, fun _ _ _ _ => rfl, fun _ => rfl⟩

theorem foldl {α : Type} (e : Nat) (f : State → α → State) (l : List α) (h : ∀ s a, a ∈ l → CountersOnly e s (f s a)) (s : State) :
    CountersOnly e s (l.foldl f s) :=
  List.foldlRecOn l f (motive := CountersOnly e s) (refl e s) fun t ht a ha => ht.trans (h t a ha)

theorem bump (e i n : Nat) (s : State) (hi : i < 8) : CountersOnly e s (Perf.bump e i n s) := by
  unfold Perf.bump
  have h1 := wr e (2 + i) ((s.rd (0x5400 + e) (2 + i) + n) % 2 ^ 32) s (by omega)
  dsimp only
  split
  · exact h1
  · split
    · exact h1.trans (wr e (3 + i) _ _ (by omega))
    · split
      · exact h1
      · exact h1.trans (wr e 0x12 _ _ (by omega))

theorem censusAdd (e ev n : Nat) (s : State) : CountersOnly e s (Perf.censusAdd e ev n s) :=
  modEng e e _ s fun r => by split <;> exact rfl

theorem count (e k ev n : Nat) (s : State) : CountersOnly e s (Perf.count e k ev n s) := by
  unfold Perf.count
  split
  · exact refl e s
  · refine trans (foldl e _ _ (fun s i hi => ?_) s) (censusAdd e ev n _)
    split
    · exact bump e i n s (List.mem_range.mp hi)
    · exact refl e s

/-- Counting an event of a context changes counters alone. -/
theorem event (c ev n : Nat) (s : State) : CountersOnly (c / 4) s (Perf.event c ev n s) := by
  have h := count (c / 4) (c % 4) ev n s
  unfold Perf.event
  dsimp only
  split
  · exact (h.trans (count ..)).trans (modEng _ _ _ _ fun _ => rfl)
  · exact h.trans (count ..)
  · exact h.trans (count ..)
  · exact h.trans (count ..)
  · exact h

theorem tagDraw (e : Nat) (s : State) : CountersOnly e s (Perf.tagDraw e s) := by
  unfold Perf.tagDraw
  exact modEng _ _ _ _ fun _ => rfl

theorem tagRecord (c : Nat) (w : PWord) (pc : BitVec 13) (b p : Bool) (s : State) :
    CountersOnly (c / 4) s (Perf.tagRecord c w pc b p s) := by
  unfold Perf.tagRecord
  exact ((open_ _ s).trans ((open_ _ _).trans (open_ _ _))).trans (wr _ _ _ _ (by omega))

/-- Tagging an issue changes counters alone. -/
theorem tagIssue (c : Nat) (w : PWord) (pc : BitVec 13) (b p : Bool) (s : State) :
    CountersOnly (c / 4) s (Perf.tagIssue c w pc b p s) := by
  unfold Perf.tagIssue
  dsimp only
  split
  · split
    · exact modEng _ _ _ _ fun _ => rfl
    · split
      · exact (count ..).trans (tagDraw _ _)
      · exact ((tagRecord c w pc b p s).trans (count ..)).trans (tagDraw _ _)
  · exact refl _ s

/-- Retiring an instruction changes counters alone. -/
theorem retire (c : Nat) (op : SeqOp) (b : Bool) (s : State) : CountersOnly (c / 4) s (Seq.retire c op b s) := by
  unfold Seq.retire
  have h := (event c 1 (Seq.slots op b) s).trans (event c 3 1 _)
  dsimp only
  split
  · exact h.trans (event c 4 1 _)
  · exact h

/-- The contexts are as they were. -/
theorem ctx (h : CountersOnly e u t) (c : Nat) : t.ctx c = u.ctx c := by
  unfold State.ctx; rw [h.rest]

/-- Counters are apart from a context's record. -/
theorem modCtx (h : CountersOnly e u t) (c : Nat) (f : Ctx → Ctx) : CountersOnly e (u.modCtx c f) (t.modCtx c f) := by
  refine ⟨?_, h.entries, h.engines⟩
  have hc : (t.modCtx c f).ctxs = (u.modCtx c f).ctxs := by
    show Map.modify {} t.ctxs c f = Map.modify {} u.ctxs c f
    rw [h.rest]
  have hr := h.rest
  show { t with ctxs := (t.modCtx c f).ctxs } = _
  rw [hc, hr]
  rfl

/-- A command that changed counters alone beside an effect that keeps queue, ticks and time needs no mending by `keep`. -/
theorem keep_eq (h : CountersOnly e u t) (hp : u.pending = s.pending) (hn : u.now = s.now) (hk : u.ticks = s.ticks) :
    s.keep t = t := by
  have e1 : t.pending = u.pending := by rw [h.rest]
  have e2 : t.now = u.now := by rw [h.rest]
  have e3 : t.ticks = u.ticks := by rw [h.rest]
  unfold State.keep
  rw [← hp, ← hk, ← hn, ← e1, ← e2, ← e3, Nat.max_self]

end Sys2Proof.CountersOnly

namespace Sys2Proof.Machine

/-- The state in which an instruction of a context executes: pc has gone past it. -/
def Seq.past (c : Nat) (op : SeqOp) (s : State) : State := s.modCtx c fun x => { x with pc := Seq.ahead x.pc op.len }

theorem Seq.ready_of_canIssue {s : State} {c : Nat} (h : CanIssue s c) : Seq.ready (s.ctx c) ∧ !(s.ctx c).inRepeat := by
  simp [Seq.ready, h.running, h.awake, h.free, h.single]

/-- An instruction that completes leaves its effect, and counts. -/
theorem Seq.issue_ok {s t : State} {c : Nat} {op : SeqOp} (h : CanIssue s c) (hr0 : op.reserved = none)
    (hx : Seq.exec1 c op (Seq.past c op s) = .ok t) :
    CountersOnly (c / 4) t (Seq.issue c op s) := by
  have hr := Seq.ready_of_canIssue h
  unfold Seq.issue
  simp only [hr0]
  rw [if_pos hr]
  have hx' : Seq.exec1 c op (s.modCtx c fun x => { x with pc := Seq.ahead (s.ctx c).pc op.len }) = .ok t := by
    rw [← hx]; unfold Seq.past State.modCtx Map.modify; rfl
  simp only [hx']
  exact (CountersOnly.retire ..).trans (CountersOnly.tagIssue ..)

/-- An instruction that traps leaves trap entry's effect, and counts. -/
theorem Seq.issue_trap {s : State} {c : Nat} {op : SeqOp} {r : Trap} (h : CanIssue s c) (hr0 : op.reserved = none)
    (hx : Seq.exec1 c op (Seq.past c op s) = .trap r) :
    CountersOnly (c / 4)
      (Seq.trapEntry c r (if r.cause = 6 ∨ r.cause = 7 then Seq.ahead (s.ctx c).pc op.len else (s.ctx c).pc) s)
      (Seq.issue c op s) := by
  have hr := Seq.ready_of_canIssue h
  unfold Seq.issue
  simp only [hr0]
  rw [if_pos hr]
  have hx' : Seq.exec1 c op (s.modCtx c fun x => { x with pc := Seq.ahead (s.ctx c).pc op.len }) = .trap r := by
    rw [← hx]; unfold Seq.past State.modCtx Map.modify; rfl
  simp only [hx']
  exact CountersOnly.tagIssue ..

/-- The command of an instruction that completes answers its effect, but for counters. -/
theorem issued_ok {s t : State} {c : Nat} {op : SeqOp} (h : CanIssue s c) (hr0 : op.reserved = none)
    (hx : Seq.exec1 c op (Seq.past c op s) = .ok t)
    (hp : t.pending = s.pending) (hn : t.now = s.now) (hk : t.ticks = s.ticks) :
    ∃ u, issued (Seq.issue c op) s = .next u ∧ CountersOnly (c / 4) t u := by
  have h1 := Seq.issue_ok h hr0 hx
  refine ⟨Seq.issue c op s, ?_, h1⟩
  unfold issued
  rw [if_pos h.power, h1.keep_eq hp hn hk]

end Sys2Proof.Machine
end

