-- ==== Sys2Proof/Laws/Step.lean ====
section
/-! SUPPORT. What every command keeps: the three forms of a meaning answer a next state with the waiting commands and the count of
ticks as they were and module time not decreased; what a tick does to time. -/

namespace Sys2Proof

open Machine

/-- What every command keeps of the state it starts from. -/
structure Keeps (s t : State) : Prop where
  pending : t.pending = s.pending
  ticks : t.ticks = s.ticks
  now : s.now ≤ t.now

namespace Machine

theorem keep_keeps (s t : State) : Keeps s (s.keep t) := ⟨rfl, rfl, Nat.le_max_left ..⟩

theorem after_keeps (s u : State) : Keeps s (s.after u) := keep_keeps ..

/-- A command with an effect goes on. -/
theorem run_goes_on (f : State → State) (s : State) : ∃ t, run f s = .next t ∧ Keeps s t := ⟨_, rfl, after_keeps ..⟩

/-- A command of the logic goes on. -/
theorem powered_goes_on (f : State → State) (s : State) : ∃ t, powered f s = .next t ∧ Keeps s t := ⟨_, rfl, after_keeps ..⟩

/-- A command of a sequencer context goes on. -/
theorem issued_goes_on (f : State → State) (s : State) : ∃ t, issued f s = .next t ∧ Keeps s t := ⟨_, rfl, keep_keeps ..⟩

/-- The command at the front of the queue is what a step executes. -/
theorem step_cons {s : State} {i : Instr} {r : List Instr} (h : s.pending = i :: r) : step s = exec i { s with pending := r } := by
  unfold step; rw [h]

theorem step_nil {s : State} (h : s.pending = []) : step s = .next (idle s) := by unfold step; rw [h]

end Machine

end Sys2Proof
end

