-- ==== Sys2Proof/WellFormed.lean ====
section
/-! DEFINITION. Well-formed commands: what arrives from outside fits the fields of the frame or message that carries it.
The instance numbers are bounded by their types (R7). -/

namespace Sys2Proof

/-- Every value of a list fits in the given number of bits. -/
def fit (bits : Nat) (l : List Nat) : Bool := l.all fun v => v >>> bits == 0

/-- The fields of a BLL frame fit Table 03-2. -/
def Frame.wf (f : Frame) : Bool :=
  fit 8 [f.version, f.session, f.flags] && fit 16 [f.dest, f.source, f.len] && fit 32 [f.fc] && fit 64 [f.tag]

/-- The message types with rows of their own (Table 03-3). -/
def Frame.namedTypes : List Nat := [1, 3, 5, 0x10, 0x11, 0x12, 0x13, 0x15]

/-- Where a frame comes from: a switch port and a traffic class. -/
def Origin.wf (o : Origin) : Bool := decide (o.port < 12) && decide (o.tc < 8)

/-- A write of a posting fits its item (Table 03-2). -/
def Write.wf (x : Write) : Bool := fit 16 [x.index] && fit 8 [x.sub, x.code, x.value.length]

/-- The fields of an Ethernet frame. -/
def EthHead.wf (f : EthHead) : Bool :=
  fit 48 [f.dst, f.src] && fit 12 [f.vid] && fit 3 [f.pcp] && fit 16 (f.etype :: f.rtag.toList) && decide (f.data.length ≤ f.len)

/-- The fields of a CAN frame by its format: identifier and data field. -/
def CanFrame.wf (f : CanFrame) : Bool :=
  decide (f.format < 3) && decide (f.ident < (if f.ext then 2 ^ 29 else 2 ^ 11))
    && decide (f.data.length ≤ (if f.format = 0 then 8 else if f.format = 1 then 64 else 2048))
    && fit 8 [f.sdt, f.vcid] && fit 32 [f.accept]

/-- The fields of a tally message (Table 15-1). -/
def TallyMsg.wf (m : TallyMsg) : Bool :=
  fit 8 [m.version, m.mask, m.depth, m.reason] && fit 16 [m.ring, m.dest, m.source, m.round] && fit 24 [m.reserved]
    && fit 64 [m.sealEnd, m.tag]

/-- The fields of an anchor frame (Table 16-1). -/
def AnchorFrame.wf (f : AnchorFrame) : Bool :=
  fit 8 [f.version, f.address, f.type, f.flags, f.stsIndex] && fit 40 [f.timestamp] && decide (f.payload.length ≤ 127)

/-- A command whose operands fit what carries them. -/
def Instr.wf : Instr → Bool
  | .bllOpen o f | .bllProve o f | .bllRead o f | .bllWrite o f | .bllSubscribe o f | .bllUnsubscribe o f
  | .bllKeepalive o f | .bllClose o f => o.wf && f.wf
  | .reservedTypeFrame o type f => o.wf && f.wf && decide (type < 256) && !(Frame.namedTypes.contains type)
  | .relayResponse _ device tag type status position _ =>
    fit 8 [device, tag, type, status, position]
  | .entryWrite _ x => x.wf
  | .cellSample set supply _ => decide ((set.map (·.chan)).Nodup) && decide ((supply.map (·.1)).Nodup)
  | .timeAligned _ err => decide (err.natAbs ≤ 2000)
  | .temperatureSample set => decide ((set.map (·.1)).Nodup)
  | .txsend _ _ len _ => decide (len < 256)
  | .frameForwardDecision _ f => f.wf
  | .canFrameReceived _ f | .canWakeFrame _ f => f.wf
  | .linResponse _ data _ => decide (data.length ≤ 8)
  | .tallyConsent m | .tallyRefuse m | .tallySeal m | .tallyAbort m | .tallyWake m | .tallyCall m => m.wf
  | .tallyAuth type m => m.wf && decide (type < 256)
  | .anchorFrame _ f => f.wf
  | .accessRequest _ zone => decide (zone < 256)
  | _ => true

end Sys2Proof
end

