-- ==== Sys2Proof/Tests/Slice0.lean ====
section
/-! SUPPORT. Tests: ill-formed commands are refused, words of the manual's encodings decode to their instructions, single steps have
the values the manual gives, and every statement's hypotheses are met by a concrete state and operands. -/

namespace Sys2Proof.Tests

set_option Elab.async false

open Machine Claim

/-! ### Well-formed commands -/

def frame : Frame := { version := 0x20, dest := 0, source := 0, session := 0, flags := 0, fc := 1, len := 0, payload := [], tag := 0 }
def origin : Origin := { via := .uplink, addr := 0, tc := 0 }
def head : EthHead := { dst := 0, src := 0, etype := 0x0800, len := 64 }
def tallyMsg : TallyMsg := { ring := 1, dest := 0, source := 2, round := 1, tag := 0 }
def anchor : AnchorFrame := { address := 0, type := 4 }

theorem test_wf_frame : Instr.wf (.bllRead origin frame) = true ∧ Instr.wf (.bllRead origin { frame with fc := 2 ^ 32 }) = false := by
  decide
theorem test_wf_frame_fields :
    [{ frame with version := 256 }, { frame with dest := 65536 }, { frame with source := 65536 }, { frame with session := 256 },
      { frame with flags := 256 }, { frame with len := 65536 }, { frame with tag := 2 ^ 64 }].all (fun f => !Frame.wf f) = true := by decide
theorem test_wf_origin : Origin.wf { origin with port := 12 } = false ∧ Origin.wf { origin with tc := 8 } = false := by decide
theorem test_wf_reserved_type : Instr.wf (.reservedTypeFrame origin 2 frame) = true ∧
    Instr.wf (.reservedTypeFrame origin 256 frame) = false ∧ Instr.wf (.reservedTypeFrame origin 0x10 frame) = false := by decide
theorem test_wf_relay : Instr.wf (.relayResponse (.can 0) 255 255 255 255 255 []) = true ∧
    Instr.wf (.relayResponse (.can 0) 256 0 0 0 0 []) = false ∧ Instr.wf (.relayResponse (.can 0) 0 256 0 0 0 []) = false ∧
    Instr.wf (.relayResponse (.can 0) 0 0 256 0 0 []) = false ∧ Instr.wf (.relayResponse (.can 0) 0 0 0 256 0 []) = false ∧
    Instr.wf (.relayResponse (.can 0) 0 0 0 0 256 []) = false := by decide
theorem test_wf_write : Instr.wf (.entryWrite (.session 0) ⟨0x4000, 9, 0, [1]⟩) = true ∧
    [(⟨65536, 9, 0, []⟩ : Write), ⟨0x4000, 256, 0, []⟩, ⟨0x4000, 9, 256, []⟩, ⟨0x4000, 9, 0, List.replicate 256 0⟩].all
      (fun x => !Instr.wf (.entryWrite (.session 0) x)) = true := by decide +kernel
theorem test_wf_samples : Instr.wf (.cellSample [{ chan := 0, current := 0, pin := 0 }, { chan := 1, current := 0, pin := 0 }] [(0, 1), (1, 1)] 0) = true ∧
    Instr.wf (.cellSample [{ chan := 0, current := 0, pin := 0 }, { chan := 0, current := 1, pin := 0 }] [] 0) = false ∧ Instr.wf (.cellSample [] [(0, 1), (0, 2)] 0) = false ∧
    Instr.wf (.temperatureSample [(3, 1), (3, 2)]) = false := by decide
theorem test_wf_alignment : Instr.wf (.timeAligned 0 (-2000)) = true ∧ Instr.wf (.timeAligned 0 2001) = false := by decide
theorem test_wf_txsend : Instr.wf (.txsend 0 0 255 0) = true ∧ Instr.wf (.txsend 0 0 256 0) = false := by decide
theorem test_wf_ethernet : Instr.wf (.frameForwardDecision 0 head) = true ∧
    [{ head with dst := 2 ^ 48 }, { head with src := 2 ^ 48 }, { head with vid := 4096 }, { head with pcp := 8 },
      { head with etype := 65536 }, { head with rtag := some 65536 }, { head with data := List.replicate 65 0 }].all
      (fun f => !Instr.wf (.frameForwardDecision 0 f)) = true := by decide +kernel
theorem test_wf_can : Instr.wf (.canFrameReceived 0 { ident := 0x7FF }) = true ∧
    [({ ident := 0x800 } : CanFrame), { ident := 0, format := 3 }, { ident := 0, data := List.replicate 9 0 }, { ident := 0, sdt := 256 },
      { ident := 0, vcid := 256 }, { ident := 0, accept := 2 ^ 32 }].all (fun f => !Instr.wf (.canWakeFrame 0 f)) = true := by decide
theorem test_wf_lin : Instr.wf (.linResponse 0 (List.replicate 8 0) true) = true ∧
    Instr.wf (.linResponse 0 (List.replicate 9 0) true) = false := by decide
theorem test_wf_tally : Instr.wf (.tallyCall tallyMsg) = true ∧ Instr.wf (.tallyAuth 256 tallyMsg) = false ∧
    [{ tallyMsg with version := 256 }, { tallyMsg with ring := 65536 }, { tallyMsg with dest := 65536 },
      { tallyMsg with source := 65536 }, { tallyMsg with round := 65536 }, { tallyMsg with mask := 256 }, { tallyMsg with depth := 256 },
      { tallyMsg with reason := 256 }, { tallyMsg with reserved := 2 ^ 24 }, { tallyMsg with sealEnd := 2 ^ 64 },
      { tallyMsg with tag := 2 ^ 64 }].all (fun m => !TallyMsg.wf m) = true := by decide
theorem test_wf_anchor : Instr.wf (.anchorFrame 0 anchor) = true ∧
    [{ anchor with version := 256 }, { anchor with address := 256 }, { anchor with type := 256 }, { anchor with flags := 256 },
      { anchor with timestamp := 2 ^ 40 }, { anchor with stsIndex := 256 }, { anchor with payload := List.replicate 128 0 }].all
      (fun f => !AnchorFrame.wf f) = true := by decide +kernel
theorem test_wf_access : Instr.wf (.accessRequest (.session 0) 255) = true ∧ Instr.wf (.accessRequest (.session 0) 256) = false := by
  decide

/-! ### Words of Fororn instructions (Tables 11-3 to 11-9, written out from their fields) -/

def reads (x y z : PWord) (op : SeqOp) : Bool := match SeqDecode.decode x y z with | .ok o => decide (o = op) | .error _ => false
def errs (x y z : PWord) (k : Nat) : Bool := match SeqDecode.decode x y z with | .ok _ => false | .error n => decide (n = k)

/-- The worked words of Table 11-11. -/
theorem test_words_of_the_manual :
    reads 0x2A38 0x3FFF 0 (.ldix 0 0x3FFF) ∧ reads 0x2680 0 0 (.rep 2) ∧ reads 0x180E 0 0 (.crcm .crc32m 0 1) ∧
    reads 0x0604 0 0 (.reg .not 0 0) ∧ reads 0x02C5 0 0 (.shift .shl 3 0) := by decide
theorem test_words_subset :
    reads 0b00000000000000 0 0 .nop ∧ reads 0b00000101011101 0 0 (.swi 29) ∧
    reads 0b00001001010000 0 0 (.alu .add 1 2) ∧ reads 0b00010011001000 0x0FFF 0 (.alui .sub 3 0xFFF) ∧
    reads 0b00011101110001 0 0 (.reg .cmp 5 6) ∧ reads 0b00100001010001 0x0123 0 (.ldw 1 2 (.disp 0x123)) ∧
    reads 0b00101111110010 0 0 (.stw 7 6 .post) ∧ reads 0b00110000100000 0x0FFE 0 (.br 1 0xFFE) ∧
    reads 0b00111000000000 0x0ABC 0 (.call 0xABC) := by decide
theorem test_words_extended :
    reads 0b01000011100011 0 0 (.reg .adc 3 4) ∧ reads 0b01001001010010 0 0 (.reg .rem 1 2) ∧ reads 0b01010001010111 0 0 (.reg .sxh 1 2) ∧
    reads 0b01011011000000 31 0 (.bit .bset 3 31) ∧ reads 0b01011001100000 0b01010011100100 0 (.fld .extu 1 5 4 7) ∧
    reads 0b01101001010001 0x3FFF 0 (.load .b true 1 2 0x3FFF) ∧ reads 0b01110001010001 4 0 (.store .w 1 2 4) ∧
    reads 0b01111010000000 0x00FF 0 (.pushm 0xFF) ∧ reads 0b10000010000001 0 0x3FFF (.ldil 2 0x10003FFF) ∧
    reads 0b10001000000000 0x3FFF 0 (.brx 0 0x3FFF) ∧ reads 0b10010001000000 0x1FFF 0 (.jmpx 0x1FFF) ∧
    reads 0b10100001000000 9 0 (.mfs 1 9) ∧ reads 0b10101001101000 1 0 (.cmpx 1 1) := by decide
/-- A reserved word, a reserved major, an extension word with a reserved bit. -/
theorem test_words_refused : errs 0x0001 0 0 0 ∧ errs 0x2C00 0 0 0 ∧ errs 0b00010001000000 0x1000 0 1 ∧ errs 0x1E80 0 0 1 := by decide

/-! ### Instructions of a context -/

/-- Context 0 of a module after reset, running, with two registers set, a stack window of [0x100, 0x200), and `f`. -/
def running (a b : Word) (f : Ctx → Ctx := id) : State :=
  ((State.reset.modCtx 0 fun x => f { x with st := 1, g := (x.g.set 1 a).set 2 b, sp := 0x1F0 }).wr 0x5100 5 0x200).wr 0x5100 6 0x100

/-- What holds of the state a command answers. -/
def then_ (i : Instr) (s : State) (p : State → Bool) : Bool := match exec i s with | .next t => p t | _ => false

/-- Registers 1 to 8 and the flags Z, N, C, V of context 0. -/
def flags (x : Ctx) : List Bool := [x.z, x.n, x.c, x.v]

theorem test_add_carries : then_ (.sqAdd 0 1 2) (running 0xFFFFFFFF 1) (fun t =>
    decide ((t.ctx 0).g.get 1 = 0) && flags (t.ctx 0) = [true, false, true, false]) = true := by decide +kernel
theorem test_add_overflows : then_ (.sqAdd 0 1 2) (running 0x7FFFFFFF 1) (fun t => flags (t.ctx 0) = [false, true, false, true]) = true := by
  decide +kernel
theorem test_sub_borrows : then_ (.sqSub 0 1 2) (running 0 1) (fun t => flags (t.ctx 0) = [false, true, true, false]) = true := by
  decide +kernel
theorem test_div_by_zero : then_ (.sqDiv 0 1 2) (running 7 0) (fun t =>
    decide ((t.ctx 0).g.get 1 = 0xFFFFFFFF) && decide (flags (t.ctx 0) = [false, true, false, true])) = true := by decide +kernel
theorem test_rem_sign : then_ (.sqRem 0 1 2) (running (-7) 2) (fun t => (t.ctx 0).g.get 1 = (-1 : Word)) = true := by decide +kernel
theorem test_shift_by_zero_keeps_carry : then_ (.sqShli 0 1 0) (running 1 0) (fun t => flags (t.ctx 0) = [false, false, false, false]) = true := by
  decide +kernel
/-- The check of "123456789" under the parameters of R302 is 0xCBF43926 before the final inversion is taken back. -/
theorem test_crc32 :
    ([0x31, 0x32, 0x33, 0x34, 0x35, 0x36, 0x37, 0x38, 0x39].foldl (fun c (b : BitVec 8) => crc32Step c b) 0xFFFFFFFF) ^^^ 0xFFFFFFFF = 0xCBF43926 := by
  decide +kernel
theorem test_push_pop : then_ (.sqPush 0 1) (running 0x11223344 0) (fun t =>
    (t.ctx 0).sp = 0x1EC && dataValue t 0 0x1EC 4 = 0x11223344) = true := by decide +kernel
theorem test_swi_traps : then_ (.sqSwi 0 9) (running 0 0) (fun t =>
    (t.ctx 0).inTrap && (t.ctx 0).cause = 6 && (t.ctx 0).trapInfo = 9 && (t.ctx 0).trapPc = 1) = true := by decide +kernel

/-- Every statement about instructions starts here: the contexts 0 and 127 may issue. -/
theorem witness_can_issue : CanIssue (running 0 0) 0 ∧ CanIssue (State.reset.modCtx 127 fun x => { x with st := 1 }) 127 :=
  ⟨⟨by decide, by decide, by decide, by decide, by decide⟩, ⟨by decide, by decide, by decide, by decide, by decide⟩⟩

/-- BitsAndFields: the widest field, and one bit at the top. -/
theorem witness_fields : (0 : Fin 32).val + (31 : Fin 32).val + 1 ≤ 32 ∧ (31 : Fin 32).val + (0 : Fin 32).val + 1 ≤ 32 := by decide

/-- CyclicCheckSteps, LoadsFromDataMemory: aligned addresses at both ends of data memory, a bad byte, a misaligned address, and the
first and last addresses of the unmapped ranges. -/
theorem witness_loads :
    ((0 : Word).toNat % 4 = 0 ∧ sound (running 0 0) 0 0 4) ∧ ((0x3FFC : Word).toNat % 4 = 0 ∧ (0x3FFC : Word).toNat < 0x4000) ∧
    ¬sound ((running 0x3FFC 0).modEng 0 fun r => { r with dataBad := [0x3FFF] }) 0 0x3FFC 4 ∧ (0x3FFD : Word).toNat % 2 ≠ 0 ∧
    unmapped 0x4000 ∧ unmapped 0xFFFC ∧ unmapped 0x23C40 ∧ unmapped 0x23C7C ∧ unmapped 0x23D00 ∧ unmapped 0xFFFFFFFC := by
  unfold sound unmapped; decide +kernel

/-- StoresToDataMemory: memory after reset is canonical. -/
theorem witness_stores : g 1 ((running 0x3FFC 5).ctx 0) = 0x3FFC ∧ Map.wf 0 (running 0x3FFC 5).dmem = true := by decide +kernel

/-- BranchesAndJumps: each condition holds in one context and fails in another; a target at each side of 8,192. -/
theorem witness_branches :
    (∀ k : Fin 14, ∃ z n c v : Bool, taken k.castSucc { z := z, n := n, c := c, v := v }) ∧
    (∀ k : Fin 14, ∃ z n c v : Bool, ¬taken k.castSucc { z := z, n := n, c := c, v := v }) ∧ taken 14 {} ∧
    (g 1 ((running 8191 0).ctx 0)).toNat < 8192 ∧ 8192 ≤ (g 1 ((running 8192 0).ctx 0)).toNat := by
  refine ⟨fun k => ?_, fun k => ?_, trivial, by decide +kernel, by decide +kernel⟩
  · fin_cases k <;> simp [taken]
  · fin_cases k <;> simp [taken]

/-- CallsAndReturns, StackInstructions: the ends of the stack window, and words popped at each side of 8,192. -/
theorem witness_stack :
    inStack (running 0 0) 0 0x100 ∧ inStack (running 0 0) 0 0x1FC ∧ ¬inStack (running 0 0) 0 0xFC ∧ ¬inStack (running 0 0) 0 0x200 ∧
    inStack (running 0 0) 0 ((running 0 0).ctx 0).sp ∧ inStack (running 0 0) 0 (((running 0 0).ctx 0).sp - 4) ∧
    sound (running 0 0) 0 0x1F0 4 ∧ dataValue (running 0 0) 0 0x1F0 4 < 8192 ∧
    8192 ≤ dataValue { running 0 0 with dmem := [(0x1F1, 0x20)] } 0 0x1F0 4 ∧
    ¬inStack (running 0 0 fun x => { x with sp := 0x100 }) 0 (((running 0 0 fun x => { x with sp := 0x100 }).ctx 0).sp - 4) ∧
    (0x1FFC : BitVec 14).toNat % 4 = 0 ∧ (g 1 ((running 4 3).ctx 0)).toNat % 4 = 0 ∧ (g 2 ((running 4 3).ctx 0)).toNat % 4 ≠ 0 := by
  unfold inStack sound; decide +kernel

/-- StackInstructions: pushm of all eight registers, popm of two. -/
theorem witness_multiple :
    (0xFF : BitVec 8) ≠ 0 ∧ (∀ k < 8, inStack (running 0 0) 0 (0x1F0 - BitVec.ofNat 32 (4 * (k + 1)))) ∧
    (∀ k < 2, inStack (running 0 0) 0 (0x1F0 + BitVec.ofNat 32 (4 * k)) ∧ sound (running 0 0) 0 (0x1F0 + BitVec.ofNat 32 (4 * k)).toNat 4) := by
  unfold inStack sound; decide +kernel

/-- SystemInstructions: no event asked, an event got, a wait; debug; a wait that ends and one that goes on. -/
theorem witness_system :
    gotten ((running 1 0 fun x => { x with events := 1 }).ctx 0) (g 1 ((running 1 0).ctx 0)) ≠ 0 ∧
    (g 1 ((running 31 0).ctx 0)).toNat % 32 ≠ 0 ∧ gotten ((running 31 0).ctx 0) (g 1 ((running 31 0).ctx 0)) = 0 ∧
    (g 1 ((running 32 0).ctx 0)).toNat % 32 = 0 ∧ ((running 0 0 fun x => { x with debug := true }).ctx 0).debug = true ∧
    ((running 0 0).ctx 0).debug = false ∧
    ((running 0 0 fun x => { x with waiting := some (1, 31, 0), events := 16 }).ctx 0).waiting = some (1, 31, 0) ∧
    gotten ((running 0 0 fun x => { x with waiting := some (1, 31, 0), events := 16 }).ctx 0) (BitVec.ofNat 32 31) ≠ 0 ∧
    gotten ((running 0 0 fun x => { x with waiting := some (1, 31, 0) }).ctx 0) (BitVec.ofNat 32 31) = 0 := by
  decide +kernel

/-- TrapReturnsAndTrapsInsideTraps: a context in a trap, its source told nothing at this tick. -/
theorem witness_trap_inside_trap :
    CanIssue (running 0 0 fun x => { x with inTrap := true }) 0 ∧
    ((running 0 0 fun x => { x with inTrap := true }).ctx 0).inTrap = true ∧
    ((running 0 0 fun x => { x with inTrap := true }).source 0x1400).lastAt ≠ some (running 0 0).ticks :=
  ⟨⟨by decide, by decide, by decide, by decide, by decide⟩, by decide, by decide⟩

/-- UndefinedWordsTrap: a reserved word, a reserved operand, a register that mts may not write; the context is in no trap. -/
theorem witness_undefined :
    errs 0x2C00 0 0 0 = true ∧ 0x2C00 ≤ (0x2C00 : PWord).toNat ∧ 32 < (1 : Fin 32).val + (31 : Fin 32).val + 1 ∧
    (0x0B : BitVec 8) ≠ 0 ∧ (0x0B : BitVec 8) ≠ 5 ∧ (0x0B : BitVec 8) ≠ 7 ∧ (0x0B : BitVec 8) ≠ 0x2A ∧ ((running 0 0).ctx 0).inTrap = false := by
  decide +kernel

/-- SpecialRegisters: a permitted and an unpermitted read of the counters at both ends of their range. -/
theorem witness_special :
    permit ((running 0 0).wr 0x5100 0x0B 1) 0 ∧ ¬permit (running 0 0) 0 ∧ (0x0B : BitVec 8).toNat ≤ 0x0B ∧
    0x22 ≤ (0x22 : BitVec 8).toNat ∧ (0x29 : BitVec 8).toNat ≤ 0x29 ∧ (0x20 : BitVec 8).toNat ≤ 0x2B ∧ (0x2B : BitVec 8).toNat ≤ 0x2B := by
  unfold permit; decide +kernel

/-- `ldi g1, 5` writes one register and nothing else. -/
theorem ldi_computes : computes 0 (.ldi 1 5) (put 1 5) := by
  refine ⟨fun u => ⟨_, rfl, ⟨rfl, fun _ _ _ _ => rfl, fun _ => rfl⟩⟩, fun _ => rfl⟩

/-- Context 0 before `rep` of one word at address 0, its successor `ldi g1, 5` at 1 and 2; a jump after it. -/
def beforeLdi : State := { running 0 3 with pmem := [(1, 0x645), (2, 5)] }
/-- The same, its successor `ret`, or a word that spells nothing. -/
def beforeRet : State := { running 0 3 with pmem := [(1, 0x40), (2, 0x40)] }
def beforeNothing : State := { running 0 3 with pmem := [(1, 0x2C00)] }

/-- RepeatPrefixes: a count of 3 in g2 before a successor that computes; a hazardous one; one that writes the count; an undefined one;
and with an immediate count, whose prefix takes two words. -/
theorem witness_repeat :
    MayIssue beforeLdi 0 ∧ Seq.decodeAt beforeLdi 0 1 = .ok (.ldi 1 5) ∧ Seq.hazardous (.ldi 1 5) = false ∧ (2 : Fin 8) ∉ Seq.writes (.ldi 1 5) ∧
    (1 : Fin 8) ∈ Seq.writes (.ldi 1 5) ∧ Seq.decodeAt beforeRet 0 1 = .ok .ret ∧ Seq.decodeAt beforeRet 0 2 = .ok .ret ∧
    Seq.hazardous .ret = true ∧ Seq.decodeAt beforeNothing 0 1 = .error 0 ∧ (beforeLdi.ctx 0).inRepeat = false ∧ computes 0 (.ldi 1 5) (put 1 5) ∧
    Seq.decodeAt { beforeLdi with pmem := [(2, 0x645), (3, 5)] } 0 2 = .ok (.ldi 1 5) :=
  ⟨⟨by decide, by decide, by decide, by decide⟩, by decide +kernel, by decide, by decide, by decide, by decide +kernel, by decide +kernel,
    by decide, by decide +kernel, by decide +kernel, ldi_computes, by decide +kernel⟩

/-! ### Cells, gangs, the Teller -/

/-- A module 10 s after its start. -/
def late : State := { State.reset with ticks := 10000000, now := 10000000000 }
/-- Its cell 3 with `f`. -/
def cell3 (f : Cell → Cell) : State := late.modCell 3 f
/-- Its bank 0 with `f`. -/
def bank0 (f : Bank → Bank) : State := late.modBank 0 f

/-- LimitingTripsAndRetries: one state for each event that acts; after reset none does. -/
theorem witness_limiting :
    (let s := (cell3 fun c => { c with drive := 1 }).wr 0x4003 2 1;
      (s.cell 3).prot = 0 ∧ Cells.onNow (s.cell 3) = true ∧ Cells.side s 3 ≠ 0 ∧ Cells.conducting (s.cell 3) = true) ∧
    Protect.supplyDue late 0 = false ∧ Protect.supplyDue (bank0 fun r => { r with supplyMv := 4000 }) 0 = true ∧ Protect.cutNow late 3 = none ∧
    Protect.cutNow (cell3 fun c => { c with cut := some (10000000, some 5000) }) 3 = some (some 5000) ∧
    (let s := (cell3 fun c => { c with prot := 2, tripAt := 10000000, tripLimiting := true }).wrField 0x4403 1 8 2 2;
      (s.cell 3).tripAt = s.ticks ∧ s.rdField 0x4403 1 8 2 = 2) ∧
    1000 ≤ Protect.accumulated ((cell3 fun c => { c with prot := 1, limAcc := 1000 }).wr 0x4003 0x11 1) 3 ∧
    ((cell3 fun c => { c with prot := 1, limAcc := 1000 }).cell 3).winTo = 0 ∧
    ((cell3 fun c => { c with thermalOff := true, prot := 2 }).cell 3).prot ≠ 0 ∧
    (let s := cell3 fun c => { c with thermalOff := true, want := 1 };
      (s.unit 3).contains 3 = true ∧ s.head 3 = 3 ∧ (s.cell 3).prot = 0 ∧ Chan.conducts (s.cell 3).want = true ∧
        (s.unit 3).all (fun m => !Cells.conducting (s.cell m)) = true ∧ (s.cell 3).loanPending = false ∧
        Cells.waitsHeat (s.modCell 3 fun c => { c with thermalOff := false, hot := false }) 3 = false ∧ Chan.heavy (Chan.loadClass s 3) = false) ∧
    Chan.heavy (Chan.loadClass ((cell3 fun c => { c with thermalOff := true, want := 1 }).wr 0x4003 5 3) 3) = true ∧
    (let s := (cell3 fun c => { c with prot := 1, limAcc := 1000, drive := 1 }).modBank 0 fun r => { r with supplyMv := 4000 };
      Protect.supplyDue s 0 = true ∧ (s.cell 3).prot = 1 ∧ Cells.conducting (s.cell 3) = true) ∧
    (let s := cell3 fun c => { c with thermalOff := true, want := 1 };
      Cells.conducting ((s.modCell 3 fun c => { c with drive := 1 }).cell 3) = true ∧ ((s.modCell 3 fun c => { c with loanPending := true }).cell 3).loanPending = true) ∧
    (let s := (cell3 fun c => { c with prot := 2, want := 1 }).modTeller fun t => { t with loans := [(0, some (Cells.retryLoan late 3))] };
      Protect.retryDue s 3 = true ∧ (Teller.request (Cells.retryLoan s 3) false (s.modCells (s.shared 3) fun c => { c with prot := 3 })).2 ≠ .ok) ∧
    Protect.retryDue (cell3 fun c => { c with prot := 2, want := 1 }) 3 = true ∧ Protect.retryDue late 3 = false ∧
    1000000 ≤ (Cells.tally late.ticks ((cell3 fun c => { c with drive := 1, runAcc := 1000000 }).cell 3)).runAcc := by decide +kernel

/-- Tripped, raised: source 25 of cell 3 may be told at this tick; the cell stands alone. -/
theorem witness_alone : Alone late 3 ∧ (late.source 25).lastAt ≠ some late.ticks ∧ Audit.silenced late 25 = false :=
  ⟨⟨by decide +kernel, by decide +kernel⟩, by decide, by decide +kernel⟩

/-- ProofsAndLoadDiagnostics. -/
theorem witness_proofs :
    (let s := (cell3 fun c => { c with cmd := 0, drive := 0, proofAsked := true }).wr 0x4003 5 5;
      Chan.loadClass s 3 = 5 ∧ s.head 3 = 3 ∧ (s.cell 3).prot = 0 ∧ 8000 ≤ (s.bank 0).supplyMv ∧ Protect.proofDue s 3 = true) ∧
    Protect.proofReady late 3 = false ∧ late.lead 3 = 3 ∧
    (let s := cell3 fun c => { c with prot := 6, proofFrom := 9998000, drops25 := List.replicate 10 55, drops50 := List.replicate 10 60 };
      (s.cell 3).proofFrom + 2000 ≤ s.ticks ∧ (s.cell 3).drops25.length = 10 ∧ (s.cell 3).drops50.length = 10) ∧
    ((cell3 fun c => { c with prot := 6 }).cell 3).drops25.length ≠ 10 ∧
    (let s := ((cell3 fun c => { c with drive := 0 }).setFn ⟨1, 0⟩ 2).wr 0x4003 0x16 1 |>.wr 0x4003 2 1;
      Alone s 3 ∧ (s.cell 3).cycleAt = none ∧ s.rdBit 0x4003 0x16 0 = true ∧ Protect.paused s 3 = false ∧ Protect.pull s 3 ≠ 2) ∧
    (∃ t, ((cell3 fun c => { c with pulling := true, cycleAt := some 9999000 }).cell 3).cycleAt = some t ∧ t + 1000 ≤ late.ticks) ∧
    ((cell3 fun c => { c with stuckAcc := some 5000 }).cell 3).stuckAcc = some 5000 ∧
    Protect.wiredRead ((cell3 fun c => { c with stuckAcc := some 5000 }).cell 3) = false ∧
    (cell3 fun c => { c with openOnAcc := some 1000000 }).rd 0x4003 0x15 * 1000 ≤ 1000000 ∧
    (let s := ((cell3 fun c => { c with drive := 0, wired := [{ partner := 4, ticks := 5000, byCurrent := false }] }).modCell 4 fun c => { c with drive := 0 }).setFn ⟨1, 0⟩ 2;
      Protect.paused s 3 = false ∧ Protect.paused s 4 = false ∧ (s.cell 3).wired.map (fun x => (x.partner, x.ticks, x.byCurrent)) = [(4, 5000, false)]) ∧
    (let s := (cell3 fun c => { c with prot := 6 }).modCell 3 fun c => { c with pulling := true, cycleAt := some 9999000 };
      Protect.paused s 3 = true ∧ (s.cell 3).pulling = true) ∧
    (let s := ((cell3 fun c => { c with pulling := true, cycleAt := some 9999000, drive := 0 }).setFn ⟨1, 0⟩ 2).wr 0x4003 2 1;
      Protect.paused s 3 = false ∧ s.gangOf 3 = none ∧ s.bridgeOf 3 = none) ∧ Protect.paused late 3 = true :=
  by and_intros <;> first
    | decide +kernel
    | exact ⟨by decide +kernel, by decide +kernel⟩

/-- BankSupplyAndClock: the thresholds from both sides. -/
theorem witness_bank_supply :
    (let r := (bank0 fun r => { r with supplyMv := 4499 }).bank 0; r.supplyMv < 4500 ∧ r.bandAt + 50 ≤ late.ticks) ∧
    (let r := (bank0 fun r => { r with supplyOff := true, supplyMv := 6501 }).bank 0;
      r.supplyOff = true ∧ 6500 < r.supplyMv ∧ r.highAt + 100 ≤ late.ticks ∧ r.unpowered = false) ∧
    ((bank0 fun r => { r with supplyMv := 2999 }).bank 0).supplyMv < 3000 ∧
    (let r := (bank0 fun r => { r with unpowered := true, supplyMv := 6501 }).bank 0;
      r.unpowered = true ∧ 6500 < r.supplyMv ∧ r.highAt + 100 ≤ late.ticks) ∧
    (late.bank 0).resetting = false ∧ (late.bank 0).aligned = true ∧ (50 : Int).natAbs ≤ 50 ∧ 50 < (-51 : Int).natAbs ∧
    ((0 : Int) - Protect.alignment late 1).natAbs ≤ 50 ∧ (bank0 fun r => { r with supplyMv := 7999 }).ticks = late.ticks ∧
    (let s := late.wr 0x4003 3 1; Chan.command s 3 ≠ 0 ∧ Chan.command s 3 ≠ 5 ∧ (s.bank 0).absentTold = false) := by
  and_intros <;> decide +kernel

/-- CommandsReachTheirCells: a queue with one command of each kind, no input nor gang that interferes, and the heartbeat's limits. -/
theorem witness_commands :
    Alone late 3 ∧ (∀ p ∈ late.inputs, p.2.load = none) ∧ Gangs.releasable late 0 = [] ∧
    (let s := bank0 fun r => { r with queue := [{ chan := 3, cmd := 5, duty := 0, at_ := 0 }] };
      (s.bank 0).queue = [{ chan := 3, cmd := 5, duty := 0, at_ := 0 }] ∧ (s.cell 3).prot ≠ 5 ∧ (s.cell 3).prot ≠ 6 ∧ (s.cell 3).loanPending = false) ∧
    (let s := (cell3 fun c => { c with want := 3 }).modBank 0 fun r => { r with queue := [{ chan := 3, cmd := 3, duty := 7, at_ := 0 }] };
      Chan.conducts 3 = true ∧ (s.cell 3).prot ≤ 1 ∧ (s.cell 3).thermalOff = false ∧ Chan.conducts (s.cell 3).want = true ∧
        Chan.lamp (Chan.loadClass s 3) = false) ∧
    (late.bank 0).queue = [] ∧ late.supervisor.runs = true ∧ (late.bank 0).escrow = .none ∧
    ((bank0 fun r => { r with beatAt := 9998650 }).bank 0).beatAt + 1350 ≤ late.ticks :=
  by refine ⟨⟨?_, ?_⟩, ?_⟩ <;> decide +kernel

/-- A gang of the lowest two cells of bank 0, on, with a reserve. -/
def ganged (f : Gang → Gang) : State := (late.wr 0x4800 1 (2 ^ 15 + 2 * 2 ^ 9)).modGang 0 f

theorem witness_gangs :
    (let s := ganged fun r => { r with candidate := some 1, heldFor := 10000 };
      bitOf (Gangs.config s 0) 15 = true ∧ (s.gang 0).failing = none ∧ Gangs.standsBy s 0 = false) ∧
    (let s := (late.wr 0x4800 1 (2 ^ 15 + 2 ^ 14 + 2 * 2 ^ 9)).modGang 0 fun r => { r with candidate := some 1, heldFor := 10000 };
      bitOf (Gangs.config s 0) 15 = true ∧ Gangs.standsBy s 0 = true ∧ (s.gang 0).pending = false ∧
        (Teller.request (Gangs.takeoverLoan s (Gangs.config s 0)) false (s.modGang 0 fun r => { r with
          pending := true, retryAt := none, failing := some (1, s.ticks), candidate := none, heldFor := 0 })).2 = .ok) ∧
    (let s := ((late.wr 0x4800 1 (2 ^ 15 + 2 ^ 14 + 2 * 2 ^ 9)).modGang 0 fun r => { r with candidate := some 1, heldFor := 10000 }).modTeller fun t =>
        { t with loans := [(0, some (Gangs.takeoverLoan (late.wr 0x4800 1 (2 ^ 15 + 2 ^ 14 + 2 * 2 ^ 9)) (2 ^ 15 + 2 ^ 14 + 2 * 2 ^ 9)))] };
      Gangs.standsBy s 0 = true ∧ (s.gang 0).pending = false ∧ (Teller.request (Gangs.takeoverLoan s (Gangs.config s 0)) false s).2 ≠ .ok) ∧
    (let s := ganged fun r => { r with failing := some (1, 9998000), reserveIn := true, pending := true };
      (s.gang 0).failing = some (1, 9998000) ∧ (s.gang 0).reserveIn = true ∧ (s.gang 0).pending = true) ∧
    (let s := ((late.wr 0x4800 1 (2 ^ 15 + 2 ^ 14 + 2 * 2 ^ 9)).modGang 0 fun r => { r with retryAt := some 0 }).modCell 0 fun c => { c with drive := 1 };
      (s.gang 0).retryAt = some 0 ∧ Gangs.standsBy s 0 = true ∧
        (s.activeMembers 0 (Gangs.config s 0)).any (fun m => Cells.conducting (s.cell m)) = true) ∧
    (let s := (cell3 fun c => { c with drive := 3 });
      Coil.slotsOf s 3 = [] ∧ s.lead 3 = 3 ∧ s.head 3 = 3 ∧ Gangs.gridNow s 3 = true ∧ Gangs.softOver s 3 = false) ∧
    (let s := cell3 fun c => { c with drive := 3, onPhase := true };
      (s.cell 3).onEnd ≤ s.now ∧ s.head 3 = 3) ∧
    ((cell3 fun c => { c with winTo := 10000000 }).cell 3).winTo ≤ late.ticks := by decide +kernel

/-- SampleSetsReachTheirEntries: two cells, one bank supply. -/
theorem witness_samples :
    late.ticks % 20 = 0 ∧ late.ticks % 100 = 0 ∧
    (([{ chan := 0, current := 5, pin := 6 }, { chan := 511, current := -3000, pin := 4000 }] : List CellSample).map (·.chan)).Nodup ∧ (([(15, 13500)] : List (Fin 16 × Nat)).map (·.1)).Nodup ∧
    (([(0, 250), (31, 900)] : List (Fin 512 × Int)).map (·.1)).Nodup := by decide

/-- A turn-on request of cell 3 that fits. -/
def request3 : Loan :=
  { requester := 3, kind := 1, budget := 0, amount := 1000, allowance := 0, duration := 1000, priority := 0, patience := 10,
    arrival := 10000000, rank := 1, seq := 3, receivedAt := 0 }

/-! ### The Teller, coil engines, loop engines, inputs -/

/-- TheTellerGrantsInOrder. -/
theorem witness_teller :
    (let s := late.modTeller fun t => { t with queue := [request3] };
      s.active ⟨0x0B, 0⟩ = true ∧ s.teller.resetting = false ∧ s.teller.queue = [request3] ∧ s.ticks < request3.arrival + request3.patience * 1000 ∧
        (s.teller.queue.map (·.requester)).Nodup ∧ (Teller.inFlight s.teller).length ≠ 128 ∧ Teller.freeSlot s.teller = some 0 ∧
        Teller.lack s request3 = [] ∧ Teller.lack s { request3 with amount := 500000 } ≠ []) ∧
    (late.modTeller fun t => { t with resetting := true }).teller.resetting = true ∧ (late.setFn ⟨0x0B, 0⟩ 1).active ⟨0x0B, 0⟩ = false ∧
    (let s := late.modTeller fun t => { t with queue := [{ request3 with arrival := 9990000 }] };
      s.teller.queue.find? (fun x => decide (x.requester = 3)) = some { request3 with arrival := 9990000 } ∧ 9990000 + 10 * 1000 ≤ s.ticks) ∧
    (let s := late.modTeller fun t => { t with loans := [(127, some { request3 with grantTick := 9999000 })] };
      Map.get none s.teller.loans 127 = some { request3 with grantTick := 9999000 } ∧ 9999000 + request3.duration ≤ s.ticks) ∧
    Map.get none late.teller.loans 127 = none := by decide +kernel

/-- LoanRequestsAreJudgedAtOnce: a requester with a loan, one without; a request that fits and one that never could. -/
theorem witness_loans :
    (Teller.loanOf (late.modTeller fun t => { t with loans := [(0, some request3)] }).teller 3).isSome ∧
    (Teller.requestOf (late.modTeller fun t => { t with queue := [request3] }).teller 3).isSome ∧
    Teller.loanOf late.teller 3 = none ∧ Teller.requestOf late.teller 3 = none ∧
    Teller.oversize late { request3 with receivedAt := late.now, seq := 3 } = false ∧ Teller.oversize late { request3 with amount := 10000000 } = true ∧
    late.teller.queue.length < 512 := by decide +kernel

/-- Coil engine 0, Active, on cell 3, its slot 0 in a mode, with `f`. -/
def coil0 (mode : Nat) (f : CoilSlot → CoilSlot) : State :=
  (((((late.setFn ⟨2, 0⟩ 2).wr 0x4C00 3 560).wr 0x4003 1 0x0200).wr 0x4C00 0x10 mode).wr 0x4C00 0x12 0).modCoil 0 0 f

theorem triggerable (mode : Nat) (h : mode = 1 ∨ mode = 3) : Triggerable (coil0 mode id) 0 0 3 := by
  rcases h with rfl | rfl <;> constructor <;> decide +kernel

/-- Slot 0 held back for 2 ms before a retrigger. -/
def dropped : State := coil0 1 fun x => { x with phase := 1, deferred := true, trigAt := 9998000, pendingTrig := true }

/-- CoilTriggersAskTheirLoan: each event in a state in which it acts. -/
theorem witness_coil_triggers :
    Triggerable (coil0 1 id) 0 0 3 ∧ Triggerable (coil0 3 id) 0 0 3 ∧
    (let s := (coil0 1 id).wr 0x4C00 (Coil.sub 0 0x1A) 1;
      Coil.ent s 0 0 0x1A ≠ 0 ∧ Coil.ent s 0 0 0x1A ≤ s.now ∧ s.fn ⟨2, 0⟩ = 2) ∧
    Coil.owns ((coil0 1 id).wr 0x4003 1 0) 0 = false ∧ untriggered (coil0 1 id) 0 0 ∧ limitTold (coil0 1 id) 0 0 ∧
    (let s := coil0 1 fun x => { x with phase := 6, minOffAt := 0 };
      (s.coil 0 0).minOffAt + s.rd 0x4C00 6 ≤ s.ticks ∧ (s.coil 0 0).pendingTrig = false ∧ (s.coil 0 0).deferred = false) ∧
    ((coil0 1 fun x => { x with phase := 6, pendingTrig := true }).coil 0 0).pendingTrig = true ∧
    undropped (coil0 1 fun x => { x with phase := 6, pendingTrig := true }) 0 (fun _ => False) ∧
    (∀ z : CoilTrig, { coil0 1 id with coilTrigs := [(0, z)] }.coilTrigs.find? (·.1 = 0) = some (0, z)) ∧
    ((coil0 1 fun x => { x with pauseUntil := 10000000 }).coil 0 0).pauseUntil ≤ late.ticks ∧
    ((coil0 1 fun x => { x with deferred := true, trigAt := 9998000 }).coil 0 0).trigAt + 2000 ≤ late.ticks ∧
    (let s := dropped; (s.coil 0 0).deferred = true ∧ (s.coil 0 0).trigAt + 2000 ≤ s.ticks ∧ (s.coil 0 0).phase = 1 ∧ (s.coil 0 0).back = 0 ∧
      (s.coil 0 0).pendingTrig = true) ∧ Triggerable (Coil.drop 0 0 dropped) 0 0 3 ∧ undropped dropped 0 (· = 0) ∧
    (CoilSlot.phase {} = 0 ∨ CoilSlot.phase {} = 6) :=
  ⟨triggerable 1 (.inl rfl), triggerable 3 (.inr rfl), by decide +kernel, by decide +kernel, by unfold untriggered; decide +kernel,
    .inl (by decide +kernel), by decide +kernel, by decide +kernel, by unfold undropped; decide +kernel, fun _ => rfl, by decide +kernel,
    by decide +kernel, by decide +kernel, by constructor <;> decide +kernel,
    by unfold undropped; decide +kernel, .inl rfl⟩

/-- CoilProfilesRunTheirPhases. -/
theorem witness_coil_phases :
    (let s := coil0 2 fun x => { x with phase := 2, boostAt := 0 };
      Coil.cellOf s 0 0 = some 3 ∧ Coil.owns s 0 = true ∧ Coil.mode s 0 0 = 2 ∧
        max (s.cell 3).changedAt (s.coil 0 0).boostAt + Coil.ent s 0 0 4 ≤ s.ticks) ∧
    (let s := coil0 3 fun x => { x with phase := 3, crossAt := 0 }; (s.coil 0 0).crossAt + Coil.ent s 0 0 2 ≤ s.ticks ∧ Coil.mode s 0 0 = 3) ∧
    (let s := coil0 1 fun x => { x with phase := 4, outSince := some 0 };
      (s.coil 0 0).regFault = false ∧ ∃ t, (s.coil 0 0).outSince = some t ∧ t + s.rd 0x4C00 0x0A * 1000 ≤ s.ticks) ∧
    (let s := (coil0 1 fun x => { x with phase := 4, eventAt := 9999000 }).wr 0x4C00 (Coil.sub 0 6) 1;
      Coil.ent s 0 0 6 ≠ 0 ∧ Coil.energised s 0 0 = true ∧ (s.coil 0 0).phase ≠ 2 ∧ (s.coil 0 0).eventAt + Coil.ent s 0 0 6 * 1000 ≤ s.ticks) ∧
    (let s := (coil0 1 fun x => { x with phase := 4, energisedAt := some 0 }).wr 0x4C00 (Coil.sub 0 0x0F) 1;
      Coil.energised s 0 0 = true ∧ Coil.budget s 0 0 ≤ Coil.used s 0 0 ∧ Coil.ent (s.wr 0x4C00 (Coil.sub 0 0x13) 0) 0 0 0x13 = 0) ∧
    (∀ j, ((coil0 1 id).coil 0 j).deferred = false) := by
  refine ⟨by decide +kernel, by decide +kernel, ⟨by decide +kernel, 0, by decide +kernel⟩, by decide +kernel, by decide +kernel, fun j => ?_⟩
  have h : (coil0 1 id).coils = [] := by decide +kernel
  show (Map.get {} (coil0 1 id).coils _).deferred = false
  rw [h]; rfl

/-- Loop engine 0, Active, on cell 3 in open loop, with `f`. -/
def loop0 (f : Loop → Loop) : State :=
  (((late.setFn ⟨3, 0⟩ 2).wr 0x4D00 3 560).wr 0x4003 1 0x0300).modLoop 0 f

/-- LoopBoundariesStepTheirEngine: a boundary of an engine in each state it steps. -/
theorem witness_loops :
    (let s := loop0 id; s.fn ⟨3, 0⟩ = 2 ∧ s.now / 1000 % max 1 (Loops.period s 0) = s.rd 0x4D00 7 ∧ Loops.ent s 0 0x0C ≠ 1) ∧
    (let s := loop0 fun r => { r with st := 2 };
      (s.loop 0).st = 2 ∧ Loops.suspends (Loops.feed 0 ((s.inc 0x4D00 0x38).wr 0x4D00 0x39 s.now)) 0 = false ∧ (s.loop 0).applied = 0 ∧
        Loops.ent (s.wr 0x4D00 0x0C 2) 0 0x0C = 2 ∧ Loops.ent s 0 0x0C ≠ 2 ∧ (s.loop 0).resumeNext = false ∧ (s.loop 0).modePending = false) ∧
    (let s := (loop0 fun r => { r with st := 3 }).wr 0x4003 1 0;
      Loops.suspends (Loops.feed 0 ((s.inc 0x4D00 0x38).wr 0x4D00 0x39 s.now)) 0 = true) ∧
    (let s := loop0 fun r => { r with lagging := true, lagSince := some 0 };
      (s.loop 0).lagTold = false ∧ ∃ t, (s.loop 0).lagSince = some t ∧ t + s.rd 0x4D80 8 * 1000 ≤ s.ticks) ∧
    (let s := loop0 fun r => { r with trackSince := some 0 };
      (s.loop 0).tracking = false ∧ ∃ t, (s.loop 0).trackSince = some t ∧ t + s.rd 0x4D80 0x0A * 1000 ≤ s.ticks) ∧
    (let s := (loop0 id).wr 0x4D00 4 4;
      (Loops.source s 0).1 = 4 ∧ (s.loop 0).extAt + s.rd 0x4D00 0x0B * 1000 ≤ s.ticks) := by
  and_intros <;> decide +kernel

/-- LoopOutputsStayWithinTheirLimits: closed loop, limits in order, a target cell that limits. -/
theorem witness_loop_outputs :
    Loops.block late 0 1 6 ≤ Loops.block late 0 1 7 ∧ Loops.block late 0 2 6 ≤ Loops.block late 0 2 7 ∧
    (let s := (loop0 id).modCell 3 fun c => { c with prot := 1 }; ∃ n ∈ Loops.activeCells s 0, (s.cell n).prot = 1) := by decide +kernel

/-- Input 3 with `f`, its mode set. -/
def input3 (mode : Nat) (f : Input → Input) : State := ((late.modInput 3 f).wr 0x4003 2 mode).modCell 3 fun c => { c with drive := 0 }

/-- FieldInputsFollowTheirPins. -/
theorem witness_inputs :
    (let s := input3 4 fun x => { x with ready := true, cand := some (0, 0, true) }; s.power = 3 ∧ (s.input 3).ready = true) ∧
    (let s := ({ input3 4 id with now := 10000240000 }).wr 0x4E00 5 2;
      Chan.mode s 3 = 4 ∧ Inputs.pulsed s 3 = true ∧ s.now / 1000 % Inputs.pulsePeriod s 3 = (20 * (3 % 32) + 180) % Inputs.pulsePeriod s 3 ∧
        (s.cell 3).drive = 0 ∧ (s.input 3).breakAt = none ∧ Inputs.breakEnabled s 3 = false ∧ (s.bank 0).supplyOff = false) ∧
    (let s := (({ input3 4 id with now := 10000009500000 }).wr 0x4E00 8 1).setFn ⟨1, 0⟩ 2;
      Inputs.breakEnabled s 3 = true ∧ Inputs.untilBreak s 3 = 0 ∧
        Inputs.breakEnabled (s.modInput 3 fun x => { x with breakAt := some 9999500 }) 3 = true) ∧
    Inputs.breakEnabled (input3 4 fun x => { x with breakAt := some 9999500 }) 3 = false ∧
    ((input3 4 fun x => { x with ready := true, cand := some (0, 0, true) }).bank 0).resetting = false ∧
    (∃ t, ((input3 4 fun x => { x with breakAt := some 9999500 }).input 3).breakAt = some t ∧ t + 500 ≤ late.ticks) ∧
    (Chan.mode (input3 6 id) 3 = 6 ∧ (input3 6 id).rdField 0x4003 8 0 2 = 0 ∧ (input3 6 id).rdBit 0x4003 8 4 = false) ∧ Chan.mode late 3 ≠ 6 ∧
    (Protect.band ((bank0 fun r => { r with supplyMv := 5000 }).bank 0).supplyMv ≠ (bank0 fun r => { r with supplyMv := 5000 }).rd 0x4E80 0x31 ∧
      ((bank0 fun r => { r with supplyMv := 5000 }).bank 0).bandAt + 1000 ≤ late.ticks) := by
  and_intros <;> decide +kernel

/-! ### Accepted writes -/

/-- Session 0 is open with the Service role. -/
def host : State := late.modSession 0 fun x => { x with phase := .active, role := 4, transport := 4 }

/-- Session 0 may write `v` to an entry of a state. -/
def ok (s : State) (i j v : Nat) : Bool :=
  decide (s.power = 3 ∧ s.tally.bound = none ∧ s.tally.entering = none ∧ s.blank = false ∧ (s.session 0).phase = .active) &&
    decide (Rights.check s s (.session 0) [] (Direct.write s i j v) = .ok)

/-- The same for an octet string. -/
def okOctets (s : State) (i j : Nat) (l : List Byte) : Bool :=
  decide (s.power = 3 ∧ s.tally.bound = none ∧ s.tally.entering = none ∧ s.blank = false ∧ (s.session 0).phase = .active) &&
    decide (Rights.check s s (.session 0) [] (Direct.octetWrite i j l) = .ok)

theorem accepts {s : State} {i j v : Nat} (h : ok s i j v = true) : Accepts s (.session 0) (Direct.write s i j v) := by
  simp only [ok, Bool.and_eq_true, decide_eq_true_eq] at h
  obtain ⟨⟨h1, h2, h3, h4, h5⟩, h6⟩ := h
  exact ⟨⟨h1, h2, h3⟩, h4, fun k hk => by cases hk; exact h5, fun c hc => by (cases hc), h6⟩

theorem acceptsOctets {s : State} {i j : Nat} {l : List Byte} (h : okOctets s i j l = true) :
    Accepts s (.session 0) (Direct.octetWrite i j l) := by
  simp only [okOctets, Bool.and_eq_true, decide_eq_true_eq] at h
  obtain ⟨⟨h1, h2, h3, h4, h5⟩, h6⟩ := h
  exact ⟨⟨h1, h2, h3⟩, h4, fun k hk => by cases hk; exact h5, fun c hc => by (cases hc), h6⟩

/-- Bank 0 in Configure, and Active; cell 3 high-side; coil engine 0 and loop engine 0 Active on it. -/
def bankC : State := host.setFn ⟨1, 0⟩ 1
def bankA : State := host.setFn ⟨1, 0⟩ 2
def coilA : State := (((bankA.setFn ⟨2, 0⟩ 2).wr 0x4C00 3 560).wr 0x4003 1 0x0200).wr 0x4C00 0x10 1
def loopA : State := ((bankA.setFn ⟨3, 0⟩ 2).wr 0x4D00 3 560).wr 0x4003 1 0x0300

/-- Context 0 is Active. -/
def ctxRunning : State := host.setFn ⟨5, 0⟩ 2

/-- RefusedWritesChangeNothing: an entry that is not, a read-only one, a value out of range. -/
theorem witness_one_posting_at_a_time :
    (∀ (s : State) (k : Fin 128), Direct.second s (.session k) = false) ∧
    (let s := ctxRunning; Direct.second s (.context 0) = false ∧ s.fn ⟨5, 0⟩ = 2 ∧
      Direct.second (s.modCtx 0 fun x => { x with mailbox := some { op := 2, addr := 0 } }) (.context 0) = true) :=
  ⟨fun _ _ => rfl, by decide +kernel⟩
theorem witness_refused_writes :
    Awake host ∧ host.blank = false ∧ (host.session 0).phase = .active ∧
    Rights.check host host (.session 0) [] ⟨0x1001, 1, 0, [0]⟩ = .noEntry ∧ Rights.check host host (.session 0) [] (Direct.write host 0x1000 8 0) = .denied ∧
    Rights.check bankC bankC (.session 0) [] (Direct.write bankC 0x4003 9 255) = .range ∧
    Rights.check host host (.session 0) [] (Direct.write host 0x4003 9 5) = .state :=
  ⟨⟨by decide, by decide, by decide⟩, by decide, by decide, by decide +kernel, by decide +kernel, by decide +kernel, by decide +kernel⟩

/-- AcceptedWritesOfChannelsAndFunctions. -/
theorem witness_channel_writes :
    ok bankC 0x4003 9 5 ∧ ok (bankA.setFn ⟨2, 0⟩ 1) 0x4003 1 0x0200 ∧ ok (bankA.wr 0x4003 2 1) 0x4003 3 1 ∧ ok (bankA.wr 0x4003 2 1) 0x4003 3 5 ∧
    ok (bankA.wr 0x4003 2 1) 0x4003 4 32768 ∧ ok bankA 0x4403 0x0E 1 ∧ ok host 0x4900 1 1 ∧ ok bankA 0x4900 1 3 ∧ ok bankC 0x4900 1 2 ∧
    Posting.transition host (host.setFn ⟨1, 0⟩ 1) (.session 0) ⟨1, 0⟩ 1 = none ∧
    Posting.transition bankA (bankA.setFn ⟨1, 0⟩ 3) (.session 0) ⟨1, 0⟩ 3 = none ∧
    Posting.transition bankC (bankC.setFn ⟨1, 0⟩ 2) (.session 0) ⟨1, 0⟩ 2 = none ∧ (0 : Nat) < Fn.count 1 ∧ Fns.fixedActive ⟨1, 0⟩ = false := by
  decide +kernel

/-- AcceptedWritesOfEngines. -/
theorem witness_engine_writes :
    ok ((bankA.wr 0x4003 5 5).modCell 3 fun c => { c with cmd := 0, drive := 0 }) 0x4403 0x0D 1 ∧ ok coilA 0x4C00 (Coil.sub 0 0x18) 1 ∧
    ok coilA 0x4C00 (Coil.sub 0 0x18) 0 ∧ ok coilA 0x4C00 (Coil.sub 0 0x1B) 1 ∧ ok loopA 0x4D00 0x0C 0 ∧ ok loopA 0x4D00 0x0C 1 ∧
    ok (loopA.modLoop 0 fun r => { r with st := 2 }) 0x4D00 0x0C 2 ∧ ok (loopA.wr 0x4D00 4 1) 0x4D00 0x0D 1 ∧
    ok (bankA.wr 0x4003 2 6) 0x4E82 4 77 := by decide +kernel

/-- Engine 0 in Configure with an open load; Active with its context 0. -/
def loading : State := { host.setFn ⟨4, 0⟩ 1 with load := some { owner := .session 0, target := 0, tz96 := false } }
def ctxA : State := (host.setFn ⟨4, 0⟩ 2).setFn ⟨5, 0⟩ 2

/-- AcceptedWritesOfSequencers: an image of one nop has the check 0x41D912FF; a census that runs out. -/
theorem witness_sequencer_writes :
    ok (host.setFn ⟨4, 0⟩ 1) 0x5200 7 1 ∧ okOctets loading 0x5200 4 (List.replicate 240 0) ∧
    ok ((loading.wr 0x5200 5 1).wr 0x5200 6 0x41D912FF) 0x5200 7 2 ∧ ok loading 0x5200 7 3 ∧ ok ctxA 0x5100 0x0C 0 ∧ ok ctxA 0x5100 0x0C 1 ∧
    ok ctxA 0x5100 0x0C 2 ∧ ok ctxA 0x5400 0x18 1 ∧ ok ctxA 0x5480 1 1 ∧ ok ctxA 0x5480 1 0 ∧
    (let s := late.modEng 0 fun r => { r with census := { r.census with running := true, until_ := 10000000 } };
      (s.eng 0).census.running = true ∧ (s.eng 0).census.until_ ≤ s.ticks) := by decide +kernel

/-- AcceptedWritesOfNetworks. -/
theorem witness_network_writes :
    ok (host.wr 0x1200 2 0) 0x1200 5 20000000000 ∧ ok host 0x1181 1 7 ∧ ok host 0x1181 0x11 0 ∧ ok host 0x1180 1 7 ∧ ok host 0x1180 2 7 ∧
    ok host 0x1180 3 7 ∧ ok ((((host.setFn ⟨9, 0⟩ 2).wr 0x6300 3 1000000).wr 0x6300 4 1).wr 0x6300 0x10 (125000 * 256)) 0x6300 5 1 ∧
    ok host 0x6101 1 100 ∧ ok host 0x6101 12 100 ∧ ok host 0x6200 1 100 ∧ ok host 0x6207 1 600 ∧ ok (host.setFn ⟨9, 0⟩ 2) 0x6000 0x14 1 ∧
    ok host 0x6100 0x0C 1 ∧ ok ((host.setFn ⟨6, 0⟩ 2).modCan 0 fun r => { r with busOff := true }) 0x6400 0x0E 1 ∧
    ok (host.setFn ⟨6, 0⟩ 2) 0x6400 0x0F 1 ∧ okOctets (host.setFn ⟨6, 0⟩ 2) 0x6400 0x0D (List.replicate 76 0) ∧
    ok (host.setFn ⟨7, 0⟩ 2) 0x6500 6 1 ∧ ok (host.setFn ⟨7, 0⟩ 2) 0x6500 7 1 ∧ Map.wf {} host.sessions = true := by decide +kernel

/-- The access engine Active with one zone; token slot 2 with the right to its memory and a grant. -/
def accessA : State :=
  (((host.setFn ⟨10, 0⟩ 2).wr 0x7020 1 1).wr 0x7012 3 4).modAccess fun a => { a with grants := [(2, some { at_ := 9000000, ks := 0, zone := 0 })] }

/-- AcceptedWritesOfPowerAndAccess, all but enrolment. -/
theorem witness_power_writes :
    ok host 0x1300 2 1 ∧ ok host 0x1300 2 2 ∧ ok host 0x1300 2 3 ∧ ok host 0x6800 0x0C 0x1FF ∧ ok host 0x6800 0x0B 255 ∧ ok accessA 0x7000 4 0 ∧
    ok accessA 0x7030 1 2 ∧ ok accessA 0x7030 1 (2 + 256) ∧ ok accessA 0x7012 6 1 ∧ Access.locked accessA = false ∧
    Sleep.root host = true ∧ Sleep.root (host.wr 0x6800 2 5) = false ∧ Sleep.members host = [] ∧ host.rd 0x6800 8 < 8 ∧
    Sleep.refusal { host with tally := { depth := 2 } } 0xFF 2 = none ∧
    Sleep.refusal (({ host with tally := { depth := 2 } }).wr 0x6800 0x0B 1) 0xFF 2 = some 1 := by decide +kernel

/-- AcceptedWritesOfAuditAndUpdate. -/
theorem witness_audit_writes :
    ok host 0x8000 5 1 ∧ ok host 0x8000 5 2 ∧ ok host 0x9FFF 5 1 = false ∧ ok host 0x8000 6 1 ∧ ok host 0x8000 6 0 ∧ ok host 0x7E00 1 0x0100 ∧
    ok host 0x7600 7 1 ∧ ok host 0x7C00 2 1 ∧ ok (Upd.setSt 1 host) 0x7C00 2 2 ∧ ok host 0x7C00 2 5 ∧
    okOctets (Upd.setSt 1 host) 0x7C00 4 (List.replicate 240 0) ∧ ok ((Upd.setSt 4 host).wr 0x7C00 6 12000000000) 0x7C00 7 1 ∧
    ok (Upd.setSt 5 host) 0x7C00 7 2 := by decide +kernel

/-! ### Paths, mailbox, messages; sessions; relays and stores -/

/-- TimersAndMailboxRequests: a context that may ask, one that has asked, one that does not run; a timer before and at its tick. -/
theorem witness_mailbox_requests :
    MayIssue (running 0 0) 0 ∧ ((running 0 0).ctx 0).mailbox = none ∧
    ((running 0 0 fun x => { x with mailbox := some { op := 1, addr := 0 } }).ctx 0).mailbox ≠ none ∧ (State.reset.ctx 0).st ≠ 1 ∧
    (let s := running 0 0 fun x => { x with armed := true, timer := 0 };
      (s.ctx 0).armed = true ∧ (BitVec.ofNat 32 s.ticks - (s.ctx 0).timer).msb = false) ∧
    (let s := running 0 0 fun x => { x with armed := true, timer := 1 }; (BitVec.ofNat 32 s.ticks - (s.ctx 0).timer).msb = true) :=
  ⟨⟨by decide, by decide, by decide, by decide⟩, by decide, by decide, by decide, by decide +kernel, by decide +kernel⟩

/-- MessagesLocksAndSharedStores. -/
theorem witness_messages :
    ((late.modEng 0 fun r => { r with shared := [⟨0x10, 4, 0x11223344⟩] }).eng 0).shared = [⟨0x10, 4, 0x11223344⟩] := by decide +kernel
theorem witness_messages_sent :
    ((running 0 0).ctx 0).rx = [] ∧ ((running 0 0 fun x => { x with rx := [{ msg := [1, 2] }] }).ctx 0).rx = [{ msg := [1, 2] }] ∧
    (running 0 0).fn ⟨5, 1⟩ ≠ 2 ∧
    (let s := ((running 0 0).setFn ⟨5, 1⟩ 2).wr 0x5101 9 1;
      s.fn ⟨5, 1⟩ = 2 ∧ (s.ctx 1).rx.length < s.rd 0x5101 9 ∧ (Vault.sourceFor s (s.rd 0x5100 0x0A) 11 (Vault.coinsOf (2 + 240))).isSome ∧
        ((s.modCtx 1 fun x => { x with rx := [{}] }).rd 0x5101 9 ≤ ((s.modCtx 1 fun x => { x with rx := [{}] }).ctx 1).rx.length)) ∧
    Map.get 0 (running 0 0).locks 31 = 0 ∧ Map.get 0 { running 0 0 with locks := [(31, 1)] }.locks 31 = 0 + 1 := by decide +kernel

theorem acceptsContext {s : State} {c : Fin 128} {x : Write} (h : s.power = 3 ∧ s.tally.bound = none ∧ s.tally.entering = none ∧ s.blank = false ∧
    s.fn ⟨5, c⟩ = 2 ∧ Rights.check s s (.context c) [] x = .ok) : Accepts s (.context c) x :=
  ⟨⟨h.1, h.2.1, h.2.2.1⟩, h.2.2.2.1, fun k hk => by (cases hk), fun d hd => by cases hd; exact h.2.2.2.2.1, h.2.2.2.2.2⟩

/-- Context 0 Active with the Configure role, running; it owns cell 3, which it may command. -/
def commanding : State :=
  ((((((running 0 0).setFn ⟨5, 0⟩ 2).setFn ⟨4, 0⟩ 2).wr 0x5100 7 3).setFn ⟨1, 0⟩ 2).wr 0x4003 1 0x0500).wr 0x4003 2 1

/-- CellAndEnginePaths: values of COMMAND at each limit, an accepted command, acquisition and set-point. -/
theorem witness_paths :
    ((running 0 0 fun x => { x with stalled := some (1, 0x20000) }).ctx 0).stalled = some (1, 0x20000) ∧ (commanding.eng 0).paths = [] ∧
    (commanding.ctx 0).st = 1 ∧ (512 : Nat) / 512 % 128 ≠ 0 ∧ (6 : Nat) / 512 % 128 = 0 ∧ (5 : Nat) < 6 % 256 ∧ (6 : Nat) % 256 ≠ 255 ∧
    (commanding.ctx 0).ownReq = none ∧ commanding.rd 0x5100 7 = 3 ∧ Chan.owner commanding 3 = 0x0500 ∧ Chan.owner commanding 4 = 0 := by
  decide +kernel
theorem witness_paths_accept :
    Accepts commanding (.context 0) (Direct.write commanding 0x4003 3 1) ∧ Accepts commanding (.context 0) (Direct.write commanding 0x4004 1 0x0500) ∧
    Accepts (commanding.setFn ⟨2, 0⟩ 2) (.context 0) (Direct.write (commanding.setFn ⟨2, 0⟩ 2) 0x4C00 (Coil.sub 0 0x19) 500) :=
  ⟨acceptsContext (by decide +kernel), acceptsContext (by decide +kernel), acceptsContext (by decide +kernel)⟩

/-- A context that publishes 0xC000.01, a byte, and asks at address 0 to write 7 to it. -/
def publishing : State :=
  { running 0 0 fun x => { x with mailbox := some { op := 4, addr := 0 } } with
    published := [{ loc := 0xC00001, owner := 0, row := { lo := 1, cnt := 1, name := "", ty := .u8, acc := .rw, role := .operate }, lo := 0, hi := 0 }],
    dmem := [(0, 1), (2, 0xC0), (3, 1), (4, BitVec.ofNat 8 LType.u8.code), (5, 1), (6, 7)] }

/-- MailboxRequestsAreAnswered: own entries written, and another's. -/
theorem witness_mailbox_answers :
    (publishing.ctx 0).mailbox = some { op := 4, addr := 0 } ∧ publishing.blank = false ∧ { publishing with blank := true }.blank = true ∧
    Mail.writes (Mail.block publishing 0 0) = some [⟨0xC000, 1, LType.u8.code, [7]⟩] ∧
    Mail.ownFirst publishing 0 0 [] [⟨0xC000, 1, LType.u8.code, [7]⟩] = none ∧
    Mail.ownFirst publishing 1 0 [] [⟨0xC000, 1, LType.u8.code, [7]⟩] = some ⟨.owner, 0⟩ := by decide +kernel

/-- A frame of session 0 with its right tag; the session's key is 0. -/
def tagged (type fc : Nat) (payload : List Byte) : Frame :=
  let f : Frame := { frame with fc := fc, len := payload.length, payload := payload }
  { f with tag := Bll.tagOf 0 type f }

/-- Session 0 Active on the uplink path of the origin, version 2.0. -/
def client : State := late.modSession 0 fun x => { x with phase := .active, role := 3, transport := 1, version := 0x0200 }

theorem fresh (type : Nat) (payload : List Byte) (h : Bll.malformed type (tagged type 1 payload) = false) :
    Fresh client origin type (tagged type 1 payload) where
  session := by show 0 < 128; decide
  served := by decide
  formed := h
  active := by show (client.session 0).phase = .active; decide
  transport := by show (client.session 0).transport = 1; decide
  addr := by show (client.session 0).addr = 0; decide
  source := by
    have h : Bll.sourceOf (tagged type 1 payload) = 0 := by simp [tagged, frame, Bll.sourceOf, Bll.oldLayout]
    rw [h]; rfl
  tag := rfl
  version := by show 0x20 = Frames.versionByte (client.session 0).version; decide
  fc := by show Bll.high client 0 < 1; decide +kernel
  room := by show Bll.high client 0 ≠ _; decide +kernel
  queue := by show (client.session 0).queue = []; decide
  evaluating := by show (client.session 0).evaluating = none; decide
  bits := by simp [tagged, frame, Bll.reservedBits, Bll.oldLayout]
  dest := .inl (by simp [tagged, frame, Bll.destOf, Bll.oldLayout])
  own := by
    have h : Bll.destOf (tagged type 1 payload) = 0 := by simp [tagged, frame, Bll.destOf, Bll.oldLayout]
    rw [h]; decide +kernel
  service := by decide

/-- RequestsAreEvaluatedOnce: a fresh request of every type; a wrong tag, an FC too old, a repeated one. -/
theorem witness_requests :
    Fresh client origin 0x10 (tagged 0x10 1 [1, 0, 0x10, 1]) ∧ Reads.parse [1, 0, 0x10, 1] = some [(0x1000, 1)] ∧
    Fresh client origin 0x11 (tagged 0x11 1 [1, 3, 0x40, 9, 2, 1, 5]) ∧ Reads.parseWrites [1, 3, 0x40, 9, 2, 1, 5] = some [⟨0x4003, 9, 2, [5]⟩] ∧
    Fresh client origin 0x12 (tagged 0x12 1 [0, 0x10, 1, 1, 3, 100, 0, 0, 0, 0, 0]) ∧
    Reads.check client 3 false 0x1000 1 = .ok ∧ Subs.intervalOk 1 100 = true ∧ Subs.total client < 1024 ∧ Subs.freeNumber (client.session 0) = some 0 ∧
    Fresh client origin 0x13 (tagged 0x13 1 [0]) ∧ Fresh client origin 0x15 (tagged 0x15 1 []) ∧ Fresh client origin 5 (tagged 5 1 []) ∧
    2 ∉ [1, 3, 5, 0x10, 0x11, 0x12, 0x13, 0x15] ∧ Fresh client origin 2 (tagged 2 1 []) :=
  ⟨fresh _ _ (by decide), by decide, fresh _ _ (by decide), by decide +kernel, fresh _ _ (by decide), by decide +kernel, by decide, by decide +kernel,
    by decide +kernel, fresh _ _ (by decide), fresh _ _ (by decide), fresh _ _ (by decide), by decide, fresh _ _ (by decide)⟩
theorem witness_requests_turned_away :
    (∃ f : Frame, f.session < 128 ∧ Bll.malformed 0x10 f = false ∧ f.tag ≠ Bll.tagOf (client.session f.session).ks 0x10 f) ∧
    (let s := client.wr 0x1100 8 17; (1 : Nat) + 15 < Bll.high s 0) ∧
    (let s := (client.wr 0x1100 8 1).modSession 0 fun x => { x with seen := [1] };
      Bll.high s 0 ≤ 1 + 15 ∧ 1 ≤ Bll.high s 0 ∧ (s.session 0).seen.contains 1 = true) := by
  refine ⟨⟨{ frame with tag := Bll.tagOf 0 0x10 frame + 1 }, by decide, by decide, ?_⟩, by decide +kernel, by decide +kernel⟩
  show Bll.tagOf 0 0x10 frame + 1 ≠ Bll.tagOf 0 0x10 frame
  omega

/-- An OPEN for Observe; a key in slot 0 allows it. -/
def openFrame : Frame := { frame with fc := 0, len := 9, payload := [1, 0, 0, 0, 0, 0, 0, 0, 0] }
def keyed : State := (late.wr 0x1181 1 7).wr 0x1181 0x11 4
/-- Session 0 waits for its PROVE. -/
def awaiting : State := keyed.modSession 0 fun x => { x with phase := .challenged 11000000, transport := 1, slot := 0, role := 1 }

/-- The right proof of session 0, in the 16 octets of a PROVE. -/
theorem witness_proof : leNat (octets 16 (Bll.proofOf awaiting 0)) = Bll.proofOf awaiting 0 ∧ (octets 16 (Bll.proofOf awaiting 0)).length = 16 ∧
    ∃ l : List Byte, l.length = 16 ∧ leNat l ≠ Bll.proofOf awaiting 0 := by
  have h : Bll.proofOf awaiting 0 < 2 ^ 128 := Nat.mod_lt _ (by decide)
  refine ⟨by rw [leNat_octets]; exact Nat.mod_eq_of_lt h, length_octets .., octets 16 ((Bll.proofOf awaiting 0 + 1) % 2 ^ 128), length_octets .., ?_⟩
  rw [leNat_octets]
  omega

/-- SessionsOpenByProof. -/
theorem witness_open :
    Bll.served keyed origin = true ∧ Bll.malformed 1 openFrame = false ∧ openStatus keyed origin openFrame = .ok ∧
    openStatus late origin openFrame = .auth ∧ Bll.freeSession keyed false = some 0 ∧ Bll.malformed 1 frame = true ∧
    Bll.awaits awaiting 0 = true ∧ Bll.awaits late 0 = false ∧
    ({ late with power := 1 }).power = 1 ∧ Bll.served { late with power := 1 } origin = false ∧
    ((late.modSession 5 fun x => { x with phase := .challenged 10000000 }).session 5).phase = .challenged 10000000 ∧
    Bll.lockedOut { late with openers := [⟨1, 1, 2, [], 10000001⟩] } 1 1 2 = true ∧ Bll.lockedOut { late with openers := [⟨1, 1, 2, [], 10000000⟩] } 1 1 2 = false ∧
    (let s := late.modSession 5 fun x => { x with phase := .active, idleBy := 10000000 };
      (s.session 5).phase = .active ∧ (s.session 5).idleBy ≤ s.ticks) := by decide +kernel

/-! ### Relays, stores, the switch and time -/

/-- Session 0 waits for device 5 of CAN bus 1, at relay tag 7. -/
def relaying : State :=
  { (late.modSession 0 fun x => { x with relay := some (relayDevice (.can 1) 5, 10000000), evaluating := some 4 }) with
    relayTags := [(relayDevice (.can 1) 5, 8)] }
/-- Session 0 Active with one subscription to FIRMWARE_VERSION, due now. -/
def subscribed : State :=
  late.modSession 0 fun x => { x with
    phase := .active, subs := [{ number := 3, loc := 0x100001, mode := 1, tc := 3, interval := 100, deadband := 0, last := 0, due := 10000000 }] }

/-- RelaysStoresAndServiceGoOn. -/
theorem witness_relays :
    (relaying.session 0).relay = some (relayDevice (.can 1) 5, 10000000) ∧ (relaying.session 0).evaluating = some 4 ∧
    (relaying.session 0).queue = [] ∧ (relaying.session 0).closing = false ∧ Map.wf {} relaying.sessions = true ∧
    Map.get 0 relaying.relayTags (relayDevice (.can 1) 5) = 7 + 1 ∧ Map.get 0 relaying.relayTags (relayDevice (.can 1) 5) ≠ 8 + 1 ∧
    (∀ y ∈ (subscribed.session 0).subs, y.number = 3 ∧ y.due ≤ subscribed.ticks ∧ y.mode = 1 ∧ (Subs.row subscribed y).isSome = true) ∧
    (subscribed.session 0).phase = .active := by decide +kernel
theorem witness_relays_alone : ∀ j, j ≠ 0 → (relaying.session j).queue = [] ∧ ∀ r, (relaying.session j).relay = some r → r.1 ≠ relayDevice (.can 1) 5 := by
  intro j hj
  have h : relaying.session j = {} := by
    simp [relaying, State.session, State.modSession, late, State.reset, Map.get_modify_ne _ _ _ hj]
  rw [h]
  exact ⟨rfl, fun r hr => by cases hr⟩
theorem witness_store_jobs :
    (let s := { late with iso := [(0, { rxBy := some 10000000, fcBy := some 10000000 })] };
      (s.isoTp 0).rxBy = some 10000000 ∧ (s.isoTp 0).fcBy = some 10000000) ∧
    { late with jobs := [{ kind := .entries [0x100007], phase := .storing }] }.jobs = [{ kind := .entries [0x100007], phase := .storing }] ∧
    (let s := { late with jobs := [{ kind := .entries [0x100007], phase := .waiting 10000000 }] };
      Store.busy s = false ∧ ∃ j ∈ s.jobs, j.phase = .waiting 10000000) ∧
    (let s := { late with jobs := [{ kind := .entries [0x100007], phase := .waiting 10000000 }] };
      Teller.loanOf s.teller 0x1000 = none ∧ Teller.requestOf s.teller 0x1000 = none ∧ s.teller.resetting = false ∧
        Teller.loanOf (s.modTeller fun t => { t with loans := [(0, some { request3 with requester := 0x1000 })] }).teller 0x1000 ≠ none) ∧
    (let s := { late with blank := true, jobs := [{ kind := .functions .direct (.session 0) [] [], phase := .stored }] };
      s.jobs = [{ kind := .functions .direct (.session 0) [] [], phase := .stored }] ∧ s.sessions = [] ∧ s.update.job = none) ∧
    (let s := { late with blank := true }; s.blank = true ∧ s.supervisor.runs = true ∧ s.update.activation = none ∧ s.sessions = []) := by
  decide +kernel

/-- Ports 0 and 1 Active and in VLAN 1, with 100 coins for class 0; every port has an address of its own. -/
def switching : State :=
  (((((({ late with ledger := (List.range 9).map fun q => ((0x6000 + q) * 256 + 4, 256 + 2 * q) } : State).setFn ⟨9, 0⟩ 2).setFn ⟨9, 1⟩ 2).wr 0x6180 1 1).wr 0x6180 2 3).wr 0x6000 6 1).wr 0x6200 1 100
/-- An untagged frame, and a PAUSE frame. -/
def ether : EthHead := { head with dst := 2 }
def pauseFrame : EthHead := { ether with etype := 0x8808 }
def arrivedAt (p id : Nat) (s : State) : State := s.modPort p fun r => { r with arriving := some ⟨seen p ether, some id⟩ }
/-- An item of the Vault waits at port 1, or is in transmission there. -/
def item : VItem := { id := 0, chain := { tc := 0, port := 1, coins := 1, start := some 10000000 }, cargo := .eth (seen 0 ether), ports := [1] }
def waiting : State := { switching.modPort 1 fun r => { r with link := true } with vault := [item], vaultNext := 1 }
def transmitting : State :=
  { switching.modPort 1 fun r => { r with sending := some 0 } with vault := [{ item with ports := [], sending := [1] }], vaultNext := 1 }

/-- FramesPassTheSwitch: every way of a decision, an end of reception, a start and an end of transmission, links and ages. -/
theorem witness_decisions :
    Switch.up late 0 = false ∧ Switch.up switching 0 = true ∧ (switching.port 0).arriving = none ∧ Switch.pause (seen 0 pauseFrame) = true ∧
    Switch.pause (seen 0 ether) = false ∧ Switch.accepted switching (seen 0 ether) = true ∧
    Switch.accepted (switching.wr 0x6000 8 1) (seen 0 ether) = false ∧ Switch.match_ switching (seen 0 ether) = none ∧
    Switch.egress (switching.wr 0x6000 6 9) (seen 0 ether) none = none ∧ Switch.egress switching (seen 0 ether) none = some [1] ∧
    queued switching 0 [1] = [1] ∧ queued (switching.setFn ⟨9, 1⟩ 1) 0 [1] = [] ∧
    Vault.sourceFor switching (Switch.frameClass switching (seen 0 ether) none) 1 12 = some 0 ∧
    (let s := ((switching.wr 0x6200 1 0).wr 0x6200 2 0).wr 0x6101 2 0; Vault.sourceFor s (Switch.frameClass s (seen 0 ether) none) 1 12 = none) := by
  decide +kernel
theorem witness_receptions :
    (let s := arrivedAt 0 0 { switching with vault := [{ item with chain := { item.chain with coins := 12, start := none } }], vaultNext := 1 };
      (s.port 0).arriving = some ⟨seen 0 ether, some 0⟩ ∧ (seen 0 ether).len = 64 ∧ Switch.macsec s 0 = false ∧ Switch.group (seen 0 ether).src = false ∧
        s.fdb.length < 4096 ∧ (Vault.find s 0).map (·.sending) = some []) ∧
    Switch.readLate waiting = 0 ∧ Switch.readDemand waiting + Switch.readRate 1 (Switch.wireLen waiting 1 item) ≤ 2400000 ∧
    (let s := { waiting with readOwed := 1 };
      Switch.readLate s = 0 ∧ 0 < Switch.readLate { s with readAt := 10000000 } ∧ Switch.idle s 1 = true ∧ Switch.head s 1 0 = some item) ∧
    (waiting.port 1).sending = none ∧ Switch.linked waiting 1 = true ∧ waiting.supply.onBackup = false ∧ Vault.sleeps waiting 1 = false ∧
    Switch.macsec waiting 1 = false ∧ waiting.rd 0x6301 1 = 0 ∧ Switch.head waiting 1 0 = some item ∧
    (∀ k, 0 < k → k < 8 → Switch.head waiting 1 k = none) ∧ Vault.find waiting 0 = some item ∧
    (transmitting.port 1).sending = some 0 ∧ Vault.find transmitting 0 = some { item with ports := [], sending := [1] } ∧
    (switching.port 0).link = false ∧ (waiting.port 1).asleep = false ∧ (waiting.port 1).arriving = none ∧ Switch.up waiting 1 = true := by
  and_intros <;> first
    | decide +kernel
    | exact fun k h0 h8 => (by decide +kernel : ∀ k < 8, 0 < k → Switch.head waiting 1 k = none) k h8 h0
theorem told_waiting : Told waiting where
  ids := .cons (fun _ h => by cases h) .nil
  items := by decide
  rx := fun c r h => by cases h
  tx := fun k => ⟨fun x h => (by cases h), fun x h => (by cases h), fun y h => by cases h⟩

/-- SchedulesAndModuleTimeFollowTheirClock. -/
theorem witness_schedules :
    (let s := late.wr 0x6300 9 9000000000; s.rd 0x6300 9 ≠ 0 ∧ s.rd 0x6300 9 ≤ s.now) ∧ late.rd 0x6300 9 = 0 ∧
    (let s := late.modPort 0 fun r => { r with bullion := [(10000000, 15626)] };
      15625 < (((s.port 0).bullion.filter fun y => decide (s.ticks < y.1 + 50)).map (·.2)).sum) ∧
    (let s := (late.wr 0x6140 2 (2 ^ 19)).modStream 0 fun x => { x with high := some 3 };
      bitOf (Switch.control s 0) 19 = true ∧ (s.stream 0).high.isSome = true ∧ (s.stream 0).passedAt + s.rd 0x6140 7 * 1000 ≤ s.ticks) ∧
    (let s := ((((late.wr 0x1200 2 1).wr 0x6000 0x16 1).wr 0x6001 0x16 1).wr 0x6000 0x17 2 |>.setFn ⟨9, 0⟩ 2).modPort 0 fun r => { r with link := true };
      s.supply.onBackup = false ∧ s.rd 0x1200 2 = 1 ∧ Time.slave s = true) ∧ (late.wr 0x1200 2 0).rd 0x1200 2 ≠ 1 ∧
    (let s := late.wr 0x1200 3 2; s.rd 0x1200 3 = 2 ∧ s.syncAt + 3000000 ≤ s.ticks) := by decide +kernel

/-! ### Field buses -/

def canItem : CanItem := { frame := { ident := 0x123, data := [1] }, chain := { tc := 3, port := 10, coins := 1 } }
/-- CAN controller 0 Active with `f`. -/
def canA (f : Can → Can) : State := (late.setFn ⟨6, 0⟩ 2).modCan 0 f
/-- Slot 0 is on the bus. -/
def attempting (clashRun : Nat) : State :=
  (canA fun r => { r with attempt := some 0, slots := [(0, some { item := canItem, order := 0, clashRun := clashRun })] }).wr 0x6400 8 16

/-- CanControllersSendAndConfineErrors. -/
theorem witness_can :
    late.active ⟨6, 0⟩ = false ∧ (canA id).active ⟨6, 0⟩ = true ∧ ((canA id).can 0).txq = [] ∧
    (let s := canA fun r => { r with txq := [canItem] };
      Bus.slot s 0 0 = none ∧ Bus.suspendedIds s 0 = [] ∧ Bus.nextItem s 0 = some canItem) ∧
    Bus.onBus (canA id) 0 = true ∧ ((canA id).can 0).attempt = none ∧ (canA id).rd 0x6400 4 = 0 ∧ Bus.onBus late 0 = false ∧
    ((attempting 3).can 0).attempt = some 0 ∧ Bus.slot (attempting 3) 0 0 = some { item := canItem, order := 0, clashRun := 3 } ∧
    Vault.expired (attempting 3) canItem.chain = false ∧ (attempting 3).rdBit 0x6400 8 4 = true ∧ (Bus.suspendedIds (attempting 3) 0).length < 4 ∧
    Bus.errorState ((canA fun r => { r with tec := 128 }).can 0) = 1 ∧ Bus.listening late 0 { ident := 1 } = false ∧
    Bus.listening (canA id) 0 { ident := 1 } = true ∧ Iso.channelOf (canA id) 0 { ident := 1 } = none ∧
    ((canA fun r => { r with rec_ := 128 }).can 0).rec_ = 128 ∧ Bus.filter (canA id) 0 { ident := 1 } = none ∧
    ((canA fun r => { r with recovering := true }).can 0).recovering = true ∧ (late.can 0).transceiver = false := by decide +kernel

/-- LIN channel 0 is an Active commander with table 1: slot 0 sends entry 0, of identifier 5. -/
def linA (entry : Nat) : State :=
  ((((late.setFn ⟨7, 0⟩ 2).wr 0x6500 4 0).wr 0x6500 0x10 entry).wr 0x6500 0x90 (64 + 10 * 128)).modLin 0 fun r => { r with table := 1 }

/-- LinT1sAndGatewayEvents. -/
theorem witness_lin :
    LinBus.commander late 0 = false ∧ LinBus.commander (linA (5 + 64)) 0 = true ∧ ((linA (5 + 64)).lin 0).select = none ∧
    ((linA (5 + 64)).lin 0).polls = [] ∧ LinBus.nextSlot (linA (5 + 64)) 0 1 0 = some 0 ∧
    bitOf (LinBus.frame (linA (5 + 64)) 0 0) 6 = true ∧ bitOf (LinBus.frame (linA 5) 0 0) 6 = false ∧ (late.lin 0).awaiting = none ∧
    (((linA (5 + 64)).modLin 0 fun r => { r with awaiting := some 0 }).lin 0).awaiting = some 0 ∧
    bitOf (LinBus.frame (linA (5 + 64)) 0 0) 7 = false ∧ bitOf (LinBus.frame (linA (5 + 64 + 128)) 0 0) 7 = true ∧
    (linA 5).rdBit 0x6500 8 0 = false ∧
    (let s := (linA (5 + 64)).wr 0x6500 4 1; s.active ⟨7, 0⟩ = true ∧ s.rd 0x6500 4 = 1 ∧ s.rd 0x6500 4 ≠ 0 ∧ (s.lin 0).asleep = false ∧ LinBus.find s 0 5 = some 0) ∧
    late.active ⟨7, 0⟩ = false ∧ late.active ⟨8, 0⟩ = false ∧ (linA 5).active ⟨7, 0⟩ = true ∧ (linA 5).rd 0x6500 4 = 0 := by decide +kernel
theorem witness_t1s :
    (let s := (late.setFn ⟨8, 0⟩ 2).wr 0x6600 4 (1 + 65536);
      s.active ⟨8, 0⟩ = true ∧ Plca.follower s 0 = true ∧ (s.t1s 0).beaconLost = false) ∧ Plca.follower late 0 = false ∧
    (let s := late.modT1s 0 fun r => { r with windowAt := some 9500000, inWindow := 100 };
      (s.t1s 0).windowAt = some 9500000 ∧ s.ticks < 9500000 + 1000000 ∧ (s.t1s 0).inWindow = 100) ∧
    ((late.modT1s 0 fun r => { r with windowAt := some 9000000 }).t1s 0).windowAt = some 9000000 ∧ (9000000 : Nat) + 1000000 ≤ late.ticks ∧
    (late.t1s 0).phyFault = false ∧ late.gateway = [] := by decide +kernel

/-- A record of a kind and index in a frame to the address 5, behind P10; stream 0 sends those there. CAN controller 0 is up, and frame
entry 0 of LIN channel 0 publishes identifier 5. -/
def recorded (version kindIndex fmt : Nat) : EthFrame :=
  { seen 0 ether with dst := 5, etype := 0x88B5, data := [BitVec.ofNat 8 version, BitVec.ofNat 8 kindIndex, BitVec.ofNat 8 fmt, 0, 5] ++ List.replicate 11 0 ++ [1] ++ List.replicate 8 0 }
def gated (f : EthFrame) : State :=
  { (((((linA (5 + 64)).setFn ⟨6, 0⟩ 2).wr 0x6140 1 5).wr 0x6140 2 (1 + 2 ^ 16)).wr 0x6200 1 100).wr 0x6400 9 64 with gateway := [(0, 0, f)] }

/-- LinT1sAndGatewayEvents, a record: one for a controller, one it refuses, one of a LIN channel, and those that are none. -/
theorem witness_gateway :
    (let f := recorded 1 0x10 0; let v := Vault.leave 0 10 { gated f with gateway := [] };
      (gated f).gateway = [(0, 0, f)] ∧ Bus.forGateway v f = true ∧ f.data.getD 0 0 = 1 ∧ (f.data.getD 1 0).toNat / 16 = 1 ∧
      (v.can 0).asleep = false ∧ (v.can 0).txq.length < v.rd 0x6400 9 ∧ v.rd (0x6400 + 0) 9 ≠ 0 ∧
      Vault.sourceFor v 0 10 (Vault.coinsOf (recordFrame f.data).data.length) ≠ none ∧
      ((v.wr 0x6400 9 0).rd 0x6400 9 ≤ ((v.wr 0x6400 9 0).can 0).txq.length)) ∧
    ¬(((recorded 1 0x10 3).data.getD 2 0).toNat % 4 ≠ 3) ∧
    (let f := recorded 1 0x20 0; let v := Vault.leave 0 10 { gated f with gateway := [] };
      Bus.forGateway v f = true ∧ (f.data.getD 1 0).toNat / 16 = 2 ∧ (v.lin 0).asleep = false ∧ Bus.num f.data 4 4 = 5 ∧
      (∀ e : Fin 64, (bitOf (LinBus.frame v 0 e) 6 = true ∧ bitOf (LinBus.frame v 0 e) 7 = false ∧ LinBus.ident v 0 e = Bus.num f.data 4 4) ↔ e = 0) ∧
      (∀ e : Fin 64, bitOf (LinBus.frame late 0 e) 6 = true → bitOf (LinBus.frame late 0 e) 7 = false → LinBus.ident late 0 e ≠ 5)) ∧
    (recorded 2 0x10 0).data.getD 0 0 ≠ 1 ∧ ((recorded 1 0x30 0).data.getD 1 0).toNat / 16 = 3 ∧ ((recorded 1 0x28 0).data.getD 1 0).toNat = 0x28 ∧
    Bus.forGateway late (seen 0 ether) = false := by decide +kernel
theorem witness_gateway_record :
    GoodRecord (Vault.leave 0 10 { gated (recorded 1 0x10 0) with gateway := [] }) 0 (recorded 1 0x10 0).data :=
  ⟨by decide +kernel, by decide +kernel, by decide +kernel, by decide +kernel, by decide +kernel⟩

/-! ### The tally and the wakes -/

/-- Node 0x12, a member of the parent ring 7 and steward of ring `own`; TallyKey is 5. -/
def ringed (own : Nat) (t : Tally) : State := { (((late.wr 0x6800 9 5).wr 0x6800 2 7).wr 0x6800 3 own).wr 0x1180 1 0x12 with tally := t }

/-- A message with its right tag in a state. -/
def signed_ (s : State) (type : Nat) (m : TallyMsg) : TallyMsg := { m with tag := Sleep.tag s type m }

theorem heard {s : State} {type : Nat} {m : TallyMsg} (h : 2 ≤ s.power ∧ s.rd 0x6800 9 ≠ 0 ∧ Sleep.forUs s m = true ∧ s.rd 0x6800 8 < 8) :
    Heard s type (signed_ s type m) :=
  ⟨h.1, decide_eq_true ⟨h.2.1, rfl⟩, h.2.2.1, h.2.2.2⟩

/-- A CALL, and what answers one. -/
def callMsg : TallyMsg := { ring := 7, dest := 0x12, source := 2, round := 1, mask := 1, depth := 0, tag := 0 }
def ownMsg : TallyMsg := { ring := 9, dest := 0x12, source := 2, round := 4, mask := 1, depth := 1, tag := 0 }
/-- The own round 4 waits for the members `l`. -/
def asking (l : List Nat) : State := ringed 9 { depth := 1, ownRound := 4, run := some { mask := 1, depth := 1, began := 0, left := l } }
/-- Bound to round 1 of the parent ring. -/
def bound (e : Option Nat) : State :=
  ringed 0 { parentRound := 1, bound := some { own := false, round := 1, mask := 1, depth := 0, at_ := 0, node := 2, sealEnd := e } }

/-- TallyMessagesAreAnswered. -/
theorem witness_tally_heard :
    Heard (ringed 0 {}) 1 (signed_ (ringed 0 {}) 1 callMsg) ∧ Heard (asking [2, 3]) 2 (signed_ (asking [2, 3]) 2 ownMsg) ∧
    Heard (asking [2]) 2 (signed_ (asking [2]) 2 ownMsg) ∧ Heard (asking [2]) 3 (signed_ (asking [2]) 3 ownMsg) ∧
    Heard (bound none) 4 (signed_ (bound none) 4 callMsg) ∧ Heard (bound none) 5 (signed_ (bound none) 5 callMsg) ∧
    Heard (ringed 0 { sleeping := 1 }) 6 (signed_ (ringed 0 { sleeping := 1 }) 6 callMsg) :=
  by and_intros <;> exact heard (by decide +kernel)
theorem witness_tally :
    Sleep.tagOk late 1 callMsg = false ∧ callMsg.ring = Sleep.ring (ringed 0 {}) false ∧ Sleep.ahead (ringed 0 {}) false 1 = 1 ∧
    callMsg.dest = Sleep.node (ringed 0 {}) ∧ Sleep.refusal (ringed 0 {}) 1 2 = some 2 ∧ Sleep.refusal (ringed 0 {}) 1 0 = none ∧
    Sleep.members (ringed 0 {}) = [] ∧ Sleep.answers (asking [2, 3]) ownMsg = true ∧ Sleep.answers (asking [2]) ownMsg = true ∧
    Sleep.answers (asking [3]) ownMsg = false ∧ (Sleep.memberOf (bound none) callMsg).isSome = true ∧ Sleep.memberOf (ringed 0 {}) callMsg = none ∧
    (Sleep.memberOf (bound (some 1)) callMsg).map (·.sealEnd.isSome) = some true ∧ Sleep.sealed (bound none) = false ∧
    Sleep.members (bound none) = [] ∧ Sleep.ring (bound none) true ≠ Sleep.ring (bound none) false ∧
    Sleep.ahead (ringed 0 { sleeping := 1 }) false 1 < 32768 ∧ bitOf callMsg.mask 0 = true ∧
    32768 ≤ Sleep.ahead (ringed 0 { parentRound := 2 }) false 1 := by decide +kernel

theorem told {s : State} (h : s.vault = []) (hx : s.ctxs = []) (hc : s.cans = []) : Told s where
  ids := by rw [h]; exact .nil
  items := by rw [h]; exact fun x hm => by cases hm
  rx := fun c r hr => by unfold State.ctx at hr; rw [hx] at hr; cases hr
  tx := fun k => by
    unfold State.can
    rw [hc]
    exact ⟨fun x hx => (by cases hx), fun x hx => (by cases hx), fun y hy => by cases hy⟩

/-- RoundsEndAndEntriesComplete. -/
theorem witness_rounds :
    (asking [2]).rd 0x6800 5 * 1000 ≤ (asking [2]).ticks ∧ Sleep.ring (asking [2]) true ≠ 0 ∧
    (let s := ringed 0 { depth := 1, retryAt := some 10000000 };
      s.tally.retryAt = some s.ticks ∧ s.tally.run = none ∧ s.tally.bound = none ∧ s.tally.entering = none ∧
        Sleep.refusal s 0xFF 1 = none ∧ Sleep.members s = [] ∧ Sleep.refusal (s.wr 0x6800 0x0B 1) 0xFF 1 = some 1) ∧
    Sleep.sealed (bound (some 10000000000)) = true ∧ Sleep.inMask ((bound none).wr 0x6802 1 0) 1 0 = true ∧
    (bound none).rd 0x6800 5 * 1000 ≤ (bound none).ticks ∧
    (let s := (ringed 0 { tc10 := [(0, 9990000)] }).modPort 0 fun r => { r with link := true };
      (0, 9990000) ∈ s.tally.tc10 ∧ (s.port 0).link = true) ∧ late.tally.entering = none ∧
    ([0, 1, 2].all fun d => decide ((ringed 0 { entering := some d }).tally.latched = none)) = true := by decide +kernel
theorem told_rounds : Told (bound (some 10000000000)) ∧
    Told ((ringed 0 { tc10 := [(0, 9990000)] }).modPort 0 fun r => { r with link := true }) :=
  ⟨told rfl rfl rfl, told rfl rfl rfl⟩

/-- In Standby and in Sleep. -/
def standby : State := { late with power := 2 }
def sleep : State := { late with power := 1 }
def polled (n : Nat) : State := (sleep.wr 0x4E81 1 1).modInput 0 fun r => { r with wakePolls := n }
/-- WakeSourcesWakeTheModule: the sources enabled, in each power state. -/
theorem witness_wakes :
    (standby.power = 2 ∧ Unbound standby ∧ standby.rd 0x6800 8 < 8) ∧ (sleep.power = 1 ∧ Unbound sleep ∧ sleep.tally.latched = none) ∧
    (late.power = 3 ∧ Unbound late) :=
  ⟨⟨by decide, ⟨by decide, by decide⟩, by decide +kernel⟩, ⟨by decide, ⟨by decide, by decide⟩, by decide⟩, by decide, ⟨by decide, by decide⟩⟩
/-- Handle input 0 enabled, its threshold 20, one reading above its baseline. -/
def handled (run : Nat) : State := { sleep.wr 0x6804 0x11 (1 + 20 * 2) with caps := [(0, { base := some 100000, run := run })] }
theorem witness_handles :
    bitOf ((handled 0).rd 0x6804 0x11) 0 = true ∧ bitOf (late.rd 0x6804 0x11) 0 = false ∧ Access.touchCounts 0 late = false ∧
    100000 + field ((handled 0).rd 0x6804 0x11) 1 7 * 1000 ≤ 120 * 1000 ∧ ¬(100000 + field ((handled 0).rd 0x6804 0x11) 1 7 * 1000 ≤ 119 * 1000) ∧
    (Map.get {} (handled 0).caps 0).base = some 100000 ∧ (Map.get {} (handled 0).caps 0).run = field ((handled 0).rd 0x6804 0x11) 8 2 ∧
    (Map.get {} (handled 1).caps 0).run ≠ field ((handled 1).rd 0x6804 0x11) 8 2 := by decide +kernel
theorem witness_wake_sources :
    bitOf (Inputs.wakeCfg (polled 0) 0) 0 = true ∧ field (Inputs.wakeCfg (polled 0) 0) 1 2 = 0 ∧ Inputs.compareAt (polled 0) 0 (polled 0).supply.ka 13500 ≠ ((polled 0).input 0).wakeRef ∧
    ¬(Inputs.compareAt (polled 0) 0 (polled 0).supply.ka 0 ≠ ((polled 0).input 0).wakeRef) ∧
    ((polled 0).input 0).wakePolls = field (Inputs.wakeCfg (polled 0) 0) 3 2 ∧ ((polled 1).input 0).wakePolls ≠ field (Inputs.wakeCfg (polled 1) 0) 3 2 ∧
    bitOf (Inputs.wakeCfg late 0) 0 = false ∧ (sleep.wr 0x6804 0x11 1).rdBit 0x6804 0x11 0 = true ∧ late.rdBit 0x6804 0x11 0 = false ∧
    (sleep.wr 0x6803 1 2).rd 0x6803 1 = 2 ∧ late.rd 0x6803 1 ≠ 2 ∧
    (let s := ((sleep.wr 0x6803 1 2).wr 0x6803 0x15 (2 ^ 29 - 1)).wr 0x6803 0x11 5;
      Sleep.frameMatches s 0 { ident := 5 } = true ∧ Sleep.frameMatches s 0 { ident := 6 } = false) ∧
    (sleep.wr 0x6803 0x21 31).rd 0x6803 0x21 = 31 ∧ sleep.rd 0x6803 0x21 ≠ 31 ∧ (sleep.wr 0x6804 1 1).rd 0x6804 1 = 1 ∧
    (sleep.wr 0x6804 9 1).rd 0x6804 9 = 1 ∧ (sleep.wr 0x6804 0x10 1).rdBit 0x6804 0x10 0 = true ∧ (late.wr 0x6804 0x10 0).rdBit 0x6804 0x10 0 = false ∧
    (sleep.wr 0x6804 0x19 10000000000).rd 0x6804 0x19 ≤ sleep.now ∧ late.rd 0x6804 0x19 = 0 ∧
    { late with tally := { wakeOut := some 10000000 } }.tally.wakeOut = some late.ticks ∧ late.tally.wakeOut = none := by decide +kernel

/-! ### The access engine -/

/-- The access engine Active, anchor 0 at address 1, zone 0, a key of TokenId 77 in slot 0; a request at a step. -/
def access_ (r : AccessRun) : State :=
  { ((((late.setFn ⟨10, 0⟩ 2).wr 0x7020 1 1).wr 0x7040 1 1).wr 0x7010 1 77).wr 0x7010 2 1 with access := { run := some r, keys := [(0, 5)] } }
def keyReply : KeyReply := { slot := 0, token := 0, nt := 9 }
def exchange : Exchange := { key := keyReply, nm := 3, at_ := 9990000 }
def atStep (x : AccessStep) : AccessRun := { zone := 0, command := true, step := x }
/-- A frame of anchor 1. -/
def replyFrame (flags : Nat) (l : List Byte) : AnchorFrame := { address := 1, type := 3, flags := flags, payload := l }

/-- AccessRequestsRunToTheirOutcome. -/
theorem witness_access :
    Access.antennaOf (access_ (atStep (.burst 9979520))) 0 = 0 ∧ (9979520 : Nat) + 20480 ≤ late.ticks ∧
    (0 : Nat) * 2 < (access_ (atStep (.burst 9979520))).rd 0x7000 9 ∧ (access_ (atStep (.burst 9979520))).rd 0x7000 9 ≤ 500 * 2 ∧
    (9991000 : Nat) + 9000 ≤ late.ticks ∧ Access.singles (atStep (.replies 9991000)) = [] ∧
    Access.singles { atStep (.replies 9991000) with replies := [keyReply] } = [keyReply] ∧ exchange.at_ + 10000 ≤ late.ticks ∧ late.ticks < { exchange with at_ := 9990001 }.at_ + 10000 ∧
    Access.up late = false ∧ Access.up (access_ (atStep .loan)) = true ∧ Access.segment (access_ (atStep .loan)) < 6 ∧
    Access.wellFormed (replyFrame 0 []) = true ∧ Access.anchorAt (access_ (atStep .loan)) 1 = some 0 ∧ Access.anchorOf (access_ (atStep .loan)) 0 = 0 ∧
    Access.slotAt 9995000 late.ticks = some 4 ∧ bitOf (replyFrame 2 []).flags 1 = true ∧
    (replyFrame 0 (octets 8 77 ++ octets 8 9)).payload.length = 16 ∧
    Access.tokenOf (access_ (atStep .loan)) (leNat ((replyFrame 0 (octets 8 77 ++ octets 8 9)).payload.take 8)) = some 0 := by
  decide +kernel
/-- A proof, right and wrong, and the answer to a memory read, right and wrong. -/
theorem witness_access_proofs (k : Nat) (l : List Byte) :
    leNat (octets 8 (Access.mac k l)) = Access.mac k l ∧ leNat (octets 8 ((Access.mac k l + 1) % 2 ^ 64)) ≠ Access.mac k l ∧
    (octets 8 (Access.mac k l)).length = 8 ∧
    ∀ d : List Byte, d.length = 16 → (d ++ octets 8 (Access.mac k d)).length = 24 ∧
      leNat ((d ++ octets 8 (Access.mac k d)).drop 16) = Access.mac k ((d ++ octets 8 (Access.mac k d)).take 16) := by
  have h (l : List Byte) : Access.mac k l < 2 ^ 64 := Nat.mod_lt _ (by decide)
  have e (l : List Byte) : leNat (octets 8 (Access.mac k l)) = Access.mac k l := by rw [leNat_octets]; exact Nat.mod_eq_of_lt (h l)
  refine ⟨e l, ?_, length_octets .., fun d hd => ⟨by rw [List.length_append, length_octets, hd], ?_⟩⟩
  · have := h l
    rw [leNat_octets]
    omega
  · rw [← hd, List.drop_left, List.take_left]
    exact e d
theorem witness_access_waits :
    (let s := { late with access := { present := [(3, some 9700000)] } }; Map.get none s.access.present 3 = some 9700000 ∧ 9700000 + 300000 ≤ s.ticks) ∧
    { late with access := { lockedTill := some 10000000 } }.access.lockedTill = some late.ticks ∧
    Access.locked { late with access := { lockedTill := some 10000001 } } = true ∧
    (let s := { late with access := { memory := some { token := 0, block := 0, write := false, anchor := 0, ks := 5, at_ := 9990000 } } };
      (s.access.memory.map fun m => decide (m.at_ + 10000 ≤ s.ticks)) = some true ∧ s.access.run = none) ∧
    late.ticks < (9990001 : Nat) + 10000 := by decide +kernel

/-- An enrolment record passes its checks where its digest is that of the module's serial number and its signature is good: both are
functions the model leaves opaque. -/
theorem witness_enrol (v : Nat) (slot : Access.part v 8 1 = 0) (token : Access.part v 0 8 = 7) (n : Access.part v 12 1 = 1)
    (serial : Access.part v 16 16 = Config.sha256 (octets 16 serialNumber) % 2 ^ 128)
    (sig : Config.ecdsaVerify (accessA.rd 0x7000 0x0D) (Config.sha256 (octets 48 v)) (Access.part v 48 64) = true) :
    Access.enrolCheck accessA v = none := by
  have h1 : accessA.rd 0x7000 0x13 = 0 := by decide +kernel
  have h2 : accessA.rd (0x7010 + 0) 2 = 0 := by decide +kernel
  have h3 : Access.tokens accessA < 16 := by decide +kernel
  have h4 : Access.tokenOf accessA 7 = none := by decide +kernel
  simp only [Access.enrolCheck, slot, token, n, serial, sig, h1, h2, h4]
  simp [Nat.not_le.2 h3]

/-! ### Audit, supervisors, update, supplies -/

def sourced (id : Nat) (r : Source) : State := { late with sources := [(id, r)] }
/-- Cell 3 in escrow since a tick. -/
def escrowed : State := (late.wr 0x4003 1 0xF000).modCell 3 fun c => { c with hold := .fnIsolated 0x0200, heldAt := 0, holdFor := 0 }

/-- AuditReactionsApply, an occurrence: below its threshold, at it, with a source of the same target unacknowledged or not, in a window
that stands or has passed, and of a source that is Severe. -/
theorem witness_occurrences :
    (sourceClass 24).isSome = true ∧ Audit.silenced late 24 = false ∧ (late.source 24).severe = false ∧ (late.source 24).lastAt ≠ some late.ticks ∧
    Audit.threshold (late.wrField 0x8018 2 2 8 1) 24 ≤ 1 ∧ 1 < Audit.threshold (late.wrField 0x8018 2 2 8 2) 24 ∧
    (let s := sourced 24 { windowAt := some 10000000, count := 1 }; (s.source 24).windowAt = some 10000000 ∧ s.ticks < 10000000 + Audit.window s 24) ∧
    (sourced 24 { severe := true }).source 24 = { severe := true } ∧ (∀ x ∈ (sourced 24 {}).sources, x.2.severeAt ≠ some late.ticks) ∧
    (let s := sourced 25 { unack := true, applied := late.rdField 0x8018 2 0 2 };
      ∃ x ∈ s.sources, x.1 ≠ 24 ∧ Audit.target x.1 = Audit.target 24 ∧ x.2.unack = true ∧ x.2.applied = s.rdField 0x8018 2 0 2) ∧
    Audit.target 0x1200 ≠ Audit.target 24 := by decide +kernel

/-- AuditReactionsApply. -/
theorem witness_audit :
    (let s := sourced 24 { windowAt := some 0, count := 3 }; (s.source 24).windowAt = some 0 ∧ 0 + Audit.window s 24 ≤ s.ticks) ∧
    (late.source 24).windowAt = none ∧ (late.source 24).graceEnd = none ∧
    (let s := sourced 24 { graceEnd := some 10000000, applied := 2 };
      (s.source 24).graceEnd = some s.ticks ∧ Fns.mustWait s 24 2 = false ∧ Audit.target 24 = .channel 3 ∧ 3 ∈ s.structure_ 3 ∧
        Chan.owner s 3 ≠ 0xF100 ∧ s.head 3 = 3) ∧
    Audit.target 0x1200 = .fn ⟨2, 0⟩ ∧ (late.setFn ⟨2, 0⟩ 2).fn ⟨2, 0⟩ = 2 ∧ Fns.fixedActive ⟨2, 0⟩ = false ∧
    { late with fnReset := some 0x0200 }.fnReset = some 0x0200 ∧
    (let s := bank0 fun r => { r with escrow := .heartbeat, escrowAt := 0, escrowFor := 100 };
      (s.bank 0).escrow ≠ .none ∧ Escrow.earliest (s.bank 0).escrowAt (s.bank 0).escrowFor ≤ s.ticks) ∧ (late.bank 0).escrow = .none ∧
    Chan.owner escrowed 3 = 0xF000 ∧ (escrowed.cell 3).hold = .fnIsolated 0x0200 ∧ (escrowed.cell 3).hold.ofCells = true ∧
    ((cell3 fun c => { c with hold := .none }).cell 3).hold.ofCells = false ∧
    Escrow.earliest (escrowed.cell 3).heldAt (escrowed.cell 3).holdFor ≤ escrowed.ticks ∧ escrowed.head 3 = 3 := by decide +kernel
theorem told_audit : Told (sourced 24 { graceEnd := some 10000000, applied := 2 }) := told rfl rfl rfl

def supervised (v : Supervisor) : State := { late with supervisor := v }
/-- Cell 3 in limp, by input 0: command 1 while it is high, else 0. -/
def limping : State :=
  ((late.wr 0x7601 1 (3 + 2 ^ 14 + 2 ^ 20)).wr 0x4003 1 0xF100).modCell 3 fun c => { c with limpRetry := some 10000000 }

/-- SupervisorsAndLimpInputs. -/
theorem witness_supervisors :
    Sup.stopped late 0 = false ∧ Sup.stopped (supervised { testing := [(1, 0)] }) 1 = true ∧ late.supervisor.runs = true ∧
    (let s := supervised { runs := false, takingOver := true }; s.supervisor.runs = false ∧ s.supervisor.takingOver = true ∧ s.update.activation = none) ∧
    (1, 0) ∈ (supervised { testing := [(1, 0)] }).supervisor.testing ∧ late.supervisor.testing = [] ∧
    (supervised { absentSince := some 8000000 }).supervisor.absentSince = some 8000000 ∧ (8000000 : Nat) + 2000000 ≤ late.ticks ∧
    late.rd 0x7600 2 ≠ 1 ∧ (late.wr 0x7600 2 1).rd 0x7600 2 = 1 ∧ limping.rdBit 0x7600 4 0 ≠ true ∧
    Escrow.limpEntries limping = [(3, 0, 1, 0)] ∧ Chan.owner limping 3 = 0xF100 ∧ (limping.cell 3).limpRetry = some limping.ticks ∧
    Escrow.limpEntry limping 3 = some (3, 0, 1, 0) ∧ (late.cell 3).limpRetry = none := by decide +kernel

def updating (st : Nat) (u : Update) : State := { Upd.setSt st late with update := u }
/-- A StageData write whose burst runs. -/
def staging : StageJob := { reply := .direct, writer := .session 0, writes := [Direct.octetWrite 0x7C00 4 (List.replicate 240 0)], running := true }

/-- UpdatesStageBuildAndActivate: every stage, but an accepted manifest. -/
theorem witness_update :
    (updating 1 { job := some staging }).update.job = some staging ∧ late.update.job = none ∧
    (updating 1 { checking := true }).update.checking = true ∧ Upd.manifestCode (updating 1 { checking := true }) = 2 ∧
    (let s := updating 3 { bursting := true, bankA := { factory := false } };
      s.update.bursting = true ∧ Upd.st s = 3 ∧ ((Upd.plan s).drop (s.rd 0x7C00 0x0B)).take 16 = []) ∧
    (let s := updating 3 { bursting := true, bankA := { factory := false }, staging := [(5, 1), (48, 1), (53, 16)] };
      (((Upd.plan s).drop (s.rd 0x7C00 0x0B)).take 16).find? (·.2.isNone) = some (0, none)) ∧
    (let s := updating 2 { retryAt := some 10000000 }; s.update.retryAt = some s.ticks ∧ Upd.st s = 2) ∧
    (let s := ((updating 5 {}).wr 0x7C00 6 10000000000).wr 0x1200 3 2;
      Upd.st s = 5 ∧ s.update.activation = none ∧ s.rd 0x7C00 6 ≤ s.now ∧ Upd.skipCode s = none ∧
        Upd.skipCode { s with supervisor := { runs := false } } = some 10) ∧ Upd.st late ≠ 5 ∧
    ([2, 3, 4].all fun n => decide ((updating 5 { activation := some { stage := n } }).update.activation = some { stage := n })) = true := by
  decide +kernel
theorem told_update (n : Nat) : Told (updating 5 { activation := some { stage := n } }) := told rfl rfl rfl

/-- Stage 2 with nothing staged, whose inactive bank holds parts `l`. -/
def hashed (l : List Part) : State := updating 5 { activation := some { stage := 2 }, bankB := { factory := false, parts := l } }
/-- Every part of an empty bank has the digest of no octets; a part with another digest is found. -/
theorem witness_update_digests : Upd.badPart (hashed []) = none ∧
    ∃ x, Upd.badPart (hashed [{ type := 1, inst := 0, length := 0, blocks := [], digest := Config.sha256 [] + 1 }]) = some x := by
  have h0 (l : List Part) : Upd.count (hashed l) = 0 := by
    show Upd.num (updating 5 {}) 5 1 = 0
    decide +kernel
  refine ⟨?_, ?_⟩
  · unfold Upd.badPart
    rw [h0]
    simp only [List.range_zero, List.find?_nil, Option.map_eq_none_iff, List.find?_eq_none]
    intro x _
    simp [hashed, updating, Upd.inactive, Upd.partOf, Upd.digestOk, Upd.octetsOf]
  · unfold Upd.badPart
    rw [h0]
    refine Option.isSome_iff_exists.1 ?_
    simp only [List.range_zero, List.find?_nil, Option.isSome_map, List.find?_isSome]
    refine ⟨(1, 0), ?_, ?_⟩
    · simp [Upd.descs, h0]
      decide
    · simp [hashed, updating, Upd.inactive, Upd.partOf, Upd.digestOk, Upd.octetsOf]

/-- Version 2 over version 1, with one part of no octets: the application image, at offset 4,096. -/
def manifest : State :=
  ((updating 1 {
    checking := true, bankA := { factory := false, version := 1 },
    staging := [(0, 0x54), (1, 0x5A), (2, 0x55), (3, 0x4D), (4, 1), (5, 1), (8, 0xFF), (9, 0xB0), (10, 0x12), (11, 5), (28, 1), (32, 2), (48, 1),
      (57, 16)] }).wr 0x7C00 0x0D 7).wr 0x7C00 5 4096
/-- A manifest is accepted where its signature is good, a value the model leaves opaque. -/
theorem witness_update_manifest
    (sig : Config.ecdsaVerify (manifest.rd 0x7C00 0x0D) (Config.sha256 (Upd.span manifest 0 96)) (Upd.num manifest 96 64) = true) :
    Upd.manifestCode manifest = 0 := by
  have h1 : Upd.count manifest = 1 := by decide +kernel
  have h2 : Upd.num manifest 0 4 = 0x4D555A54 ∧ Upd.num manifest 4 1 = 1 ∧ Upd.reservedBad manifest = false ∧ Upd.num manifest 8 4 = 0x0512B0FF ∧
    Upd.num manifest 12 16 = 0 ∧ Upd.num manifest 28 4 = 1 ∧ Upd.num manifest 32 4 = 2 ∧ Upd.version manifest = 1 ∧
    manifest.rd 0x7C00 0x0E = 0 ∧ manifest.rd 0x7C00 0x0D = 7 ∧ Upd.layoutOk manifest = true := by decide +kernel
  obtain ⟨a, b, c, d, e, f, g, h, i, j, k⟩ := h2
  rw [j] at sig
  simp [Upd.manifestCode, h1, a, b, c, d, e, f, g, h, i, j, k, sig]

/-- SuppliesClocksAndStarts. -/
theorem witness_supplies :
    max 5999 0 < (6000 : Nat) ∧ { late with power := 0 }.power = 0 ∧ { late with power := 1, tally := { latched := some ⟨1, 0, 0, 0⟩ } }.tally.latched.isSome = true ∧
    4500 ≤ max late.supply.vloga late.supply.vlogb ∧
    (let s := { late with supply := { vloga := 4499, vlogb := 0 } }; max s.supply.vloga s.supply.vlogb < 4500 ∧ 2 ≤ s.power) ∧
    late.supply.aLow = false ∧ (5499 : Nat) < 5500 ∧ late.supply.onBackup = false ∧ { late with supply := { onBackup := true } }.supply.onBackup = true ∧
    late.supply.rtcOk = true ∧ { late with supply := { rtcOk := false } }.supply.rtcOk = false ∧
    (let s := { late with supply := { mismatchAt := some 5000000 } };
      s.supply.mismatchAt = some 5000000 ∧ 5000000 + (if s.volt24 then 5000000 else 500000) ≤ s.ticks ∧ s.supply.mismatchTold = false) ∧
    late.supply.mismatchAt = none ∧ (decide (850 < max 851 0) = true ∧ late.teller.derating = false) ∧ late.supply.sensorBad = false ∧
    100 < ((101 : Int) - 0).natAbs := by decide +kernel

/-! ### The module -/

/-- StepRunsTheFirstCommand, EveryStepGoesOnAndTimeNeverDecreases, WordsAndInstructionsAgree. -/
theorem witness_module :
    { late with pending := [.refClockLoss, .refClockReturn] }.pending = [.refClockLoss, .refClockReturn] ∧ late.pending = [] ∧ late.slew = 0 := by
  decide
theorem witness_spelt : Spelt .nop ∧ SeqOp.nop.encode.length = 1 ∧ (SeqDecode.decode (SeqOp.nop.encode.getD 0 0) 0 0) = .ok .nop :=
  ⟨⟨by decide, fun _ _ _ h => by cases h⟩, by decide, by decide +kernel⟩

end Sys2Proof.Tests
end

section
/-! SUPPORT. Instructions that compute a result: what their command leaves of the context, and that the model's results and flags
are the statements' (R298 to R300, Table 11-5). -/

namespace Sys2Proof.Machine

/-- An update of a context's record depends on that record alone. -/
theorem State.modCtx_congr {s : State} {c : Nat} {f h : Ctx → Ctx} (hf : f (s.ctx c) = h (s.ctx c)) :
    s.modCtx c f = s.modCtx c h := by
  have hf' : f (Map.get {} s.ctxs c) = h (Map.get {} s.ctxs c) := hf
  unfold State.modCtx Map.modify
  rw [hf']

/-- A computed result in a context: the register and the flags it sets. -/
def Ctx.withRes (gd : Reg) (r : Res) (x : Ctx) : Ctx := (x.set gd r.val).setRes r

theorem Seq.setRes_true (c : Nat) (gd : Reg) (r : Res) (s : State) :
    Seq.setRes c gd r true s = s.modCtx c (Ctx.withRes gd r) := rfl

@[simp] theorem Seq.past_g (c : Nat) (op : SeqOp) (s : State) : ((Seq.past c op s).ctx c).g = (s.ctx c).g := by
  simp [Seq.past]

@[simp] theorem Seq.past_c (c : Nat) (op : SeqOp) (s : State) : ((Seq.past c op s).ctx c).c = (s.ctx c).c := by
  simp [Seq.past]

end Sys2Proof.Machine

namespace Sys2Proof.Claim

open Machine

/-- An instruction that completes with `f` of its context, pc moved on and counters apart, issues. -/
theorem issuesAt_of_exec1 {s t : State} {c : Fin 128} {i : Instr} {op : SeqOp} {f : Ctx → Ctx} (h : CanIssue s c)
    (harm : exec i s = issued (Seq.issue c op) s) (hr : op.reserved = none)
    (hx : Seq.exec1 c op (Seq.past c op s) = .ok t)
    (ht : CountersOnly (c / 4) (s.modCtx c fun x => { f x with pc := x.pc + BitVec.ofNat 13 op.len }) t) :
    IssuesAt s c i op.len f := by
  have hrest := ht.rest
  obtain ⟨u, hu, hc⟩ := issued_ok h hr hx (by rw [hrest]; rfl) (by rw [hrest]; rfl) (by rw [hrest]; rfl)
  exact ⟨u, harm.trans hu, ht.trans hc⟩

/-- An instruction that computes a result of the registers and C into `gd` issues with it. -/
theorem issues_of_result {c : Fin 128} {i : Instr} {op : SeqOp} {gd : Reg} {f : Ctx → Ctx}
    (res : Vector Word 8 → Bool → Res) (harm : ∀ s, exec i s = issued (Seq.issue c op) s) (hr : op.reserved = none)
    (hx : ∀ s, ∃ u, CountersOnly (c / 4) s u ∧
      Seq.exec1 c op s = .ok (Seq.setRes c gd (res (s.ctx c).g (s.ctx c).c) true u))
    (hf : ∀ x, f x = Ctx.withRes gd (res x.g x.c) x) : Issues c i op.len f := by
  intro s h
  obtain ⟨u, hu, hu'⟩ := hx (Seq.past c op s)
  refine issuesAt_of_exec1 h (harm s) hr hu' ?_
  have key : (s.modCtx c fun x => { f x with pc := x.pc + BitVec.ofNat 13 op.len }) =
      (Seq.past c op s).modCtx c (Ctx.withRes gd (res (s.ctx c).g (s.ctx c).c)) := by
    unfold Seq.past
    rw [State.modCtx_modCtx]
    exact State.modCtx_congr (by rw [hf]; rfl)
  rw [Seq.past_g, Seq.past_c, key, Seq.setRes_true]
  exact hu.modCtx c _

/-! ### Results -/

theorem withRes_zn (gd : Fin 8) (w : Word) (x : Ctx) : Ctx.withRes gd (Flags.zn w) x = result gd w x := by
  simp [Ctx.withRes, Flags.zn, Ctx.setRes, Ctx.set, result, zn, put, BitVec.msb_eq_getLsbD_last, beq_eq_decide]

theorem withRes_logic (gd : Fin 8) (w : Word) (x : Ctx) : Ctx.withRes gd (Flags.logic w) x = logic gd w x := by
  have h : Ctx.withRes gd (Flags.logic w) x = { Ctx.withRes gd (Flags.zn w) x with v := false } := rfl
  rw [h, withRes_zn]; rfl

theorem withRes_divide (gd : Fin 8) (w : Word) (v : Bool) (x : Ctx) :
    Ctx.withRes gd (Flags.divide w v) x = quotient gd w v x := by
  have h : Ctx.withRes gd (Flags.divide w v) x = { Ctx.withRes gd (Flags.zn w) x with c := false, v := v } := rfl
  rw [h, withRes_zn]; rfl

theorem withRes_zOnly (gd : Fin 8) (w : Word) (x : Ctx) : Ctx.withRes gd (Flags.zOnly w.toNat) x = zResult gd w x := by
  simp [Ctx.withRes, Flags.zOnly, Ctx.setRes, Ctx.set, zResult, put, beq_eq_decide]

/-- R299: a result with the carry of a shift, unchanged by a count of 0. -/
theorem withRes_shiftC (gd : Fin 8) (r : Res) (hr : r.c = none) (k : Nat) (b : Bool) (x : Ctx) :
    Ctx.withRes gd { r with c := Flags.shiftC k b } x = shiftCarry k b (Ctx.withRes gd r x) := by
  unfold Flags.shiftC shiftCarry
  split <;> simp [Ctx.withRes, Ctx.setRes, Ctx.set, hr]

theorem shl_eq_withRes (gd : Fin 8) (a : Word) (k : Nat) (x : Ctx) :
    shl gd a k x = Ctx.withRes gd (Flags.shift .shl a k) x := by
  rw [Flags.shift, withRes_shiftC gd _ rfl, withRes_logic]; rfl

theorem shr_eq_withRes (gd : Fin 8) (a : Word) (k : Nat) (x : Ctx) :
    shr gd a k x = Ctx.withRes gd (Flags.shift .shr a k) x := by
  rw [Flags.shift, withRes_shiftC gd _ rfl, withRes_logic]; rfl

theorem sar_eq_withRes (gd : Fin 8) (a : Word) (k : Nat) (x : Ctx) :
    sar gd a k x = Ctx.withRes gd (Flags.shift .sar a k) x := by
  rw [Flags.shift, withRes_shiftC gd _ rfl, withRes_logic]; rfl

/-- Bit `i` of a word rotated left is the bit `k` places below it, around. -/
theorem ofFnLE_rotateLeft (a : Word) (k : Nat) (hk : k < 32) :
    (BitVec.ofFnLE fun i : Fin 32 => a.getLsbD ((i + 32 - k) % 32)) = a.rotateLeft k := by
  ext i hi
  rw [BitVec.getElem_rotateLeft, BitVec.getElem_ofFnLE]
  split <;> (rw [← BitVec.getLsbD_eq_getElem]; congr 1; simp only; omega)

/-- Bit `i` of a word rotated right is the bit `k` places above it, around. -/
theorem ofFnLE_rotateRight (a : Word) (k : Nat) :
    (BitVec.ofFnLE fun i : Fin 32 => a.getLsbD ((i + k) % 32)) = a.rotateRight k := by
  ext i hi
  rw [BitVec.getElem_rotateRight, BitVec.getElem_ofFnLE]
  split <;> (rw [← BitVec.getLsbD_eq_getElem]; congr 1; simp only; omega)

/-- A shift by a register's count. -/
theorem issues_shift {c : Fin 128} {i : Instr} {f : ShiftF} {gd gs : Fin 8} {h : Ctx → Ctx}
    (harm : ∀ s, exec i s = issued (Seq.issue c (.shift f gd gs)) s)
    (hf : ∀ x, h x = Ctx.withRes gd (Flags.shift f (x.g.get gd) (low5 (x.g.get gs))) x) : Issues c i 1 h :=
  issues_of_result (op := .shift f gd gs) (fun g _ => Flags.shift f (g.get gd) (low5 (g.get gs))) harm rfl
    (fun s => ⟨s, .refl _ s, rfl⟩) hf

/-- A shift by an immediate count. -/
theorem issues_shifti {c : Fin 128} {i : Instr} {f : ShiftF} {gd : Fin 8} {n : Fin 32} {h : Ctx → Ctx}
    (harm : ∀ s, exec i s = issued (Seq.issue c (.shifti f gd n)) s)
    (hf : ∀ x, h x = Ctx.withRes gd (Flags.shift f (x.g.get gd) n) x) : Issues c i 2 h :=
  issues_of_result (op := .shifti f gd n) (fun g _ => Flags.shift f (g.get gd) n) harm rfl
    (fun s => ⟨s, .refl _ s, rfl⟩) hf

/-- A register function whose value is kept. -/
theorem issues_reg {c : Fin 128} {i : Instr} {f : RegF} {gd gs : Fin 8} {h : Ctx → Ctx}
    (harm : ∀ s, exec i s = issued (Seq.issue c (.reg f gd gs)) s) (hk : Flags.discards f = false)
    (hf : ∀ x, h x = Ctx.withRes gd (Flags.reg f (x.g.get gd) (x.g.get gs) x.c) x) : Issues c i 1 h := by
  refine issues_of_result (op := .reg f gd gs) (fun g ci => Flags.reg f (g.get gd) (g.get gs) ci) harm rfl (fun s => ?_) hf
  simp only [Seq.exec1, hk, Bool.not_false]
  split
  case h_8 => exact ⟨s, .refl .., rfl⟩
  all_goals exact ⟨_, .event .., rfl⟩

/-! ### Shifts, rotates and division -/

/-- Settles O3: each form issues with the model's result, whose value, flags and carry are the stated ones; a rotation is compared
bit by bit. -/
theorem shiftsAndRotatesSetCarry : Obligations.ShiftsAndRotatesSetCarry := by
  intro c gd gs n
  refine ⟨issues_shift (fun _ => rfl) fun x => shl_eq_withRes .., issues_shift (fun _ => rfl) fun x => shr_eq_withRes ..,
    issues_shift (fun _ => rfl) fun x => sar_eq_withRes .., issues_shifti (fun _ => rfl) fun x => shl_eq_withRes ..,
    issues_shifti (fun _ => rfl) fun x => shr_eq_withRes .., issues_shifti (fun _ => rfl) fun x => sar_eq_withRes ..,
    issues_reg (f := .rol) (fun _ => rfl) rfl fun x => ?_, issues_reg (f := .ror) (fun _ => rfl) rfl fun x => ?_⟩
  · have hk : low5 (x.g.get gs) < 32 := Nat.mod_lt _ (by decide)
    simp only [Flags.reg]
    rw [withRes_shiftC gd _ rfl, withRes_zn, ofFnLE_rotateLeft _ _ hk]
    rfl
  · simp only [Flags.reg]
    rw [withRes_shiftC gd _ rfl, withRes_zn, ofFnLE_rotateRight, BitVec.msb_eq_getLsbD_last]
    rfl

/-- Settles O4: in each case of the divisor and dividend the model's result is the stated quotient or remainder. -/
theorem divisionNeverTraps : Obligations.DivisionNeverTraps := by
  intro c gd gs
  refine ⟨issues_reg (f := .div) (fun _ => rfl) rfl fun x => ?_, issues_reg (f := .divu) (fun _ => rfl) rfl fun x => ?_,
    issues_reg (f := .rem) (fun _ => rfl) rfl fun x => ?_, issues_reg (f := .remu) (fun _ => rfl) rfl fun x => ?_⟩
  · simp only [Flags.reg, Flags.div]
    split_ifs <;> exact (withRes_divide ..).symm
  · simp only [Flags.reg, Flags.divu]
    split_ifs <;> exact (withRes_divide ..).symm
  · simp only [Flags.reg, Flags.rem, Int.tmod_def]
    split_ifs <;> exact (withRes_divide ..).symm
  · simp only [Flags.reg, Flags.remu, Nat.mod_eq_sub]
    split_ifs <;> exact (withRes_divide ..).symm

end Sys2Proof.Claim
end

section
/-! SUPPORT. The check steps of R302 on numbers, as the model computes them, are the statements' steps on bit vectors. -/

namespace Sys2Proof.Machine.Flags

open Claim

/-- One bit of a cyclic check, most significant bit first: a shift, and the polynomial where the bit shifted out is 1. -/
def msbStep {w : Nat} (p c : BitVec w) : BitVec w := if c.getLsbD (w - 1) then (c <<< 1) ^^^ p else c <<< 1

/-- One bit of a cyclic check in reflected form. -/
def lsbStep {w : Nat} (p c : BitVec w) : BitVec w := if c.getLsbD 0 then (c >>> 1) ^^^ p else c >>> 1

/-- A shift that loses no bit doubles. -/
theorem toNat_shiftLeft_one_of_lt {w : Nat} {c : BitVec w} (h : c.toNat < 2 ^ (w - 1)) : (c <<< 1).toNat = c.toNat * 2 := by
  have hlt : c.toNat * 2 < 2 ^ w := by
    cases w with
    | zero => have := c.isLt; omega
    | succ w => rw [Nat.add_sub_cancel] at h; rw [Nat.pow_succ]; omega
  rw [BitVec.toNat_shiftLeft, Nat.shiftLeft_eq, Nat.pow_one, Nat.mod_eq_of_lt hlt]

theorem toNat_msbStep {w : Nat} (p c : BitVec w) :
    (msbStep p c).toNat = if 2 ^ (w - 1) ≤ c.toNat then Nat.xor (c.toNat * 2 % 2 ^ w) p.toNat else c.toNat * 2 := by
  have hbit : c.getLsbD (w - 1) = decide (2 ^ (w - 1) ≤ c.toNat) := by
    rw [← BitVec.msb_eq_getLsbD_last, BitVec.msb_eq_decide]
  unfold msbStep
  rw [hbit]
  by_cases h : 2 ^ (w - 1) ≤ c.toNat
  · simp only [h, decide_true, if_true, BitVec.toNat_xor, BitVec.toNat_shiftLeft, Nat.shiftLeft_eq, Nat.pow_one]
    rfl
  · simp only [h, decide_false, Bool.false_eq_true, if_false]
    exact toNat_shiftLeft_one_of_lt (Nat.lt_of_not_le h)

theorem toNat_lsbStep {w : Nat} (p c : BitVec w) :
    (lsbStep p c).toNat = if c.toNat % 2 = 1 then Nat.xor (c.toNat / 2) p.toNat else c.toNat / 2 := by
  have hbit : c.getLsbD 0 = decide (c.toNat % 2 = 1) := by simp [BitVec.getLsbD, Nat.testBit_zero]
  have hshift : (c >>> 1).toNat = c.toNat / 2 := by simp [Nat.shiftRight_eq_div_pow]
  unfold lsbStep
  rw [hbit]
  by_cases h : c.toNat % 2 = 1
  · simp only [h, decide_true, if_true, BitVec.toNat_xor, hshift]; rfl
  · simp only [h, decide_false, Bool.false_eq_true, if_false, hshift]

/-- The first of the repeated steps, taken out. -/
theorem repeat_succ_apply {α : Type} (f : α → α) (n : Nat) (a : α) : Nat.repeat f (n + 1) a = Nat.repeat f n (f a) := by
  induction n with
  | zero => rfl
  | succ n ih => exact congrArg f ih

theorem crcMsb_toNat {w : Nat} (p c : BitVec w) (n : Nat) :
    crcMsb w p.toNat n c.toNat = (Nat.repeat (msbStep p) n c).toNat := by
  induction n generalizing c with
  | zero => rfl
  | succ n ih => rw [crcMsb, ← toNat_msbStep, ih, repeat_succ_apply]

theorem crcLsb_toNat {w : Nat} (p c : BitVec w) (n : Nat) :
    crcLsb p.toNat n c.toNat = (Nat.repeat (lsbStep p) n c).toNat := by
  induction n generalizing c with
  | zero => rfl
  | succ n ih => rw [crcLsb, ← toNat_lsbStep, ih, repeat_succ_apply]

/-! ### The step on a byte (R302) -/

theorem crc8_toNat (g : Word) (b : BitVec 8) : crc8 g.toNat b.toNat = (crc8Step g b).toNat := by
  have h : (crc8Step g b).toNat = (Nat.repeat (msbStep 0x1D#8) 8 (g.truncate 8 ^^^ b)).toNat :=
    BitVec.toNat_setWidth_of_le (by decide)
  rw [h, ← crcMsb_toNat, BitVec.toNat_xor, BitVec.toNat_setWidth]
  rfl

theorem crc16_toNat (g : Word) (b : BitVec 8) : crc16 g.toNat b.toNat = (crc16Step g b).toNat := by
  have h : (crc16Step g b).toNat = (Nat.repeat (msbStep 0x1021#16) 8 (g.truncate 16 ^^^ (b.zeroExtend 16 <<< 8))).toNat :=
    BitVec.toNat_setWidth_of_le (by decide)
  have hb : (b.zeroExtend 16 <<< 8).toNat = b.toNat * 256 := by
    have := b.isLt
    simp only [BitVec.toNat_shiftLeft, BitVec.toNat_setWidth, Nat.shiftLeft_eq]
    omega
  rw [h, ← crcMsb_toNat, BitVec.toNat_xor, BitVec.toNat_setWidth, hb]
  rfl

theorem crc32_toNat (g : Word) (b : BitVec 8) : crc32 g.toNat b.toNat = (crc32Step g b).toNat := by
  have h : crc32Step g b = Nat.repeat (lsbStep 0xEDB88320#32) 8 (g ^^^ b.zeroExtend 32) := rfl
  rw [h, ← crcLsb_toNat, BitVec.toNat_xor, BitVec.toNat_setWidth_of_le (by decide)]
  rfl

theorem octetOf_toNat (w : Word) (k : Nat) : (octetOf w k).toNat = w.toNat / 256 ^ k % 256 := by
  have h : (256 : Nat) ^ k = 2 ^ (8 * k) := by rw [Nat.pow_mul]
  simp only [octetOf, BitVec.toNat_setWidth, BitVec.toNat_ushiftRight, Nat.shiftRight_eq_div_pow, h]

theorem octetOf_toNat_zero (w : Word) : (octetOf w 0).toNat = w.toNat % 256 := by
  rw [octetOf_toNat, Nat.pow_zero, Nat.div_one]

theorem crc32w_toNat (g w : Word) :
    (List.range 4).foldl (fun a k => crc32 a (w.toNat / 256 ^ k % 256)) g.toNat =
      ((List.range 4).foldl (fun a k => crc32Step a (octetOf w k)) g).toNat :=
  List.foldl_hom BitVec.toNat fun a k => by rw [← octetOf_toNat, crc32_toNat]

end Sys2Proof.Machine.Flags
end

section
/-! SUPPORT. Trap entry after the counting of the instruction that traps: the Audit unit counts an occurrence alike before and after
(R314, R315), so that a trapping instruction leaves trap entry's effect and counts. -/

namespace Sys2Proof

open Machine

/-! ### Counting apart from the Ledger's other entries -/

/-- A key written reads alike in two maps, whatever they held there. -/
theorem Machine.Map.get_put_self {α : Type} [DecidableEq α] (e d : α) (m : NatMap α) (k : Nat) (v : α) :
    Map.get e (Map.put d m k v) k = if v = d then e else v := by
  unfold Map.put
  split
  · simp [Map.get_erase]
  · simp [Map.get_insert _ _ _ _ _ (Map.not_mem_erase m k)]

/-- The Ledger outside the performance group of engine `e` is as it was, at every key. -/
structure LedgerApart (e : Nat) (u t : State) : Prop where
  get : ∀ d k, k / 256 ≠ 0x5400 + e → Map.get d t.ledger k = Map.get d u.ledger k

namespace LedgerApart

variable {e : Nat} {s t u : State}

theorem of_eq (h : t.ledger = u.ledger) : LedgerApart e u t := ⟨fun _ _ _ => by rw [h]⟩

theorem trans (h : LedgerApart e s t) (k : LedgerApart e t u) : LedgerApart e s u :=
  ⟨fun d x hx => (k.get d x hx).trans (h.get d x hx)⟩

/-- A counter of the performance group. -/
theorem wr (e j v : Nat) (s : State) (hj : j < 256) : LedgerApart e s (s.wr (0x5400 + e) j v) :=
  ⟨fun d k hk => Map.get_put_ne d _ s.ledger v (by omega)⟩

theorem bump (e i n : Nat) (s : State) (hi : i < 8) : LedgerApart e s (Perf.bump e i n s) := by
  have h := wr e (2 + i) ((s.rd (0x5400 + e) (2 + i) + n) % 2 ^ 32) s (by omega)
  unfold Perf.bump
  dsimp only
  split_ifs
  · exact h
  · exact h.trans (wr e (3 + i) _ _ (by omega))
  · exact h
  · exact h.trans (wr e 0x12 _ _ (by omega))

theorem count (e k ev n : Nat) (s : State) : LedgerApart e s (Perf.count e k ev n s) := by
  unfold Perf.count
  split
  · exact of_eq rfl
  · refine trans (List.foldlRecOn (List.range 8) _ (motive := LedgerApart e s) (of_eq rfl) fun t ht i hi => ?_)
      (of_eq rfl)
    split
    · exact ht.trans (bump e i n t (List.mem_range.mp hi))
    · exact ht

theorem event (c ev n : Nat) (s : State) : LedgerApart (c / 4) s (Perf.event c ev n s) := by
  have h := count (c / 4) (c % 4) ev n s
  unfold Perf.event
  dsimp only
  split
  · exact (h.trans (count ..)).trans (of_eq rfl)
  · exact h.trans (count ..)
  · exact h.trans (count ..)
  · exact h.trans (count ..)
  · exact h

end LedgerApart

/-- `CountersOnly` with the whole Ledger apart from the counters. The grace time of a class is read at a sub-index that a source's
record gives, and `CountersOnly` speaks of sub-indices below 256 alone. -/
structure CountsApart (e : Nat) (u t : State) : Prop extends CountersOnly e u t where
  ledger : LedgerApart e u t

namespace CountsApart

variable {e : Nat} {u t : State}

theorem event (c ev n : Nat) (s : State) : CountsApart (c / 4) s (Perf.event c ev n s) := ⟨.event .., .event ..⟩

theorem trans {s : State} (h : CountsApart e s t) (k : CountsApart e t u) : CountsApart e s u :=
  ⟨h.toCountersOnly.trans k.toCountersOnly, h.ledger.trans k.ledger⟩

/-- The entries follow from the Ledger's keys. -/
theorem of_ledger (hr : t = { u with ledger := t.ledger, engines := t.engines, free := t.free }) (hl : LedgerApart e u t)
    (he : ∀ k, (t.eng k).uncounted = (u.eng k).uncounted) : CountsApart e u t :=
  ⟨⟨hr, fun _ _ _ _ => hl.get _ _ (by omega), he⟩, hl⟩

/-- An entry outside the performance groups reads the same. -/
theorem rd (h : CountsApart e u t) {i j : Nat} (hi : (i * 256 + j) / 256 ≠ 0x5400 + e) : t.rd i j = u.rd i j :=
  h.ledger.get _ _ hi

/-- Counting is apart from a write of an entry. -/
theorem wr (h : CountsApart e u t) (i j v : Nat) : CountsApart e (u.wr i j v) (t.wr i j v) := by
  refine of_ledger ?_ ⟨fun d k hk => ?_⟩ h.engines
  · show { t with ledger := (t.wr i j v).ledger } = _
    rw [h.rest]; rfl
  · obtain rfl | hne := Decidable.em (k = i * 256 + j)
    · exact (Map.get_put_self ..).trans (Map.get_put_self ..).symm
    · exact (Map.get_put_ne _ _ _ _ hne).trans ((h.ledger.get d k hk).trans (Map.get_put_ne _ _ _ _ hne).symm)

theorem inc (h : CountsApart e u t) {i j : Nat} (hi : (i * 256 + j) / 256 ≠ 0x5400 + e) :
    CountsApart e (u.inc i j) (t.inc i j) := by
  unfold State.inc
  rw [h.rd hi]
  exact h.wr i j _

/-- Counting is apart from an update that reads and writes neither the Ledger nor the engines. -/
theorem modSource (h : CountsApart e u t) (id : Nat) (f : Source → Source) :
    CountsApart e (u.modSource id f) (t.modSource id f) := by
  refine of_ledger ?_ ⟨h.ledger.get⟩ h.engines
  show { t with sources := (t.modSource id f).sources } = _
  rw [h.rest]; rfl

theorem modCtx (h : CountsApart e u t) (c : Nat) (f : Ctx → Ctx) : CountsApart e (u.modCtx c f) (t.modCtx c f) :=
  ⟨h.toCountersOnly.modCtx c f, ⟨h.ledger.get⟩⟩

theorem foldl {α : Type} (f : State → α → State) (hf : ∀ u t a, CountsApart e u t → CountsApart e (f u a) (f t a))
    (l : List α) (h : CountsApart e u t) : CountsApart e (l.foldl f u) (l.foldl f t) := by
  induction l generalizing u t with
  | nil => exact h
  | cons a l ih => exact ih (hf u t a h)

theorem ite {u' t' : State} {p : Prop} [Decidable p] (h : CountsApart e u t) (h' : CountsApart e u' t') :
    CountsApart e (if p then u else u') (if p then t else t') := by
  split
  · exact h
  · exact h'

theorem sources (h : CountsApart e u t) : t.sources = u.sources := by rw [h.rest]

theorem ticks (h : CountsApart e u t) : t.ticks = u.ticks := by rw [h.rest]

theorem source (h : CountsApart e u t) (id : Nat) : t.source id = u.source id := by
  unfold State.source; rw [h.sources]

/-! ### The Audit unit's counting reads no counter of an engine -/

theorem judge (he : e < 32) (h : CountsApart e u t) (id : Nat) : CountsApart e (Audit.judge id u) (Audit.judge id t) := by
  have hesc (n : Nat) : Audit.escalates t id n = Audit.escalates u id n := by
    unfold Audit.escalates; rw [h.sources, h.ticks]
  unfold Audit.judge
  dsimp only
  rw [h.source, hesc]
  have hg (v w : State) (k : CountsApart e v w) (n : Nat) : Audit.grace w n = Audit.grace v n := k.rd (by omega)
  split
  · have k := h.inc (i := 0x7400) (j := 9) (by omega)
    rw [hg _ _ k, k.ticks]
    exact k.modSource ..
  · rw [hg _ _ h, h.ticks]
    exact h.modSource ..

theorem sever (he : e < 32) (h : CountsApart e u t) (id : Nat) : CountsApart e (Audit.sever id u) (Audit.sever id t) := by
  have hrd : t.rdField (0x8000 + id) 2 0 2 = u.rdField (0x8000 + id) 2 0 2 := by
    unfold State.rdField; rw [h.rd (by omega)]
  unfold Audit.sever
  dsimp only
  rw [hrd, h.ticks]
  have k (f : Source → Source) := h.modSource id f
  have hsame (f : Source → Source) : Audit.sameTick (t.modSource id f) id = Audit.sameTick (u.modSource id f) id := by
    unfold Audit.sameTick; rw [(k f).sources, (k f).ticks]
  rw [hsame]
  exact foldl _ (fun _ _ a m => judge he m a) _ (k _)

theorem auditCount (he : e < 32) (h : CountsApart e u t) (id : Nat) : CountsApart e (Audit.count id u) (Audit.count id t) := by
  have hw : Audit.window t id = Audit.window u id := by unfold Audit.window; rw [h.rd (by omega)]
  have ht : Audit.threshold t id = Audit.threshold u id := by
    unfold Audit.threshold State.rdField; rw [h.rd (by omega)]
  unfold Audit.count
  dsimp only
  rw [h.source, h.ticks, hw, ht]
  exact .ite (h.sever he id) (h.modSource ..)

/-- An occurrence of a source beyond the channels' reaches the Audit in the same way before and after counting. -/
theorem raise (he : e < 32) (h : CountsApart e u t) {id : Nat} (hid : 0x1000 ≤ id) :
    CountsApart e (Audit.raise id u) (Audit.raise id t) := by
  have hs (s : State) : Audit.silenced s id = false := by simp [Audit.silenced, Nat.not_lt.mpr hid]
  unfold Audit.raise
  dsimp only
  rw [hs, hs, h.source, h.ticks]
  have k := (h.inc (i := 0x8000 + id) (j := 4) (by omega)).modSource id fun r => { r with sticky := true, lastAt := some u.ticks }
  split
  · exact h
  · rw [k.source]
    split
    · exact k
    · exact k.auditCount he id

theorem raiseIf (he : e < 32) (h : CountsApart e u t) (b : Bool) {id : Nat} (hid : 0x1000 ≤ id) :
    CountsApart e (Audit.raiseIf b id u) (Audit.raiseIf b id t) := by
  unfold Audit.raiseIf
  split
  · exact h.raise he hid
  · exact h

end CountsApart

/-! ### The Audit unit's counting changes entries and sources alone -/

/-- `t` is `s` but for entries and Audit sources. -/
def AuditOnly (s t : State) : Prop := t = { s with ledger := t.ledger, sources := t.sources }

namespace AuditOnly

variable {s t u : State}

theorem refl (s : State) : AuditOnly s s := rfl

theorem pending (h : AuditOnly s t) : t.pending = s.pending := by rw [h]

theorem now (h : AuditOnly s t) : t.now = s.now := by rw [h]

theorem ticks (h : AuditOnly s t) : t.ticks = s.ticks := by rw [h]

theorem trans (h : AuditOnly s t) (k : AuditOnly t u) : AuditOnly s u := by
  unfold AuditOnly at *; rw [k, h]

theorem ite {p : Prop} [Decidable p] (h : AuditOnly s t) (k : AuditOnly s u) : AuditOnly s (if p then t else u) := by
  split
  · exact h
  · exact k

theorem wr (s : State) (i j v : Nat) : AuditOnly s (s.wr i j v) := rfl

theorem modSource (s : State) (id : Nat) (f : Source → Source) : AuditOnly s (s.modSource id f) := rfl

theorem judge (id : Nat) (s : State) : AuditOnly s (Audit.judge id s) := by
  unfold Audit.judge
  dsimp only
  split
  · exact (wr ..).trans (modSource ..)
  · exact modSource ..

theorem sever (id : Nat) (s : State) : AuditOnly s (Audit.sever id s) :=
  List.foldlRecOn _ _ (motive := AuditOnly s) (modSource ..) fun t ht a _ => ht.trans (judge a t)

theorem count (id : Nat) (s : State) : AuditOnly s (Audit.count id s) := by
  unfold Audit.count
  dsimp only
  exact ite (sever id s) (modSource ..)

theorem raise (id : Nat) (s : State) : AuditOnly s (Audit.raise id s) := by
  have h := (wr s (0x8000 + id) 4 (satAdd u32max (s.rd (0x8000 + id) 4) 1)).trans (modSource _ id fun r =>
    { r with sticky := true, lastAt := some (s.inc (0x8000 + id) 4).ticks })
  unfold Audit.raise
  dsimp only
  split
  · exact refl s
  · split
    · exact h
    · exact h.trans (count ..)

theorem raiseIf (b : Bool) (id : Nat) (s : State) : AuditOnly s (Audit.raiseIf b id s) := by
  unfold Audit.raiseIf
  split
  · exact raise id s
  · exact refl s

end AuditOnly

/-! ### Traps -/

namespace Claim

/-- Trap entry of a context in no trap is `trapped` after the Audit unit has seen a data error, and counts (R314, R315). -/
theorem trapEntry_trapped {s : State} {c : Fin 128} (hin : (s.ctx c).inTrap = false) (r : Trap) (pc : BitVec 13) :
    CountersOnly (c / 4) (trapped c r.cause r.info pc (Audit.raiseIf (decide (r.cause = 9)) (0x1480 + c / 4 * 4) s))
      (Seq.trapEntry c r pc s) := by
  have he : c.val / 4 < 32 := by omega
  have h := (((CountsApart.event c 23 1 s).trans (.event c 1 4 _)).raiseIf he (decide (r.cause = 9))
    (id := 0x1480 + c.val / 4 * 4) (by omega))
  unfold Seq.trapEntry trapped
  simp only [hin, Bool.false_eq_true, if_false]
  rw [h.rd (by omega)]
  have k := h.modCtx c fun x => { x with
      trapPc := pc, cause := r.cause, double := false, trapInfo := r.info, trapFlags := x.flags, inTrap := true,
      pc := BitVec.ofNat 13 ((Audit.raiseIf (decide (r.cause = 9)) (0x1480 + c.val / 4 * 4) s).rd (0x5100 + c) 4) }
  exact (k.inc (by omega)).toCountersOnly

end Claim
end Sys2Proof
end

section
/-! SUPPORT. Loads of data memory and their traps, and the check steps that load (R302, R303, R314). -/

namespace Sys2Proof

open Machine

namespace Machine

/-! ### Regions of the data space (R303, R322) -/

theorem Seq.region_data {w : Word} {n : Nat} (b : Bool) (ha : w.toNat % n = 0) (hw : w.toNat < 0x4000) :
    Seq.region w n b = .ok (.data w.toNat) := by
  simp [Seq.region, ha, hw]

theorem Seq.region_misaligned {w : Word} {n : Nat} (b : Bool) (ha : w.toNat % n ≠ 0) :
    Seq.region w n b = .error (.align w) := by
  simp [Seq.region, ha]

/-- No path word lies where Table 12-1 maps none. -/
theorem Seq.pathRegion_unmapped {w : Word} (b : Bool) (hu : Claim.unmapped w) (hp : 0x20000 ≤ w.toNat) :
    Seq.pathRegion w.toNat b = none := by
  unfold Claim.unmapped at hu
  unfold Seq.pathRegion
  iterate 5 rw [if_neg (by omega)]

theorem Seq.region_unmapped {w : Word} {n : Nat} (b : Bool) (ha : w.toNat % n = 0) (hu : Claim.unmapped w) :
    Seq.region w n b = .error (.access w) := by
  have hu' := hu
  unfold Claim.unmapped at hu
  unfold Seq.region
  dsimp only
  rw [if_neg (by omega), if_neg (by omega), if_neg (by omega)]
  split
  · rw [Seq.pathRegion_unmapped b hu' (by omega)]
  · rfl

/-! ### Loads of data memory -/

theorem Seq.bad_iff (s : State) (e a n : Nat) : Seq.bad s e a n = true ↔ ¬Claim.sound s e a n := by
  simp [Seq.bad, Claim.sound]

/-- The little-endian value of octets, byte by byte. -/
theorem Seq.dataRead_eq_dataValue (s : State) (e a n : Nat) : Seq.dataRead s e a n = Claim.dataValue s e a n := by
  unfold Seq.dataRead Seq.dataBytes Seq.bytes Seq.dataAddr
  induction n generalizing a with
  | zero => rfl
  | succ n ih =>
    rw [List.range_succ_eq_map, List.map_cons, List.map_map, leNat, Claim.dataValue, ← ih]
    simp only [Nat.add_zero, Function.comp_def, Nat.succ_eq_add_one, Claim.dataByte, Nat.add_assoc, Nat.add_comm 1]

theorem Seq.load_data {w : Word} {n : Nat} {c : Nat} {s : State} (ha : w.toNat % n = 0) (hw : w.toNat < 0x4000)
    (hs : Claim.sound s (c / 4) w.toNat n) :
    Seq.load c w n s = .value (Claim.dataValue s (c / 4) w.toNat n) (Perf.event c 10 1 s) := by
  have hb : ¬Seq.bad s (c / 4) w.toNat n = true := fun h => (Seq.bad_iff ..).mp h hs
  simp only [Seq.load, Seq.region_data _ ha hw, if_neg hb, Seq.dataRead_eq_dataValue]

theorem Seq.load_bad {w : Word} {n : Nat} {c : Nat} {s : State} (ha : w.toNat % n = 0) (hw : w.toNat < 0x4000)
    (hs : ¬Claim.sound s (c / 4) w.toNat n) : Seq.load c w n s = .trap (.data w) := by
  simp only [Seq.load, Seq.region_data _ ha hw, if_pos ((Seq.bad_iff ..).mpr hs)]

theorem Seq.load_misaligned {w : Word} {n : Nat} {c : Nat} {s : State} (ha : w.toNat % n ≠ 0) :
    Seq.load c w n s = .trap (.align w) := by
  simp only [Seq.load, Seq.region_misaligned _ ha]

theorem Seq.load_unmapped {w : Word} {n : Nat} {c : Nat} {s : State} (ha : w.toNat % n = 0) (hu : Claim.unmapped w) :
    Seq.load c w n s = .trap (.access w) := by
  simp only [Seq.load, Seq.region_unmapped _ ha hu]

theorem LGroup.ofIndex_context (ca : Bool) {i : Nat} (h : 0x5100 ≤ i) (h' : i < 0x5180) :
    LGroup.ofIndex ca i = some (.context (i - 0x5100)) := by
  unfold LGroup.ofIndex
  simp (disch := omega) only [if_neg, if_pos]

/-- A read of an entry is the value its group computes, or else the one stored (R57). -/
theorem State.view_of_group (t : State) {r : LGroup} {i j : Nat} (hi : LGroup.ofIndex t.ca i = some r) (hj : j ≠ 0) :
    t.view i j = (View.group t r j).getD (t.rd i j) := by
  unfold State.view
  rw [hi]
  exact if_neg hj

theorem View.group_trapRecord (s : State) (c : Nat) :
    View.group s (.context c) 0x0E = some (Seq.trapRecord (s.ctx c)) := rfl

/-- TrapRecord shows the context's last trap (Table 12-10). -/
theorem State.view_trapRecord (t : State) (c : Fin 128) : t.view (0x5100 + c) 0x0E = Seq.trapRecord (t.ctx c) := by
  have hi : LGroup.ofIndex t.ca (0x5100 + c) = some (.context c) :=
    (LGroup.ofIndex_context _ (by omega) (by omega)).trans (by rw [Nat.add_sub_cancel_left])
  rw [t.view_of_group hi (by decide), View.group_trapRecord, Option.getD_some]

end Machine

namespace Claim

theorem trapped_ctx (c cause : Nat) (info : Word) (pc : BitVec 13) (s : State) :
    (trapped c cause info pc s).ctx c = { s.ctx c with
      trapPc := pc, cause := cause, double := false, trapInfo := info, trapFlags := (s.ctx c).flags, inTrap := true,
      pc := BitVec.ofNat 13 (s.rd (0x5100 + c) 4) } := by
  simp [trapped]

/-- An instruction that traps, by another trap than swi's and brk's, leaves trap entry's effect. -/
theorem traps_of_exec1 {s : State} {c : Fin 128} {i : Instr} {op : SeqOp} {r : Trap} (h : CanIssue s c)
    (harm : exec i s = issued (Seq.issue c op) s) (hr : op.reserved = none)
    (hx : Seq.exec1 c op (Seq.past c op s) = .trap r) (hc : ¬(r.cause = 6 ∨ r.cause = 7))
    (hin : (s.ctx c).inTrap = false) :
    ∃ t, exec i s = .next t ∧ CountersOnly (c / 4)
      (trapped c r.cause r.info (s.ctx c).pc (Audit.raiseIf (decide (r.cause = 9)) (0x1480 + c / 4 * 4) s)) t := by
  have h1 := Seq.issue_trap h hr hx
  rw [if_neg hc] at h1
  have h2 := (trapEntry_trapped hin r (s.ctx c).pc).trans h1
  have ha : AuditOnly s _ := .raiseIf (decide (r.cause = 9)) (0x1480 + c.val / 4 * 4) s
  refine ⟨Seq.issue c op s, ?_, h2⟩
  rw [harm]
  unfold issued
  rw [if_pos h.power]
  exact congrArg _ (h2.keep_eq ha.pending ha.now ha.ticks)

/-- A trap that is no data error leaves trap entry's effect alone, and TrapRecord shows it. -/
theorem trapsAt_of_exec1 {s : State} {c : Fin 128} {i : Instr} {op : SeqOp} {r : Trap} (h : CanIssue s c)
    (harm : exec i s = issued (Seq.issue c op) s) (hr : op.reserved = none)
    (hx : Seq.exec1 c op (Seq.past c op s) = .trap r) (hc : r.cause < 6) :
    TrapsAt s c i r.cause r.info (s.ctx c).pc := by
  intro hin
  obtain ⟨t, ht, hct⟩ := traps_of_exec1 h harm hr hx (by omega) hin
  have h9 : decide (r.cause = 9) = false := decide_eq_false (by omega)
  rw [h9] at hct
  refine ⟨t, ht, hct, ?_⟩
  rw [State.view_trapRecord, hct.ctx c]
  have hctx := trapped_ctx c r.cause r.info (s.ctx c).pc s
  simp [Audit.raiseIf, hctx, Seq.trapRecord, b01]

/-! ### Loads of data memory (R303, R314) -/

theorem dataValue_past (c : Nat) (op : SeqOp) (s : State) (e a n : Nat) :
    dataValue (Seq.past c op s) e a n = dataValue s e a n := by
  rw [← Seq.dataRead_eq_dataValue, ← Seq.dataRead_eq_dataValue]; rfl

theorem dataValue_one (s : State) (e a : Nat) : dataValue s e a 1 = (dataByte s e a).toNat := by
  simp [dataValue]

/-- An instruction loads as stated where it traps with its load's trap and completes with the value loaded. -/
theorem loads_of_exec1 {c : Fin 128} {i : Instr} {op : SeqOp} {size : Nat} {addr : Ctx → Word} {f : Nat → Ctx → Ctx}
    (harm : ∀ s, exec i s = issued (Seq.issue c op) s) (hr : op.reserved = none)
    (htrap : ∀ s r, Seq.load c (addr (s.ctx c)) size (Seq.past c op s) = .trap r →
      Seq.exec1 c op (Seq.past c op s) = .trap r)
    (hvalue : ∀ s u v, v = dataValue s (c / 4) (addr (s.ctx c)).toNat size →
      Seq.load c (addr (s.ctx c)) size (Seq.past c op s) = .value v u → CountersOnly (c / 4) (Seq.past c op s) u →
      ∃ t, Seq.exec1 c op (Seq.past c op s) = .ok t ∧
        CountersOnly (c / 4) (s.modCtx c fun x => { f v x with pc := x.pc + BitVec.ofNat 13 op.len }) t) :
    Loads c i op.len size addr f := by
  intro s h
  refine ⟨fun ha hw hs => ?_, fun ha hw hs hin => ?_, fun ha => ?_, fun ha hu => ?_⟩
  · have hl := Seq.load_data (c := c) (s := Seq.past c op s) ha hw hs
    rw [dataValue_past] at hl
    obtain ⟨t, hx, ht⟩ := hvalue s _ _ rfl hl (.event ..)
    exact issuesAt_of_exec1 h (harm s) hr hx ht
  · have hx := htrap s (.data (addr (s.ctx c))) (Seq.load_bad ha hw hs)
    exact traps_of_exec1 (r := .data _) h (harm s) hr hx (by simp [Trap.data]) hin
  · have hx := htrap s (.align (addr (s.ctx c))) (Seq.load_misaligned ha)
    exact trapsAt_of_exec1 (r := .align _) h (harm s) hr hx (by simp [Trap.align])
  · have hx := htrap s (.access (addr (s.ctx c))) (Seq.load_unmapped ha hu)
    exact trapsAt_of_exec1 (r := .access _) h (harm s) hr hx (by simp [Trap.access])

/-! ### The check steps (R302) -/

theorem exec1_crcm_trap {c : Nat} {f : CrcM} {gd gs : Reg} {s : State} {r : Trap}
    (hl : Seq.load c ((s.ctx c).g.get gs) 1 s = .trap r) : Seq.exec1 c (.crcm f gd gs) s = .trap r := by
  simp only [Seq.exec1, hl]

theorem exec1_crcm_value {c : Nat} {f : CrcM} {gd gs : Reg} {s u : State} {b : Nat}
    (hl : Seq.load c ((s.ctx c).g.get gs) 1 s = .value b u) :
    Seq.exec1 c (.crcm f gd gs) s = .ok (Seq.setRes c gd (Flags.crcm f ((s.ctx c).g.get gd) b) true
      (Seq.setReg c gs ((s.ctx c).g.get gs + 1) (Perf.event c 31 1 u))) := by
  simp only [Seq.exec1, hl]

theorem issues_crc {c : Fin 128} {i : Instr} {f : CrcF} {gd gs : Fin 8} {step : Word → Word → Word}
    (harm : ∀ s, exec i s = issued (Seq.issue c (.crc f gd gs)) s)
    (hs : ∀ a b, Flags.crc f a b = Flags.zOnly (step a b).toNat) :
    Issues c i 1 fun x => zResult gd (step (g gd x) (g gs x)) x := by
  refine issues_of_result (op := .crc f gd gs) (fun r _ => Flags.crc f (r.get gd) (r.get gs)) harm rfl
    (fun s => ⟨_, .event .., rfl⟩) fun x => ?_
  rw [hs, withRes_zOnly]
  rfl

/-- A check step on a byte of memory: the address register moves on by one first, so that the check stands last. -/
theorem loads_crcm {c : Fin 128} {i : Instr} {f : CrcM} {gd gs : Fin 8} {step : Word → BitVec 8 → Word}
    (harm : ∀ s, exec i s = issued (Seq.issue c (.crcm f gd gs)) s) (hne : gd ≠ gs)
    (hs : ∀ a (b : BitVec 8), Flags.crcm f a b.toNat = Flags.zOnly (step a b).toNat) :
    Loads c i 1 1 (g gs) fun b x => zResult gd (step (g gd x) (BitVec.ofNat 8 b)) (put gs (g gs x + 1) x) := by
  refine loads_of_exec1 (op := .crcm f gd gs) harm (if_neg hne)
    (fun s r hl => exec1_crcm_trap (by rw [Seq.past_g]; exact hl)) fun s u v hv hl hu => ?_
  have hx := exec1_crcm_value (f := f) (gd := gd) (gs := gs) (by rw [Seq.past_g]; exact hl)
  have hb : v = (BitVec.ofNat 8 v).toNat := by
    rw [hv, dataValue_one, BitVec.ofNat_toNat, BitVec.setWidth_eq]
  have hstep (a : Word) : Flags.crcm f a v = Flags.zOnly (step a (BitVec.ofNat 8 v)).toNat := by rw [← hs, ← hb]
  refine ⟨_, hx, ?_⟩
  rw [Seq.past_g, hstep]
  have hcount := ((hu.trans (.event c 31 1 u)).modCtx c fun x => x.set gs (g gs (s.ctx c) + 1)).modCtx c
    (Ctx.withRes gd (Flags.zOnly (step (g gd (s.ctx c)) (BitVec.ofNat 8 v)).toNat))
  convert hcount using 1
  · rw [Seq.past, State.modCtx_modCtx, State.modCtx_modCtx]
    exact State.modCtx_congr (by rw [withRes_zOnly]; rfl)
  · rfl

/-- Settles O7: the steps on a register compute a result; those on memory load a byte, or trap with the load's trap. -/
theorem cyclicCheckSteps : Obligations.CyclicCheckSteps := by
  intro c gd gs
  refine ⟨issues_crc (step := fun a b => crc8Step a (octetOf b 0)) (fun _ => rfl) fun a b => ?_,
    issues_crc (step := fun a b => crc16Step a (octetOf b 0)) (fun _ => rfl) fun a b => ?_,
    issues_crc (step := fun a b => crc32Step a (octetOf b 0)) (fun _ => rfl) fun a b => ?_,
    issues_crc (step := fun a b => (List.range 4).foldl (fun a k => crc32Step a (octetOf b k)) a) (fun _ => rfl) fun a b => ?_,
    fun hne => ⟨loads_crcm (fun _ => rfl) hne fun a b => ?_, loads_crcm (fun _ => rfl) hne fun a b => ?_,
      loads_crcm (fun _ => rfl) hne fun a b => ?_⟩⟩
  · rw [← Flags.crc8_toNat, Flags.octetOf_toNat_zero]; rfl
  · rw [← Flags.crc16_toNat, Flags.octetOf_toNat_zero]; rfl
  · rw [← Flags.crc32_toNat, Flags.octetOf_toNat_zero]; rfl
  · rw [← Flags.crc32w_toNat]; rfl
  · rw [← Flags.crc8_toNat]; rfl
  · rw [← Flags.crc16_toNat]; rfl
  · rw [← Flags.crc32_toNat]; rfl

end Claim
end Sys2Proof
end
